-- ==== Sys2Proof/Word.lean ====
section
/-! DEFINITION. The machine's word types and their plainest arithmetic (R7, R80, R83). -/

namespace Sys2Proof

/-- A byte, the smallest addressable unit (R80, R83). -/
abbrev Byte := BitVec 8

/-- A double-word: a general register, an address (R20, R80). -/
abbrev Word := BitVec 32

/-- A quad-word: the contents of a floating-point register (R57). -/
abbrev Quad := BitVec 64

/-- The number of one of eight registers, R0 to R7 or F0 to F7 (R20, R57). -/
abbrev Reg := Fin 8

/-- A size in bits used by length attributes: B, W, D (or F) and Q (or L) (R8, R137, R138). -/
inductive Size where
  /-- byte -/
  | b
  /-- word -/
  | w
  /-- double-word, or a single-precision value -/
  | d
  /-- quad-word, or a double-precision value -/
  | q
  deriving DecidableEq, Repr

/-- The size in bytes (R8). -/
def Size.bytes : Size → Nat
  | .b => 1
  | .w => 2
  | .d => 4
  | .q => 8

/-- The size in bits (R8). -/
def Size.bits : Size → Nat
  | .b => 8
  | .w => 16
  | .d => 32
  | .q => 64

end Sys2Proof
end

