-- ==== Sys2Proof/Syntax.lean ====
section
/-! DEFINITION. The instructions of the Series 32000: one constructor of `Instr` per row of
`spec/opcode_table.json`, with operands in the shape of `spec/30_encoding.md`. -/

namespace Sys2Proof

/-- A displacement field, which keeps the length it is encoded in (R143). -/
inductive Disp where
  /-- one byte, a 7-bit signed value -/
  | d7 (v : BitVec 7)
  /-- two bytes, a 14-bit signed value -/
  | d14 (v : BitVec 14)
  /-- four bytes, a 30-bit signed value -/
  | d30 (v : BitVec 30)
  deriving DecidableEq, Repr

/-- An immediate value, as long as its operand (R146). -/
inductive ImmVal where
  /-- one byte -/
  | b (v : BitVec 8)
  /-- two bytes -/
  | w (v : BitVec 16)
  /-- four bytes -/
  | d (v : BitVec 32)
  /-- eight bytes -/
  | q (v : BitVec 64)
  deriving DecidableEq, Repr

/-- An addressing mode without Scaled Indexing (R159). -/
inductive Mode where
  /-- Register, gen 00000 to 00111 (R151) -/
  | reg (n : Reg)
  /-- Register Relative, gen 01000 to 01111 (R153) -/
  | regRel (n : Reg) (d : Disp)
  /-- Frame Memory Relative, gen 10000 (R154) -/
  | frameRel (d1 d2 : Disp)
  /-- Stack Memory Relative, gen 10001 (R154) -/
  | stackRel (d1 d2 : Disp)
  /-- Static Memory Relative, gen 10010 (R154) -/
  | staticRel (d1 d2 : Disp)
  /-- Immediate, gen 10100 (R155) -/
  | imm (v : ImmVal)
  /-- Absolute, gen 10101 (R156) -/
  | abs (d : Disp)
  /-- External, gen 10110 (R157) -/
  | ext (d1 d2 : Disp)
  /-- Top of Stack, gen 10111 (R158) -/
  | tos
  /-- Frame Memory, gen 11000 (R160) -/
  | frame (d : Disp)
  /-- Stack Memory, gen 11001 (R160) -/
  | stack (d : Disp)
  /-- Static Memory, gen 11010 (R160) -/
  | static (d : Disp)
  /-- Program Memory, gen 11011 (R160) -/
  | prog (d : Disp)
  deriving DecidableEq, Repr

/-- A general operand: a mode, or a base mode with a scaled index register (R162). -/
inductive Gen where
  /-- no Scaled Indexing -/
  | plain (m : Mode)
  /-- Scaled Indexing, gen 11100 to 11111: the scale is the size's number of bytes -/
  | indexed (scale : Size) (base : Mode) (idx : Reg)
  deriving DecidableEq, Repr

/-- Access class and length attribute of a general operand (R130 to R138). -/
inductive Attr where
  /-- class read -/
  | read (sz : Size)
  /-- class write -/
  | write (sz : Size)
  /-- class rmw -/
  | rmw (sz : Size)
  /-- class addr -/
  | addr
  /-- class regaddr -/
  | regaddr
  deriving DecidableEq, Repr

/-- The processor registers that LPRi and SPRi name (R430). -/
inductive ProcReg where
  /-- the low byte of PSR -/
  | upsr
  /-- debug control -/
  | dcr
  /-- breakpoint PC -/
  | bpc
  /-- debug status -/
  | dsr
  /-- compare address -/
  | car
  /-- frame pointer -/
  | fp
  /-- the selected stack pointer -/
  | sp
  /-- static base -/
  | sb
  /-- SP1 -/
  | usp
  /-- configuration -/
  | cfg
  /-- the whole PSR -/
  | psr
  /-- interrupt base -/
  | intbase
  /-- module register -/
  | mod
  deriving DecidableEq, Repr

/-- The memory-management registers that LMR and SMR name (R68). -/
inductive MmuReg where
  /-- control -/
  | mcr
  /-- status -/
  | msr
  /-- translation exception address -/
  | tear
  /-- page table base 0 -/
  | ptb0
  /-- page table base 1 -/
  | ptb1
  /-- invalidate address 0 -/
  | ivar0
  /-- invalidate address 1 -/
  | ivar1
  deriving DecidableEq, Repr

/-- The UW option of a string instruction (R351). -/
inductive Until where
  /-- 00: no match condition -/
  | none
  /-- 01: While match -/
  | whileMatch
  /-- 11: Until match -/
  | untilMatch
  deriving DecidableEq, Repr

/-- The fourteen conditions of Bcond and Scondi (R381). -/
inductive Cond where
  | eq | ne | cs | cc | hi | ls | gt | le | fs | fc | lo | hs | lt | ge
  deriving DecidableEq, Repr

/-- The instructions, one constructor per row of `spec/opcode_table.json`, in the table's order.
Operands stand in the order of the encoding: implied `reg`, `quick` or `short` field, Operand A,
Operand B, implied `imm` and `disp` (R122). -/
inductive Instr where
  /-- BEQ (R382) -/
  | beq (d : Disp)
  /-- BNE (R382) -/
  | bne (d : Disp)
  /-- BCS (R382) -/
  | bcs (d : Disp)
  /-- BCC (R382) -/
  | bcc (d : Disp)
  /-- BHI (R382) -/
  | bhi (d : Disp)
  /-- BLS (R382) -/
  | bls (d : Disp)
  /-- BGT (R382) -/
  | bgt (d : Disp)
  /-- BLE (R382) -/
  | ble (d : Disp)
  /-- BFS (R382) -/
  | bfs (d : Disp)
  /-- BFC (R382) -/
  | bfc (d : Disp)
  /-- BLO (R382) -/
  | blo (d : Disp)
  /-- BHS (R382) -/
  | bhs (d : Disp)
  /-- BLT (R382) -/
  | blt (d : Disp)
  /-- BGE (R382) -/
  | bge (d : Disp)
  /-- BR (R383) -/
  | br (d : Disp)
  /-- BSR (R387) -/
  | bsr (d : Disp)
  /-- RET (R389) -/
  | ret (d : Disp)
  /-- CXP (R391) -/
  | cxp (d : Disp)
  /-- RXP (R393) -/
  | rxp (d : Disp)
  /-- RETT (R398) -/
  | rett (d : Disp)
  /-- RETI (R400) -/
  | reti
  /-- SAVE (R423) -/
  | save (l : BitVec 8)
  /-- RESTORE (R424) -/
  | restore (l : BitVec 8)
  /-- ENTER (R425) -/
  | enter (l : BitVec 8) (d : Disp)
  /-- EXIT (R426) -/
  | exit (l : BitVec 8)
  /-- NOP (R434) -/
  | nop
  /-- WAIT (R435) -/
  | wait
  /-- DIA (R436) -/
  | dia
  /-- FLAG (R397) -/
  | flag
  /-- SVC (R399) -/
  | svc
  /-- BPT (R396) -/
  | bpt
  /-- ADDQB (R206) -/
  | addqb (q : BitVec 4) (g : Gen)
  /-- ADDQW (R206) -/
  | addqw (q : BitVec 4) (g : Gen)
  /-- ADDQD (R206) -/
  | addqd (q : BitVec 4) (g : Gen)
  /-- CMPQB (R228) -/
  | cmpqb (q : BitVec 4) (g : Gen)
  /-- CMPQW (R228) -/
  | cmpqw (q : BitVec 4) (g : Gen)
  /-- CMPQD (R228) -/
  | cmpqd (q : BitVec 4) (g : Gen)
  /-- SPRB (R432) -/
  | sprb (r : ProcReg) (g : Gen)
  /-- SPRW (R432) -/
  | sprw (r : ProcReg) (g : Gen)
  /-- SPRD (R432) -/
  | sprd (r : ProcReg) (g : Gen)
  /-- SEQB (R311) -/
  | seqb (g : Gen)
  /-- SNEB (R311) -/
  | sneb (g : Gen)
  /-- SCSB (R311) -/
  | scsb (g : Gen)
  /-- SCCB (R311) -/
  | sccb (g : Gen)
  /-- SHIB (R311) -/
  | shib (g : Gen)
  /-- SLSB (R311) -/
  | slsb (g : Gen)
  /-- SGTB (R311) -/
  | sgtb (g : Gen)
  /-- SLEB (R311) -/
  | sleb (g : Gen)
  /-- SFSB (R311) -/
  | sfsb (g : Gen)
  /-- SFCB (R311) -/
  | sfcb (g : Gen)
  /-- SLOB (R311) -/
  | slob (g : Gen)
  /-- SHSB (R311) -/
  | shsb (g : Gen)
  /-- SLTB (R311) -/
  | sltb (g : Gen)
  /-- SGEB (R311) -/
  | sgeb (g : Gen)
  /-- SEQW (R311) -/
  | seqw (g : Gen)
  /-- SNEW (R311) -/
  | snew (g : Gen)
  /-- SCSW (R311) -/
  | scsw (g : Gen)
  /-- SCCW (R311) -/
  | sccw (g : Gen)
  /-- SHIW (R311) -/
  | shiw (g : Gen)
  /-- SLSW (R311) -/
  | slsw (g : Gen)
  /-- SGTW (R311) -/
  | sgtw (g : Gen)
  /-- SLEW (R311) -/
  | slew (g : Gen)
  /-- SFSW (R311) -/
  | sfsw (g : Gen)
  /-- SFCW (R311) -/
  | sfcw (g : Gen)
  /-- SLOW (R311) -/
  | slow (g : Gen)
  /-- SHSW (R311) -/
  | shsw (g : Gen)
  /-- SLTW (R311) -/
  | sltw (g : Gen)
  /-- SGEW (R311) -/
  | sgew (g : Gen)
  /-- SEQD (R311) -/
  | seqd (g : Gen)
  /-- SNED (R311) -/
  | sned (g : Gen)
  /-- SCSD (R311) -/
  | scsd (g : Gen)
  /-- SCCD (R311) -/
  | sccd (g : Gen)
  /-- SHID (R311) -/
  | shid (g : Gen)
  /-- SLSD (R311) -/
  | slsd (g : Gen)
  /-- SGTD (R311) -/
  | sgtd (g : Gen)
  /-- SLED (R311) -/
  | sled (g : Gen)
  /-- SFSD (R311) -/
  | sfsd (g : Gen)
  /-- SFCD (R311) -/
  | sfcd (g : Gen)
  /-- SLOD (R311) -/
  | slod (g : Gen)
  /-- SHSD (R311) -/
  | shsd (g : Gen)
  /-- SLTD (R311) -/
  | sltd (g : Gen)
  /-- SGED (R311) -/
  | sged (g : Gen)
  /-- ACBB (R386) -/
  | acbb (q : BitVec 4) (g : Gen) (d : Disp)
  /-- ACBW (R386) -/
  | acbw (q : BitVec 4) (g : Gen) (d : Disp)
  /-- ACBD (R386) -/
  | acbd (q : BitVec 4) (g : Gen) (d : Disp)
  /-- MOVQB (R220) -/
  | movqb (q : BitVec 4) (g : Gen)
  /-- MOVQW (R220) -/
  | movqw (q : BitVec 4) (g : Gen)
  /-- MOVQD (R220) -/
  | movqd (q : BitVec 4) (g : Gen)
  /-- LPRB (R431) -/
  | lprb (r : ProcReg) (g : Gen)
  /-- LPRW (R431) -/
  | lprw (r : ProcReg) (g : Gen)
  /-- LPRD (R431) -/
  | lprd (r : ProcReg) (g : Gen)
  /-- CXPD (R392) -/
  | cxpd (g : Gen)
  /-- BICPSRB (R428) -/
  | bicpsrb (g : Gen)
  /-- BICPSRW (R428) -/
  | bicpsrw (g : Gen)
  /-- JUMP (R384) -/
  | jump (g : Gen)
  /-- BISPSRB (R429) -/
  | bispsrb (g : Gen)
  /-- BISPSRW (R429) -/
  | bispsrw (g : Gen)
  /-- ADJSPB (R427) -/
  | adjspb (g : Gen)
  /-- ADJSPW (R427) -/
  | adjspw (g : Gen)
  /-- ADJSPD (R427) -/
  | adjspd (g : Gen)
  /-- JSR (R388) -/
  | jsr (g : Gen)
  /-- CASEB (R385) -/
  | caseb (g : Gen)
  /-- CASEW (R385) -/
  | casew (g : Gen)
  /-- CASED (R385) -/
  | cased (g : Gen)
  /-- ADDB (R205) -/
  | addb (a : Gen) (b : Gen)
  /-- ADDW (R205) -/
  | addw (a : Gen) (b : Gen)
  /-- ADDD (R205) -/
  | addd (a : Gen) (b : Gen)
  /-- CMPB (R227) -/
  | cmpb (a : Gen) (b : Gen)
  /-- CMPW (R227) -/
  | cmpw (a : Gen) (b : Gen)
  /-- CMPD (R227) -/
  | cmpd (a : Gen) (b : Gen)
  /-- BICB (R304) -/
  | bicb (a : Gen) (b : Gen)
  /-- BICW (R304) -/
  | bicw (a : Gen) (b : Gen)
  /-- BICD (R304) -/
  | bicd (a : Gen) (b : Gen)
  /-- ADDCB (R207) -/
  | addcb (a : Gen) (b : Gen)
  /-- ADDCW (R207) -/
  | addcw (a : Gen) (b : Gen)
  /-- ADDCD (R207) -/
  | addcd (a : Gen) (b : Gen)
  /-- MOVB (R219) -/
  | movb (a : Gen) (b : Gen)
  /-- MOVW (R219) -/
  | movw (a : Gen) (b : Gen)
  /-- MOVD (R219) -/
  | movd (a : Gen) (b : Gen)
  /-- ORB (R303) -/
  | orb (a : Gen) (b : Gen)
  /-- ORW (R303) -/
  | orw (a : Gen) (b : Gen)
  /-- ORD (R303) -/
  | ord (a : Gen) (b : Gen)
  /-- SUBB (R208) -/
  | subb (a : Gen) (b : Gen)
  /-- SUBW (R208) -/
  | subw (a : Gen) (b : Gen)
  /-- SUBD (R208) -/
  | subd (a : Gen) (b : Gen)
  /-- ADDR (R421) -/
  | addr (a : Gen) (b : Gen)
  /-- ANDB (R302) -/
  | andb (a : Gen) (b : Gen)
  /-- ANDW (R302) -/
  | andw (a : Gen) (b : Gen)
  /-- ANDD (R302) -/
  | andd (a : Gen) (b : Gen)
  /-- SUBCB (R209) -/
  | subcb (a : Gen) (b : Gen)
  /-- SUBCW (R209) -/
  | subcw (a : Gen) (b : Gen)
  /-- SUBCD (R209) -/
  | subcd (a : Gen) (b : Gen)
  /-- TBITB (R322) -/
  | tbitb (a : Gen) (b : Gen)
  /-- TBITW (R322) -/
  | tbitw (a : Gen) (b : Gen)
  /-- TBITD (R322) -/
  | tbitd (a : Gen) (b : Gen)
  /-- XORB (R305) -/
  | xorb (a : Gen) (b : Gen)
  /-- XORW (R305) -/
  | xorw (a : Gen) (b : Gen)
  /-- XORD (R305) -/
  | xord (a : Gen) (b : Gen)
  /-- MOVSB (R355) -/
  | movsb (u : Until) (bk : Bool)
  /-- MOVSW (R355) -/
  | movsw (u : Until) (bk : Bool)
  /-- MOVSD (R355) -/
  | movsd (u : Until) (bk : Bool)
  /-- MOVST (R356) -/
  | movst (u : Until) (bk : Bool)
  /-- CMPSB (R357) -/
  | cmpsb (u : Until) (bk : Bool)
  /-- CMPSW (R357) -/
  | cmpsw (u : Until) (bk : Bool)
  /-- CMPSD (R357) -/
  | cmpsd (u : Until) (bk : Bool)
  /-- CMPST (R358) -/
  | cmpst (u : Until) (bk : Bool)
  /-- SKPSB (R359) -/
  | skpsb (u : Until) (bk : Bool)
  /-- SKPSW (R359) -/
  | skpsw (u : Until) (bk : Bool)
  /-- SKPSD (R359) -/
  | skpsd (u : Until) (bk : Bool)
  /-- SKPST (R360) -/
  | skpst (u : Until) (bk : Bool)
  /-- SETCFG (R433) -/
  | setcfg (k : BitVec 4)
  /-- ROTB (R310) -/
  | rotb (a : Gen) (b : Gen)
  /-- ROTW (R310) -/
  | rotw (a : Gen) (b : Gen)
  /-- ROTD (R310) -/
  | rotd (a : Gen) (b : Gen)
  /-- ASHB (R308) -/
  | ashb (a : Gen) (b : Gen)
  /-- ASHW (R308) -/
  | ashw (a : Gen) (b : Gen)
  /-- ASHD (R308) -/
  | ashd (a : Gen) (b : Gen)
  /-- CBITB (R325) -/
  | cbitb (a : Gen) (b : Gen)
  /-- CBITW (R325) -/
  | cbitw (a : Gen) (b : Gen)
  /-- CBITD (R325) -/
  | cbitd (a : Gen) (b : Gen)
  /-- CBITIB (R326) -/
  | cbitib (a : Gen) (b : Gen)
  /-- CBITIW (R326) -/
  | cbitiw (a : Gen) (b : Gen)
  /-- CBITID (R326) -/
  | cbitid (a : Gen) (b : Gen)
  /-- LSHB (R309) -/
  | lshb (a : Gen) (b : Gen)
  /-- LSHW (R309) -/
  | lshw (a : Gen) (b : Gen)
  /-- LSHD (R309) -/
  | lshd (a : Gen) (b : Gen)
  /-- SBITB (R323) -/
  | sbitb (a : Gen) (b : Gen)
  /-- SBITW (R323) -/
  | sbitw (a : Gen) (b : Gen)
  /-- SBITD (R323) -/
  | sbitd (a : Gen) (b : Gen)
  /-- SBITIB (R324) -/
  | sbitib (a : Gen) (b : Gen)
  /-- SBITIW (R324) -/
  | sbitiw (a : Gen) (b : Gen)
  /-- SBITID (R324) -/
  | sbitid (a : Gen) (b : Gen)
  /-- NEGB (R210) -/
  | negb (a : Gen) (b : Gen)
  /-- NEGW (R210) -/
  | negw (a : Gen) (b : Gen)
  /-- NEGD (R210) -/
  | negd (a : Gen) (b : Gen)
  /-- NOTB (R307) -/
  | notb (a : Gen) (b : Gen)
  /-- NOTW (R307) -/
  | notw (a : Gen) (b : Gen)
  /-- NOTD (R307) -/
  | notd (a : Gen) (b : Gen)
  /-- SUBPB (R244) -/
  | subpb (a : Gen) (b : Gen)
  /-- SUBPW (R244) -/
  | subpw (a : Gen) (b : Gen)
  /-- SUBPD (R244) -/
  | subpd (a : Gen) (b : Gen)
  /-- ABSB (R211) -/
  | absb (a : Gen) (b : Gen)
  /-- ABSW (R211) -/
  | absw (a : Gen) (b : Gen)
  /-- ABSD (R211) -/
  | absd (a : Gen) (b : Gen)
  /-- COMB (R306) -/
  | comb (a : Gen) (b : Gen)
  /-- COMW (R306) -/
  | comw (a : Gen) (b : Gen)
  /-- COMD (R306) -/
  | comd (a : Gen) (b : Gen)
  /-- IBITB (R327) -/
  | ibitb (a : Gen) (b : Gen)
  /-- IBITW (R327) -/
  | ibitw (a : Gen) (b : Gen)
  /-- IBITD (R327) -/
  | ibitd (a : Gen) (b : Gen)
  /-- ADDPB (R243) -/
  | addpb (a : Gen) (b : Gen)
  /-- ADDPW (R243) -/
  | addpw (a : Gen) (b : Gen)
  /-- ADDPD (R243) -/
  | addpd (a : Gen) (b : Gen)
  /-- MOVMB (R366) -/
  | movmb (a : Gen) (b : Gen) (d : Disp)
  /-- MOVMW (R366) -/
  | movmw (a : Gen) (b : Gen) (d : Disp)
  /-- MOVMD (R366) -/
  | movmd (a : Gen) (b : Gen) (d : Disp)
  /-- CMPMB (R367) -/
  | cmpmb (a : Gen) (b : Gen) (d : Disp)
  /-- CMPMW (R367) -/
  | cmpmw (a : Gen) (b : Gen) (d : Disp)
  /-- CMPMD (R367) -/
  | cmpmd (a : Gen) (b : Gen) (d : Disp)
  /-- INSSB (R339) -/
  | inssb (a : Gen) (b : Gen) (im : BitVec 8)
  /-- INSSW (R339) -/
  | inssw (a : Gen) (b : Gen) (im : BitVec 8)
  /-- INSSD (R339) -/
  | inssd (a : Gen) (b : Gen) (im : BitVec 8)
  /-- EXTSB (R337) -/
  | extsb (a : Gen) (b : Gen) (im : BitVec 8)
  /-- EXTSW (R337) -/
  | extsw (a : Gen) (b : Gen) (im : BitVec 8)
  /-- EXTSD (R337) -/
  | extsd (a : Gen) (b : Gen) (im : BitVec 8)
  /-- MOVXBW (R221) -/
  | movxbw (a : Gen) (b : Gen)
  /-- MOVZBW (R224) -/
  | movzbw (a : Gen) (b : Gen)
  /-- MOVZBD (R225) -/
  | movzbd (a : Gen) (b : Gen)
  /-- MOVZWD (R226) -/
  | movzwd (a : Gen) (b : Gen)
  /-- MOVXBD (R222) -/
  | movxbd (a : Gen) (b : Gen)
  /-- MOVXWD (R223) -/
  | movxwd (a : Gen) (b : Gen)
  /-- MULB (R212) -/
  | mulb (a : Gen) (b : Gen)
  /-- MULW (R212) -/
  | mulw (a : Gen) (b : Gen)
  /-- MULD (R212) -/
  | muld (a : Gen) (b : Gen)
  /-- MEIB (R213) -/
  | meib (a : Gen) (b : Gen)
  /-- MEIW (R213) -/
  | meiw (a : Gen) (b : Gen)
  /-- MEID (R213) -/
  | meid (a : Gen) (b : Gen)
  /-- DEIB (R218) -/
  | deib (a : Gen) (b : Gen)
  /-- DEIW (R218) -/
  | deiw (a : Gen) (b : Gen)
  /-- DEID (R218) -/
  | deid (a : Gen) (b : Gen)
  /-- QUOB (R216) -/
  | quob (a : Gen) (b : Gen)
  /-- QUOW (R216) -/
  | quow (a : Gen) (b : Gen)
  /-- QUOD (R216) -/
  | quod (a : Gen) (b : Gen)
  /-- REMB (R217) -/
  | remb (a : Gen) (b : Gen)
  /-- REMW (R217) -/
  | remw (a : Gen) (b : Gen)
  /-- REMD (R217) -/
  | remd (a : Gen) (b : Gen)
  /-- MODB (R215) -/
  | modb (a : Gen) (b : Gen)
  /-- MODW (R215) -/
  | modw (a : Gen) (b : Gen)
  /-- MODD (R215) -/
  | modd (a : Gen) (b : Gen)
  /-- DIVB (R214) -/
  | divb (a : Gen) (b : Gen)
  /-- DIVW (R214) -/
  | divw (a : Gen) (b : Gen)
  /-- DIVD (R214) -/
  | divd (a : Gen) (b : Gen)
  /-- EXTB (R336) -/
  | extb (r : Reg) (a : Gen) (b : Gen) (d : Disp)
  /-- EXTW (R336) -/
  | extw (r : Reg) (a : Gen) (b : Gen) (d : Disp)
  /-- EXTD (R336) -/
  | extd (r : Reg) (a : Gen) (b : Gen) (d : Disp)
  /-- CVTP (R329) -/
  | cvtp (r : Reg) (a : Gen) (b : Gen)
  /-- INSB (R338) -/
  | insb (r : Reg) (a : Gen) (b : Gen) (d : Disp)
  /-- INSW (R338) -/
  | insw (r : Reg) (a : Gen) (b : Gen) (d : Disp)
  /-- INSD (R338) -/
  | insd (r : Reg) (a : Gen) (b : Gen) (d : Disp)
  /-- CHECKB (R371) -/
  | checkb (r : Reg) (a : Gen) (b : Gen)
  /-- CHECKW (R371) -/
  | checkw (r : Reg) (a : Gen) (b : Gen)
  /-- CHECKD (R371) -/
  | checkd (r : Reg) (a : Gen) (b : Gen)
  /-- INDEXB (R372) -/
  | indexb (r : Reg) (a : Gen) (b : Gen)
  /-- INDEXW (R372) -/
  | indexw (r : Reg) (a : Gen) (b : Gen)
  /-- INDEXD (R372) -/
  | indexd (r : Reg) (a : Gen) (b : Gen)
  /-- FFSB (R328) -/
  | ffsb (a : Gen) (b : Gen)
  /-- FFSW (R328) -/
  | ffsw (a : Gen) (b : Gen)
  /-- FFSD (R328) -/
  | ffsd (a : Gen) (b : Gen)
  /-- MOVSUB (R456) -/
  | movsub (a : Gen) (b : Gen)
  /-- MOVSUW (R456) -/
  | movsuw (a : Gen) (b : Gen)
  /-- MOVSUD (R456) -/
  | movsud (a : Gen) (b : Gen)
  /-- MOVUSB (R457) -/
  | movusb (a : Gen) (b : Gen)
  /-- MOVUSW (R457) -/
  | movusw (a : Gen) (b : Gen)
  /-- MOVUSD (R457) -/
  | movusd (a : Gen) (b : Gen)
  /-- MOVBF (R277) -/
  | movbf (a : Gen) (b : Gen)
  /-- MOVWF (R277) -/
  | movwf (a : Gen) (b : Gen)
  /-- MOVDF (R277) -/
  | movdf (a : Gen) (b : Gen)
  /-- MOVBL (R277) -/
  | movbl (a : Gen) (b : Gen)
  /-- MOVWL (R277) -/
  | movwl (a : Gen) (b : Gen)
  /-- MOVDL (R277) -/
  | movdl (a : Gen) (b : Gen)
  /-- LFSR (R275) -/
  | lfsr (g : Gen)
  /-- MOVLF (R273) -/
  | movlf (a : Gen) (b : Gen)
  /-- MOVFL (R274) -/
  | movfl (a : Gen) (b : Gen)
  /-- ROUNDFB (R278) -/
  | roundfb (a : Gen) (b : Gen)
  /-- ROUNDFW (R278) -/
  | roundfw (a : Gen) (b : Gen)
  /-- ROUNDFD (R278) -/
  | roundfd (a : Gen) (b : Gen)
  /-- ROUNDLB (R278) -/
  | roundlb (a : Gen) (b : Gen)
  /-- ROUNDLW (R278) -/
  | roundlw (a : Gen) (b : Gen)
  /-- ROUNDLD (R278) -/
  | roundld (a : Gen) (b : Gen)
  /-- TRUNCFB (R279) -/
  | truncfb (a : Gen) (b : Gen)
  /-- TRUNCFW (R279) -/
  | truncfw (a : Gen) (b : Gen)
  /-- TRUNCFD (R279) -/
  | truncfd (a : Gen) (b : Gen)
  /-- TRUNCLB (R279) -/
  | trunclb (a : Gen) (b : Gen)
  /-- TRUNCLW (R279) -/
  | trunclw (a : Gen) (b : Gen)
  /-- TRUNCLD (R279) -/
  | truncld (a : Gen) (b : Gen)
  /-- FLOORFB (R280) -/
  | floorfb (a : Gen) (b : Gen)
  /-- FLOORFW (R280) -/
  | floorfw (a : Gen) (b : Gen)
  /-- FLOORFD (R280) -/
  | floorfd (a : Gen) (b : Gen)
  /-- FLOORLB (R280) -/
  | floorlb (a : Gen) (b : Gen)
  /-- FLOORLW (R280) -/
  | floorlw (a : Gen) (b : Gen)
  /-- FLOORLD (R280) -/
  | floorld (a : Gen) (b : Gen)
  /-- SFSR (R276) -/
  | sfsr (g : Gen)
  /-- ADDF (R261) -/
  | addf (a : Gen) (b : Gen)
  /-- ADDL (R261) -/
  | addl (a : Gen) (b : Gen)
  /-- MOVF (R270) -/
  | movf (a : Gen) (b : Gen)
  /-- MOVL (R270) -/
  | movl (a : Gen) (b : Gen)
  /-- CMPF (R269) -/
  | cmpf (a : Gen) (b : Gen)
  /-- CMPL (R269) -/
  | cmpl (a : Gen) (b : Gen)
  /-- SUBF (R262) -/
  | subf (a : Gen) (b : Gen)
  /-- SUBL (R262) -/
  | subl (a : Gen) (b : Gen)
  /-- NEGF (R267) -/
  | negf (a : Gen) (b : Gen)
  /-- NEGL (R267) -/
  | negl (a : Gen) (b : Gen)
  /-- DIVF (R264) -/
  | divf (a : Gen) (b : Gen)
  /-- DIVL (R264) -/
  | divl (a : Gen) (b : Gen)
  /-- MULF (R263) -/
  | mulf (a : Gen) (b : Gen)
  /-- MULL (R263) -/
  | mull (a : Gen) (b : Gen)
  /-- ABSF (R268) -/
  | absf (a : Gen) (b : Gen)
  /-- ABSL (R268) -/
  | absl (a : Gen) (b : Gen)
  /-- POLYF (R266) -/
  | polyf (a : Gen) (b : Gen)
  /-- POLYL (R266) -/
  | polyl (a : Gen) (b : Gen)
  /-- DOTF (R265) -/
  | dotf (a : Gen) (b : Gen)
  /-- DOTL (R265) -/
  | dotl (a : Gen) (b : Gen)
  /-- SCALBF (R272) -/
  | scalbf (a : Gen) (b : Gen)
  /-- SCALBL (R272) -/
  | scalbl (a : Gen) (b : Gen)
  /-- LOGBF (R271) -/
  | logbf (a : Gen) (b : Gen)
  /-- LOGBL (R271) -/
  | logbl (a : Gen) (b : Gen)
  /-- illegal_floating-point_format__op_0011 (R183) -/
  | illegalFp0011 (c1 : BitVec 5) (c2 : BitVec 5) (lo : BitVec 2)
  /-- illegal_floating-point_format__op_1001 (R183) -/
  | illegalFp1001 (c1 : BitVec 5) (c2 : BitVec 5) (lo : BitVec 2)
  /-- RDVAL (R454) -/
  | rdval (g : Gen)
  /-- WRVAL (R455) -/
  | wrval (g : Gen)
  /-- LMR (R452) -/
  | lmr (r : MmuReg) (g : Gen)
  /-- SMR (R453) -/
  | smr (r : MmuReg) (g : Gen)
  /-- CINV (R440) -/
  | cinv (al : Bool) (ic : Bool) (dc : Bool) (g : Gen)
  /-- custom_slave_instruction__first_byte_0x16 (R470) -/
  | custom16
  /-- custom_slave_instruction__first_byte_0x36 (R470) -/
  | custom36
  /-- custom_slave_instruction__first_byte_0xB6 (R470) -/
  | customB6
  deriving DecidableEq, Repr

end Sys2Proof
end

