-- ==== Sys2Proof/Decode.lean ====
section
/-! DEFINITION. The decoder, total on any bytes, and the encoder, both from the encoding tables of
`spec/30_encoding.md` (R120 to R183). -/

namespace Sys2Proof

/-! ## Decoding -/

/-- Why bytes are not an instruction. Each is one of the undefined encodings of R180, except
`truncated`: more bytes are needed. -/
inductive DecodeError where
  /-- the bytes end before the instruction does -/
  | truncated
  /-- an opcode, a fixed field or a first byte that no instruction has (R180 a, b, c, f, j; U1) -/
  | opcode
  /-- a length field that the instruction does not have (R180 e, R181; U2) -/
  | length
  /-- a `short` value that names no register (R180 h; U3) -/
  | register
  /-- gen or base mode 10011 (R161, R180 d; U4) -/
  | reservedMode
  /-- a displacement whose first byte is 0xE0 (R143, R180 g; U5) -/
  | displacement
  /-- Immediate mode for an operand of a class other than read (R155; U6) -/
  | immediate
  /-- a base mode that is Immediate or itself indexed (R162; U7) -/
  | baseMode
  /-- string option UW = 10, or option T with length W or D (R351; U21, U22) -/
  | stringOption
  deriving DecidableEq, Repr

/-- A parser's answer: a value and the bytes that follow it, or why there is none. -/
abbrev Parse (α : Type) := Except DecodeError (α × List Byte)

/-- The eight registers by number. -/
def regOf (n : Nat) : Reg := Fin.ofNat 8 n

/-- A displacement field (R143): the top bits of its first byte give its length, and its bytes stand
most significant first. The first byte 0xE0 is reserved. -/
def parseDisp : List Byte → Parse Disp
  | [] => .error .truncated
  | b0 :: bs =>
    let n := b0.toNat
    if n < 128 then .ok (.d7 (BitVec.ofNat 7 n), bs)
    else if n < 192 then
      match bs with
      | b1 :: bs => .ok (.d14 (BitVec.ofNat 14 (256 * (n - 128) + b1.toNat)), bs)
      | [] => .error .truncated
    else if n = 224 then .error .displacement
    else
      match bs with
      | b1 :: b2 :: b3 :: bs =>
        .ok (.d30 (BitVec.ofNat 30
          (16777216 * (n - 192) + 65536 * b1.toNat + 256 * b2.toNat + b3.toNat)), bs)
      | _ => .error .truncated

/-- An immediate value of a given size, most significant byte first (R146). -/
def parseImm : Size → List Byte → Parse ImmVal
  | .b, b0 :: bs => .ok (.b b0, bs)
  | .w, b0 :: b1 :: bs => .ok (.w (b0 ++ b1), bs)
  | .d, b0 :: b1 :: b2 :: b3 :: bs => .ok (.d (b0 ++ b1 ++ b2 ++ b3), bs)
  | .q, b0 :: b1 :: b2 :: b3 :: b4 :: b5 :: b6 :: b7 :: bs =>
    .ok (.q (b0 ++ b1 ++ b2 ++ b3 ++ b4 ++ b5 ++ b6 ++ b7), bs)
  | _, _ => .error .truncated

/-- One byte. -/
def parseByte : List Byte → Parse Byte
  | [] => .error .truncated
  | b :: bs => .ok (b, bs)

/-- A mode with one displacement. -/
def withDisp (k : Disp → Mode) (bs : List Byte) : Parse Mode :=
  match parseDisp bs with
  | .ok (d, bs) => .ok (k d, bs)
  | .error e => .error e

/-- A mode with two displacements, disp1 first (R148). -/
def withDisps (k : Disp → Disp → Mode) (bs : List Byte) : Parse Mode :=
  match parseDisp bs with
  | .error e => .error e
  | .ok (d1, bs) =>
    match parseDisp bs with
    | .ok (d2, bs) => .ok (k d1 d2, bs)
    | .error e => .error e

/-- The mode that gen code `c` names, with its addressing extension (R148, R159). `imm` is the size
of an immediate value where Immediate mode is legal, and `bad` is the error where it is not. -/
def parseMode (imm : Option Size) (bad : DecodeError) (c : Nat) (bs : List Byte) : Parse Mode :=
  if c < 8 then .ok (.reg (regOf c), bs)
  else if c < 16 then withDisp (.regRel (regOf (c - 8))) bs
  else match c with
    | 16 => withDisps .frameRel bs
    | 17 => withDisps .stackRel bs
    | 18 => withDisps .staticRel bs
    | 20 =>
      match imm with
      | none => .error bad
      | some sz =>
        match parseImm sz bs with
        | .ok (v, bs) => .ok (.imm v, bs)
        | .error e => .error e
    | 21 => withDisp .abs bs
    | 22 => withDisps .ext bs
    | 23 => .ok (.tos, bs)
    | 24 => withDisp .frame bs
    | 25 => withDisp .stack bs
    | 26 => withDisp .static bs
    | 27 => withDisp .prog bs
    | 19 => .error .reservedMode
    | _ => .error .baseMode

/-- A gen field after its index byte, if any, has been read (R147). -/
inductive Head where
  /-- the gen code itself -/
  | plain (c : Nat)
  /-- the scale code 0 to 3, the base mode's code and the index register -/
  | indexed (scale base idx : Nat)
  deriving DecidableEq, Repr

/-- The scale codes 11100 to 11111 (R162). -/
def scaleOf : Nat → Size
  | 0 => .b
  | 1 => .w
  | 2 => .d
  | _ => .q

/-- Reads the index byte of a gen code 11100 to 11111 (R122, R147). -/
def parseHead (c : Nat) (bs : List Byte) : Parse Head :=
  if c < 28 then .ok (.plain c, bs)
  else
    match bs with
    | [] => .error .truncated
    | b :: bs => .ok (.indexed (c - 28) (b.toNat / 8) (b.toNat % 8), bs)

/-- The size of an immediate value for an operand, where Immediate mode is legal: class read only
(R131 to R135, R155). -/
def Attr.immSize : Attr → Option Size
  | .read sz => some sz
  | _ => none

/-- Reads the addressing extension of an operand (R148, R162). -/
def parseExt (t : Attr) (h : Head) (bs : List Byte) : Parse Gen :=
  match h with
  | .plain c =>
    match parseMode t.immSize .immediate c bs with
    | .ok (m, bs) => .ok (.plain m, bs)
    | .error e => .error e
  | .indexed s c r =>
    match parseMode none .baseMode c bs with
    | .ok (m, bs) => .ok (.indexed (scaleOf s) m (regOf r), bs)
    | .error e => .error e

/-- One general operand: its index byte and its extension. -/
def parseGen (t : Attr) (c : Nat) (bs : List Byte) : Parse Gen :=
  match parseHead c bs with
  | .error e => .error e
  | .ok (h, bs) => parseExt t h bs

/-- Two general operands: both index bytes stand before both extensions (R122). -/
def parseGens (ta tb : Attr) (ca cb : Nat) (bs : List Byte) : Parse (Gen × Gen) :=
  match parseHead ca bs with
  | .error e => .error e
  | .ok (ha, bs) =>
    match parseHead cb bs with
    | .error e => .error e
    | .ok (hb, bs) =>
      match parseExt ta ha bs with
      | .error e => .error e
      | .ok (a, bs) =>
        match parseExt tb hb bs with
        | .error e => .error e
        | .ok (b, bs) => .ok ((a, b), bs)

/-- An instruction with no operand after the basic instruction. -/
def none0 (i : Instr) (bs : List Byte) : Parse Instr := .ok (i, bs)

/-- An instruction with an implied displacement (R144). -/
def disp1 (k : Disp → Instr) (bs : List Byte) : Parse Instr :=
  match parseDisp bs with
  | .ok (d, bs) => .ok (k d, bs)
  | .error e => .error e

/-- An instruction with an implied immediate byte (R145). -/
def byte1 (k : Byte → Instr) (bs : List Byte) : Parse Instr :=
  match parseByte bs with
  | .ok (v, bs) => .ok (k v, bs)
  | .error e => .error e

/-- An instruction with an implied immediate byte and a displacement (R145, R166). -/
def byteDisp (k : Byte → Disp → Instr) (bs : List Byte) : Parse Instr :=
  match parseByte bs with
  | .ok (v, bs) => disp1 (k v) bs
  | .error e => .error e

/-- An instruction with one general operand. -/
def oneGen (t : Attr) (c : Nat) (bs : List Byte) (k : Gen → Instr) : Parse Instr :=
  match parseGen t c bs with
  | .ok (g, bs) => .ok (k g, bs)
  | .error e => .error e

/-- An instruction with one general operand and a displacement. -/
def oneGenDisp (t : Attr) (c : Nat) (bs : List Byte) (k : Gen → Disp → Instr) : Parse Instr :=
  match parseGen t c bs with
  | .ok (g, bs) => disp1 (k g) bs
  | .error e => .error e

/-- An instruction with two general operands. -/
def twoGen (ta tb : Attr) (ca cb : Nat) (bs : List Byte) (k : Gen → Gen → Instr) : Parse Instr :=
  match parseGens ta tb ca cb bs with
  | .ok ((a, b), bs) => .ok (k a b, bs)
  | .error e => .error e

/-- An instruction with two general operands and a displacement. -/
def twoGenDisp (ta tb : Attr) (ca cb : Nat) (bs : List Byte) (k : Gen → Gen → Disp → Instr) :
    Parse Instr :=
  match parseGens ta tb ca cb bs with
  | .ok ((a, b), bs) => disp1 (k a b) bs
  | .error e => .error e

/-- An instruction with two general operands and an immediate byte. -/
def twoGenByte (ta tb : Attr) (ca cb : Nat) (bs : List Byte) (k : Gen → Gen → Byte → Instr) :
    Parse Instr :=
  match parseGens ta tb ca cb bs with
  | .ok ((a, b), bs) => byte1 (k a b) bs
  | .error e => .error e

/-- Selects by the length field i: B 00, W 01, D 11; 10 is not assigned (R124, R181). -/
def sized {α : Type} (i : Nat) (f : Size → α → Parse Instr) (b w d : α) : Parse Instr :=
  match i with
  | 0 => f .b b
  | 1 => f .w w
  | 3 => f .d d
  | _ => .error .length

/-- Requires the fixed length field 11 (R180 e). -/
def onlyD (i : Nat) (r : Parse Instr) : Parse Instr := if i = 3 then r else .error .length

/-- Requires a fixed field to be as the format has it (R180 f). -/
def fixedField (ok : Bool) (r : Parse Instr) : Parse Instr := if ok then r else .error .opcode

/-- Processor register codes (R430); the others name no register (U3). -/
def procRegOf : Nat → Option ProcReg
  | 0 => some .upsr | 1 => some .dcr | 2 => some .bpc | 3 => some .dsr | 4 => some .car
  | 8 => some .fp | 9 => some .sp | 10 => some .sb | 11 => some .usp | 12 => some .cfg
  | 13 => some .psr | 14 => some .intbase | 15 => some .mod | _ => none

/-- Memory-management register codes (R68, R458). -/
def mmuRegOf : Nat → Option MmuReg
  | 8 => some .mcr | 10 => some .msr | 11 => some .tear | 12 => some .ptb0 | 13 => some .ptb1
  | 14 => some .ivar0 | 15 => some .ivar1 | _ => none

/-- The UW field (R351); 10 is not assigned (U22). -/
def untilOf : Nat → Option Until
  | 0 => some .none | 1 => some .whileMatch | 3 => some .untilMatch | _ => none

/-- With a register that a code names. -/
def named {α : Type} (o : Option α) (e : DecodeError) (f : α → Parse Instr) : Parse Instr :=
  match o with
  | some r => f r
  | none => .error e


/-- Format 0: Bcond and BR (R165). -/
def decodeFmt0 (c : Nat) (bs : List Byte) : Parse Instr :=
  match c with
  | 0 => disp1 .beq bs
  | 1 => disp1 .bne bs
  | 2 => disp1 .bcs bs
  | 3 => disp1 .bcc bs
  | 4 => disp1 .bhi bs
  | 5 => disp1 .bls bs
  | 6 => disp1 .bgt bs
  | 7 => disp1 .ble bs
  | 8 => disp1 .bfs bs
  | 9 => disp1 .bfc bs
  | 10 => disp1 .blo bs
  | 11 => disp1 .bhs bs
  | 12 => disp1 .blt bs
  | 13 => disp1 .bge bs
  | 14 => disp1 .br bs
  | _ => .error .opcode

/-- Format 1 (R166). -/
def decodeFmt1 (op : Nat) (bs : List Byte) : Parse Instr :=
  match op with
  | 0 => disp1 .bsr bs
  | 1 => disp1 .ret bs
  | 2 => disp1 .cxp bs
  | 3 => disp1 .rxp bs
  | 4 => disp1 .rett bs
  | 5 => none0 .reti bs
  | 6 => byte1 .save bs
  | 7 => byte1 .restore bs
  | 8 => byteDisp .enter bs
  | 9 => byte1 .exit bs
  | 10 => none0 .nop bs
  | 11 => none0 .wait bs
  | 12 => none0 .dia bs
  | 13 => none0 .flag bs
  | 14 => none0 .svc bs
  | 15 => none0 .bpt bs
  | _ => .error .opcode

/-- Scondi (R311): the condition codes 1110 and 1111 are not assigned (R180 j). -/
def decodeScond (i cond g : Nat) (bs : List Byte) : Parse Instr :=
  match cond with
  | 0 => sized i (fun sz => oneGen (.write sz) g bs) .seqb .seqw .seqd
  | 1 => sized i (fun sz => oneGen (.write sz) g bs) .sneb .snew .sned
  | 2 => sized i (fun sz => oneGen (.write sz) g bs) .scsb .scsw .scsd
  | 3 => sized i (fun sz => oneGen (.write sz) g bs) .sccb .sccw .sccd
  | 4 => sized i (fun sz => oneGen (.write sz) g bs) .shib .shiw .shid
  | 5 => sized i (fun sz => oneGen (.write sz) g bs) .slsb .slsw .slsd
  | 6 => sized i (fun sz => oneGen (.write sz) g bs) .sgtb .sgtw .sgtd
  | 7 => sized i (fun sz => oneGen (.write sz) g bs) .sleb .slew .sled
  | 8 => sized i (fun sz => oneGen (.write sz) g bs) .sfsb .sfsw .sfsd
  | 9 => sized i (fun sz => oneGen (.write sz) g bs) .sfcb .sfcw .sfcd
  | 10 => sized i (fun sz => oneGen (.write sz) g bs) .slob .slow .slod
  | 11 => sized i (fun sz => oneGen (.write sz) g bs) .shsb .shsw .shsd
  | 12 => sized i (fun sz => oneGen (.write sz) g bs) .sltb .sltw .sltd
  | 13 => sized i (fun sz => oneGen (.write sz) g bs) .sgeb .sgew .sged
  | _ => .error .opcode

/-- Format 2 (R167): `q` is the quick or short field. -/
def decodeFmt2 (op i q g : Nat) (bs : List Byte) : Parse Instr :=
  let v := BitVec.ofNat 4 q
  match op with
  | 0 => sized i (fun sz (k : BitVec 4 → Gen → Instr) => oneGen (.rmw sz) g bs (k v))
      .addqb .addqw .addqd
  | 1 => sized i (fun sz (k : BitVec 4 → Gen → Instr) => oneGen (.read sz) g bs (k v))
      .cmpqb .cmpqw .cmpqd
  | 2 => named (procRegOf q) .register fun r =>
      sized i (fun sz (k : ProcReg → Gen → Instr) => oneGen (.write sz) g bs (k r))
      .sprb .sprw .sprd
  | 3 => decodeScond i q g bs
  | 4 => sized i (fun sz (k : BitVec 4 → Gen → Disp → Instr) => oneGenDisp (.rmw sz) g bs (k v))
      .acbb .acbw .acbd
  | 5 => sized i (fun sz (k : BitVec 4 → Gen → Instr) => oneGen (.write sz) g bs (k v))
      .movqb .movqw .movqd
  | 6 => named (procRegOf q) .register fun r =>
      sized i (fun sz (k : ProcReg → Gen → Instr) => oneGen (.read sz) g bs (k r)) .lprb .lprw .lprd
  | _ => .error .opcode

/-- Format 3 (R168). -/
def decodeFmt3 (op i g : Nat) (bs : List Byte) : Parse Instr :=
  match op with
  | 0 => onlyD i (oneGen .addr g bs .cxpd)
  | 2 => match i with
    | 0 => oneGen (.read .b) g bs .bicpsrb
    | 1 => oneGen (.read .w) g bs .bicpsrw
    | _ => .error .length
  | 4 => onlyD i (oneGen .addr g bs .jump)
  | 6 => match i with
    | 0 => oneGen (.read .b) g bs .bispsrb
    | 1 => oneGen (.read .w) g bs .bispsrw
    | _ => .error .length
  | 10 => sized i (fun sz => oneGen (.read sz) g bs) .adjspb .adjspw .adjspd
  | 12 => onlyD i (oneGen .addr g bs .jsr)
  | 14 => sized i (fun sz => oneGen (.read sz) g bs) .caseb .casew .cased
  | _ => .error .opcode

/-- Format 4 (R169). -/
def decodeFmt4 (op i g1 g2 : Nat) (bs : List Byte) : Parse Instr :=
  match op with
  | 0 => sized i (fun sz => twoGen (.read sz) (.rmw sz) g1 g2 bs) .addb .addw .addd
  | 1 => sized i (fun sz => twoGen (.read sz) (.read sz) g1 g2 bs) .cmpb .cmpw .cmpd
  | 2 => sized i (fun sz => twoGen (.read sz) (.rmw sz) g1 g2 bs) .bicb .bicw .bicd
  | 4 => sized i (fun sz => twoGen (.read sz) (.rmw sz) g1 g2 bs) .addcb .addcw .addcd
  | 5 => sized i (fun sz => twoGen (.read sz) (.write sz) g1 g2 bs) .movb .movw .movd
  | 6 => sized i (fun sz => twoGen (.read sz) (.rmw sz) g1 g2 bs) .orb .orw .ord
  | 8 => sized i (fun sz => twoGen (.read sz) (.rmw sz) g1 g2 bs) .subb .subw .subd
  | 9 => onlyD i (twoGen .addr (.write .d) g1 g2 bs .addr)
  | 10 => sized i (fun sz => twoGen (.read sz) (.rmw sz) g1 g2 bs) .andb .andw .andd
  | 12 => sized i (fun sz => twoGen (.read sz) (.rmw sz) g1 g2 bs) .subcb .subcw .subcd
  | 13 => sized i (fun sz => twoGen (.read sz) .regaddr g1 g2 bs) .tbitb .tbitw .tbitd
  | 14 => sized i (fun sz => twoGen (.read sz) (.rmw sz) g1 g2 bs) .xorb .xorw .xord
  | _ => .error .opcode

/-- A string instruction (R170, R351): option T selects the byte translation form. -/
def decodeString (i sh : Nat) (bs : List Byte) (b w d t : Until → Bool → Instr) : Parse Instr :=
  named (untilOf (sh / 4)) .stringOption fun u =>
    let back := sh / 2 % 2 == 1
    if sh % 2 = 1 then
      match i with
      | 0 => none0 (t u back) bs
      | 2 => .error .length
      | _ => .error .stringOption
    else sized i (fun _ k => none0 (k u back) bs) b w d

/-- Format 5 (R170): `sh` is the short field. -/
def decodeFmt5 (op i sh : Nat) (bs : List Byte) : Parse Instr :=
  match op with
  | 0 => decodeString i sh bs .movsb .movsw .movsd .movst
  | 1 => decodeString i sh bs .cmpsb .cmpsw .cmpsd .cmpst
  | 2 => onlyD i (none0 (.setcfg (BitVec.ofNat 4 sh)) bs)
  | 3 => decodeString i sh bs .skpsb .skpsw .skpsd .skpst
  | _ => .error .opcode

/-- Format 6 (R171). -/
def decodeFmt6 (op i g1 g2 : Nat) (bs : List Byte) : Parse Instr :=
  match op with
  | 0 => sized i (fun sz => twoGen (.read .b) (.rmw sz) g1 g2 bs) .rotb .rotw .rotd
  | 1 => sized i (fun sz => twoGen (.read .b) (.rmw sz) g1 g2 bs) .ashb .ashw .ashd
  | 2 => sized i (fun sz => twoGen (.read sz) .regaddr g1 g2 bs) .cbitb .cbitw .cbitd
  | 3 => sized i (fun sz => twoGen (.read sz) .regaddr g1 g2 bs) .cbitib .cbitiw .cbitid
  | 5 => sized i (fun sz => twoGen (.read .b) (.rmw sz) g1 g2 bs) .lshb .lshw .lshd
  | 6 => sized i (fun sz => twoGen (.read sz) .regaddr g1 g2 bs) .sbitb .sbitw .sbitd
  | 7 => sized i (fun sz => twoGen (.read sz) .regaddr g1 g2 bs) .sbitib .sbitiw .sbitid
  | 8 => sized i (fun sz => twoGen (.read sz) (.write sz) g1 g2 bs) .negb .negw .negd
  | 9 => sized i (fun sz => twoGen (.read sz) (.write sz) g1 g2 bs) .notb .notw .notd
  | 11 => sized i (fun sz => twoGen (.read sz) (.rmw sz) g1 g2 bs) .subpb .subpw .subpd
  | 12 => sized i (fun sz => twoGen (.read sz) (.write sz) g1 g2 bs) .absb .absw .absd
  | 13 => sized i (fun sz => twoGen (.read sz) (.write sz) g1 g2 bs) .comb .comw .comd
  | 14 => sized i (fun sz => twoGen (.read sz) .regaddr g1 g2 bs) .ibitb .ibitw .ibitd
  | 15 => sized i (fun sz => twoGen (.read sz) (.rmw sz) g1 g2 bs) .addpb .addpw .addpd
  | _ => .error .opcode

/-- Twice a length: the attribute 2i of MEIi and DEIi (R137). -/
def Size.double : Size → Size
  | .b => .w
  | .w => .d
  | _ => .q

/-- Format 7 (R172). -/
def decodeFmt7 (op i g1 g2 : Nat) (bs : List Byte) : Parse Instr :=
  match op with
  | 0 => sized i (fun _ => twoGenDisp .addr .addr g1 g2 bs) .movmb .movmw .movmd
  | 1 => sized i (fun _ => twoGenDisp .addr .addr g1 g2 bs) .cmpmb .cmpmw .cmpmd
  | 2 => sized i (fun sz => twoGenByte (.read sz) .regaddr g1 g2 bs) .inssb .inssw .inssd
  | 3 => sized i (fun sz => twoGenByte .regaddr (.write sz) g1 g2 bs) .extsb .extsw .extsd
  | 4 => match i with
    | 0 => twoGen (.read .b) (.write .w) g1 g2 bs .movxbw
    | _ => .error .length
  | 5 => match i with
    | 0 => twoGen (.read .b) (.write .w) g1 g2 bs .movzbw
    | _ => .error .length
  | 6 => match i with
    | 0 => twoGen (.read .b) (.write .d) g1 g2 bs .movzbd
    | 1 => twoGen (.read .w) (.write .d) g1 g2 bs .movzwd
    | _ => .error .length
  | 7 => match i with
    | 0 => twoGen (.read .b) (.write .d) g1 g2 bs .movxbd
    | 1 => twoGen (.read .w) (.write .d) g1 g2 bs .movxwd
    | _ => .error .length
  | 8 => sized i (fun sz => twoGen (.read sz) (.rmw sz) g1 g2 bs) .mulb .mulw .muld
  | 9 => sized i (fun sz => twoGen (.read sz) (.rmw sz.double) g1 g2 bs) .meib .meiw .meid
  | 11 => sized i (fun sz => twoGen (.read sz) (.rmw sz.double) g1 g2 bs) .deib .deiw .deid
  | 12 => sized i (fun sz => twoGen (.read sz) (.rmw sz) g1 g2 bs) .quob .quow .quod
  | 13 => sized i (fun sz => twoGen (.read sz) (.rmw sz) g1 g2 bs) .remb .remw .remd
  | 14 => sized i (fun sz => twoGen (.read sz) (.rmw sz) g1 g2 bs) .modb .modw .modd
  | 15 => sized i (fun sz => twoGen (.read sz) (.rmw sz) g1 g2 bs) .divb .divw .divd
  | _ => .error .opcode

/-- Format 8 (R173): `op` is op2 ++ op, and `r` the reg field. -/
noncomputable def decodeFmt8 (op i r g1 g2 : Nat) (bs : List Byte) : Parse Instr :=
  let n := regOf r
  match op with
  | 0 => sized i (fun sz (k : Reg → Gen → Gen → Disp → Instr) => twoGenDisp .regaddr (.write sz) g1 g2 bs (k n))
      .extb .extw .extd
  | 1 => onlyD i (twoGen .addr (.write .d) g1 g2 bs (.cvtp n))
  | 2 => sized i (fun sz (k : Reg → Gen → Gen → Disp → Instr) => twoGenDisp (.read sz) .regaddr g1 g2 bs (k n))
      .insb .insw .insd
  | 3 => sized i (fun sz (k : Reg → Gen → Gen → Instr) => twoGen .addr (.read sz) g1 g2 bs (k n))
      .checkb .checkw .checkd
  | 4 => sized i (fun sz (k : Reg → Gen → Gen → Instr) => twoGen (.read sz) (.read sz) g1 g2 bs (k n))
      .indexb .indexw .indexd
  | 5 => fixedField (r == 0) (sized i (fun sz => twoGen (.read sz) (.rmw .b) g1 g2 bs) .ffsb .ffsw .ffsd)
  | 6 => match r with
    | 1 => sized i (fun _ => twoGen .addr .addr g1 g2 bs) .movsub .movsuw .movsud
    | 3 => sized i (fun _ => twoGen .addr .addr g1 g2 bs) .movusb .movusw .movusd
    | _ => .error .opcode
  | _ => .error .opcode

/-- Selects by the lengths f and i of a conversion (R124, R125, R174). -/
def sizedFi (f i : Nat) (k : Size → Size → (Gen → Gen → Instr) → Parse Instr)
    (fb fw fd lb lw ld : Gen → Gen → Instr) : Parse Instr :=
  if f = 1 then sized i (k .d) fb fw fd else sized i (k .q) lb lw ld

/-- Format 9 (R174). -/
noncomputable def decodeFmt9 (op f i g1 g2 : Nat) (bs : List Byte) : Parse Instr :=
  match op with
  | 0 => sizedFi f i (fun fl sz => twoGen (.read sz) (.write fl) g1 g2 bs)
      .movbf .movwf .movdf .movbl .movwl .movdl
  | 1 => if f = 1 then onlyD i (fixedField (g2 == 0) (oneGen (.read .d) g1 bs .lfsr))
      else .error .length
  | 2 => if f = 1 ∧ i = 2 then twoGen (.read .q) (.write .d) g1 g2 bs .movlf else .error .length
  | 3 => if f = 0 ∧ i = 3 then twoGen (.read .d) (.write .q) g1 g2 bs .movfl else .error .length
  | 4 => sizedFi f i (fun fl sz => twoGen (.read fl) (.write sz) g1 g2 bs)
      .roundfb .roundfw .roundfd .roundlb .roundlw .roundld
  | 5 => sizedFi f i (fun fl sz => twoGen (.read fl) (.write sz) g1 g2 bs)
      .truncfb .truncfw .truncfd .trunclb .trunclw .truncld
  | 6 => if f = 1 then onlyD i (fixedField (g1 == 0) (oneGen (.write .d) g2 bs .sfsr))
      else .error .length
  | 7 => sizedFi f i (fun fl sz => twoGen (.read fl) (.write sz) g1 g2 bs)
      .floorfb .floorfw .floorfd .floorlb .floorlw .floorld
  | _ => .error .opcode

/-- Selects by the length f: F 1, L 0 (R125). -/
def sizedF (f : Nat) (k : Size → (Gen → Gen → Instr) → Parse Instr) (s l : Gen → Gen → Instr) :
    Parse Instr :=
  if f = 1 then k .d s else k .q l

/-- Format 11 (R175): `lo` is the two bits 9:8. The two formats that the floating-point unit rejects
are instructions of their own (R183). -/
noncomputable def decodeFmt11 (op lo g1 g2 : Nat) (bs : List Byte) : Parse Instr :=
  let two (t : Size → Attr) (s l : Gen → Gen → Instr) : Parse Instr :=
    fixedField (lo < 2) (sizedF lo (fun sz => twoGen (.read sz) (t sz) g1 g2 bs) s l)
  match op with
  | 0 => two .rmw .addf .addl
  | 1 => two .write .movf .movl
  | 2 => two .read .cmpf .cmpl
  | 3 => none0 (.illegalFp0011 (BitVec.ofNat 5 g1) (BitVec.ofNat 5 g2) (BitVec.ofNat 2 lo)) bs
  | 4 => two .rmw .subf .subl
  | 5 => two .write .negf .negl
  | 8 => two .rmw .divf .divl
  | 9 => none0 (.illegalFp1001 (BitVec.ofNat 5 g1) (BitVec.ofNat 5 g2) (BitVec.ofNat 2 lo)) bs
  | 12 => two .rmw .mulf .mull
  | 13 => two .write .absf .absl
  | _ => .error .opcode

/-- Format 12 (R176). -/
noncomputable def decodeFmt12 (op lo g1 g2 : Nat) (bs : List Byte) : Parse Instr :=
  let two (t : Size → Attr) (s l : Gen → Gen → Instr) : Parse Instr :=
    fixedField (lo < 2) (sizedF lo (fun sz => twoGen (.read sz) (t sz) g1 g2 bs) s l)
  match op with
  | 2 => two .read .polyf .polyl
  | 3 => two .read .dotf .dotl
  | 4 => two .rmw .scalbf .scalbl
  | 5 => two .write .logbf .logbl
  | _ => .error .opcode

/-- Format 14 (R177): `sh` is the short field. -/
noncomputable def decodeFmt14 (op i sh g : Nat) (bs : List Byte) : Parse Instr :=
  onlyD i <| match op with
  | 0 => fixedField (sh == 0) (oneGen .addr g bs .rdval)
  | 1 => fixedField (sh == 0) (oneGen .addr g bs .wrval)
  | 2 => named (mmuRegOf sh) .register fun r => oneGen (.read .d) g bs (.lmr r)
  | 3 => named (mmuRegOf sh) .register fun r => oneGen (.write .d) g bs (.smr r)
  | 9 => fixedField (sh < 8)
      (oneGen (.read .d) g bs (.cinv (sh / 4 == 1) (sh / 2 % 2 == 1) (sh % 2 == 1)))
  | _ => .error .opcode

/-- The two-byte basic instructions (R123), from the basic instruction as a number (R121). -/
def decodeTwo (w : Nat) (bs : List Byte) : Parse Instr :=
  if w / 4 % 4 ≠ 3 then decodeFmt4 (w / 4 % 16) (w % 4) (w / 2048) (w / 64 % 32) bs
  else if w / 16 % 8 ≠ 7 then decodeFmt2 (w / 16 % 8) (w % 4) (w / 128 % 16) (w / 2048) bs
  else decodeFmt3 (w / 128 % 16) (w % 4) (w / 2048) bs

/-- The three-byte basic instructions whose first byte is `n` and whose second and third bytes are
`v` (R123). -/
noncomputable def decodeThree (n v : Nat) (bs : List Byte) : Parse Instr :=
  let i := v % 4
  let op := v / 4 % 16
  let g2 := v / 64 % 32
  let g1 := v / 2048
  let sh := v / 128 % 16
  match n with
  | 0x0E => fixedField (g1 == 0 && v / 64 % 2 == 0) (decodeFmt5 op i sh bs)
  | 0x4E => decodeFmt6 op i g1 g2 bs
  | 0xCE => decodeFmt7 op i g1 g2 bs
  | 0x2E => decodeFmt8 (4 * (v / 4 % 2) + 0) i (v / 8 % 8) g1 g2 bs
  | 0x6E => decodeFmt8 (4 * (v / 4 % 2) + 1) i (v / 8 % 8) g1 g2 bs
  | 0xAE => decodeFmt8 (4 * (v / 4 % 2) + 2) i (v / 8 % 8) g1 g2 bs
  | 0xEE => decodeFmt8 (4 * (v / 4 % 2) + 3) i (v / 8 % 8) g1 g2 bs
  | 0x3E => decodeFmt9 (v / 8 % 8) (v / 4 % 2) i g1 g2 bs
  | 0xBE => decodeFmt11 op i g1 g2 bs
  | 0xFE => decodeFmt12 op i g1 g2 bs
  | 0x1E => fixedField (v / 64 % 2 == 0) (decodeFmt14 op i sh g1 bs)
  | _ => .error .opcode

/-- First bytes of three-byte basic instructions (R123). -/
def isThreeByte (n : Nat) : Bool :=
  [0x0E, 0x4E, 0xCE, 0x2E, 0x6E, 0xAE, 0xEE, 0x3E, 0xBE, 0xFE, 0x1E].contains n

/-- THE DECODER: the instruction at the head of a byte string and the bytes after it, or why there is
none (R120 to R128, R180). -/
noncomputable def decode : List Byte → Parse Instr
  | [] => .error .truncated
  | b0 :: bs =>
    let n := b0.toNat
    if n % 4 ≠ 2 then
      match bs with
      | b1 :: bs => decodeTwo (n + 256 * b1.toNat) bs
      | [] => .error .truncated
    else if n % 16 = 10 then decodeFmt0 (n / 16) bs
    else if n % 16 = 2 then decodeFmt1 (n / 16) bs
    else if isThreeByte n then
      match bs with
      | b1 :: b2 :: bs => decodeThree n (b1.toNat + 256 * b2.toNat) bs
      | _ => .error .truncated
    else if n = 0x16 then none0 .custom16 bs
    else if n = 0x36 then none0 .custom36 bs
    else if n = 0xB6 then none0 .customB6 bs
    else .error .opcode

/-! ## Encoding -/

/-- The bytes of a displacement field (R143). -/
def Disp.bytes : Disp → List Byte
  | .d7 v => [BitVec.ofNat 8 v.toNat]
  | .d14 v => [BitVec.ofNat 8 (128 + v.toNat / 256), BitVec.ofNat 8 v.toNat]
  | .d30 v => [BitVec.ofNat 8 (192 + v.toNat / 16777216), BitVec.ofNat 8 (v.toNat / 65536),
      BitVec.ofNat 8 (v.toNat / 256), BitVec.ofNat 8 v.toNat]

/-- The bytes of an immediate value, most significant first (R146). -/
def ImmVal.bytes : ImmVal → List Byte
  | .b v => [v]
  | .w v => [v.extractLsb' 8 8, v.extractLsb' 0 8]
  | .d v => [v.extractLsb' 24 8, v.extractLsb' 16 8, v.extractLsb' 8 8, v.extractLsb' 0 8]
  | .q v => [v.extractLsb' 56 8, v.extractLsb' 48 8, v.extractLsb' 40 8, v.extractLsb' 32 8,
      v.extractLsb' 24 8, v.extractLsb' 16 8, v.extractLsb' 8 8, v.extractLsb' 0 8]

/-- The size of an immediate value. -/
def ImmVal.size : ImmVal → Size
  | .b _ => .b
  | .w _ => .w
  | .d _ => .d
  | .q _ => .q

/-- The gen code of a mode (R159). -/
def Mode.code : Mode → Nat
  | .reg n => n.val
  | .regRel n _ => 8 + n.val
  | .frameRel _ _ => 16
  | .stackRel _ _ => 17
  | .staticRel _ _ => 18
  | .imm _ => 20
  | .abs _ => 21
  | .ext _ _ => 22
  | .tos => 23
  | .frame _ => 24
  | .stack _ => 25
  | .static _ => 26
  | .prog _ => 27

/-- The addressing extension of a mode (R148). -/
def Mode.extension : Mode → List Byte
  | .reg _ | .tos => []
  | .regRel _ d | .abs d | .frame d | .stack d | .static d | .prog d => d.bytes
  | .frameRel d1 d2 | .stackRel d1 d2 | .staticRel d1 d2 | .ext d1 d2 => d1.bytes ++ d2.bytes
  | .imm v => v.bytes

/-- The scale code of a size (R162). -/
def Size.scaleCode : Size → Nat
  | .b => 0
  | .w => 1
  | .d => 2
  | .q => 3

/-- The gen field of an operand (R159, R162). -/
def Gen.code : Gen → Nat
  | .plain m => m.code
  | .indexed s _ _ => 28 + s.scaleCode

/-- The index byte of an operand, if it has one (R147). -/
def Gen.indexBytes : Gen → List Byte
  | .plain _ => []
  | .indexed _ m r => [BitVec.ofNat 8 (8 * m.code + r.val)]

/-- The addressing extension of an operand. -/
def Gen.extension : Gen → List Byte
  | .plain m => m.extension
  | .indexed _ m _ => m.extension

/-- An implied operand that follows the addressing extensions (R122). -/
inductive Tail where
  /-- attribute `imm` (R145) -/
  | imm (v : Byte)
  /-- attribute `disp` (R144) -/
  | disp (d : Disp)
  deriving DecidableEq, Repr

/-- The bytes of an implied operand. -/
def Tail.bytes : Tail → List Byte
  | .imm v => [v]
  | .disp d => d.bytes

/-- An instruction taken apart as R122 orders its parts: the basic instruction as a number with its
length in bytes, the general operands with their attributes, the implied operands. -/
structure Layout where
  /-- the length of the basic instruction in bytes -/
  basic : Nat
  /-- the basic instruction (R121) -/
  word : Nat
  /-- the general operands, A before B -/
  operands : List (Attr × Gen)
  /-- the implied operands -/
  tail : List Tail
  deriving DecidableEq, Repr

/-- Format 0 and Format 1 (R165, R166). -/
def layOne (w : Nat) (tail : List Tail) : Layout := ⟨1, w, [], tail⟩

/-- Format 2 (R167). -/
def layQuick (w q : Nat) (t : Attr) (g : Gen) (tail : List Tail) : Layout :=
  ⟨2, w + 128 * q + 2048 * g.code, [(t, g)], tail⟩

/-- Format 3, and Scondi (R168, R311). -/
def layGen (w : Nat) (t : Attr) (g : Gen) : Layout := ⟨2, w + 2048 * g.code, [(t, g)], []⟩

/-- Format 4 (R169). -/
def layTwo (w : Nat) (ta tb : Attr) (a b : Gen) : Layout :=
  ⟨2, w + 64 * b.code + 2048 * a.code, [(ta, a), (tb, b)], []⟩

/-- Formats 6 to 12 (R171 to R176). -/
def layTwoLong (w : Nat) (ta tb : Attr) (a b : Gen) (tail : List Tail) : Layout :=
  ⟨3, w + 16384 * b.code + 524288 * a.code, [(ta, a), (tb, b)], tail⟩

/-- Format 5 (R170), and other three-byte forms with no general operand. -/
def layBare (w : Nat) : Layout := ⟨3, w, [], []⟩

/-- Format 14, and LFSR (R174, R177). -/
def layGenLong (w : Nat) (t : Attr) (g : Gen) : Layout := ⟨3, w + 524288 * g.code, [(t, g)], []⟩

/-- The code of a processor register (R430). -/
def ProcReg.code : ProcReg → Nat
  | .upsr => 0 | .dcr => 1 | .bpc => 2 | .dsr => 3 | .car => 4 | .fp => 8 | .sp => 9 | .sb => 10
  | .usp => 11 | .cfg => 12 | .psr => 13 | .intbase => 14 | .mod => 15

/-- The code of a memory-management register (R68). -/
def MmuReg.code : MmuReg → Nat
  | .mcr => 8 | .msr => 10 | .tear => 11 | .ptb0 => 12 | .ptb1 => 13 | .ivar0 => 14 | .ivar1 => 15

/-- The code of a UW option (R351). -/
def Until.code : Until → Nat
  | .none => 0
  | .whileMatch => 1
  | .untilMatch => 3

/-- The bits UW and B of a string instruction in place (R170). -/
def stringBits (u : Until) (bk : Bool) : Nat := 131072 * u.code + 65536 * bk.toNat

/-- The layout of each instruction: its `match` of `spec/opcode_table.json` with its fields put in. -/
def layout : Instr → Layout
  | .beq d => layOne 0x0A [.disp d]
  | .bne d => layOne 0x1A [.disp d]
  | .bcs d => layOne 0x2A [.disp d]
  | .bcc d => layOne 0x3A [.disp d]
  | .bhi d => layOne 0x4A [.disp d]
  | .bls d => layOne 0x5A [.disp d]
  | .bgt d => layOne 0x6A [.disp d]
  | .ble d => layOne 0x7A [.disp d]
  | .bfs d => layOne 0x8A [.disp d]
  | .bfc d => layOne 0x9A [.disp d]
  | .blo d => layOne 0xAA [.disp d]
  | .bhs d => layOne 0xBA [.disp d]
  | .blt d => layOne 0xCA [.disp d]
  | .bge d => layOne 0xDA [.disp d]
  | .br d => layOne 0xEA [.disp d]
  | .bsr d => layOne 0x02 [.disp d]
  | .ret d => layOne 0x12 [.disp d]
  | .cxp d => layOne 0x22 [.disp d]
  | .rxp d => layOne 0x32 [.disp d]
  | .rett d => layOne 0x42 [.disp d]
  | .reti => layOne 0x52 []
  | .save l => layOne 0x62 [.imm l]
  | .restore l => layOne 0x72 [.imm l]
  | .enter l d => layOne 0x82 [.imm l, .disp d]
  | .exit l => layOne 0x92 [.imm l]
  | .nop => layOne 0xA2 []
  | .wait => layOne 0xB2 []
  | .dia => layOne 0xC2 []
  | .flag => layOne 0xD2 []
  | .svc => layOne 0xE2 []
  | .bpt => layOne 0xF2 []
  | .addqb q g => layQuick 0x000C q.toNat (.rmw .b) g []
  | .addqw q g => layQuick 0x000D q.toNat (.rmw .w) g []
  | .addqd q g => layQuick 0x000F q.toNat (.rmw .d) g []
  | .cmpqb q g => layQuick 0x001C q.toNat (.read .b) g []
  | .cmpqw q g => layQuick 0x001D q.toNat (.read .w) g []
  | .cmpqd q g => layQuick 0x001F q.toNat (.read .d) g []
  | .sprb r g => layQuick 0x002C r.code (.write .b) g []
  | .sprw r g => layQuick 0x002D r.code (.write .w) g []
  | .sprd r g => layQuick 0x002F r.code (.write .d) g []
  | .seqb g => layGen 0x003C (.write .b) g
  | .sneb g => layGen 0x00BC (.write .b) g
  | .scsb g => layGen 0x013C (.write .b) g
  | .sccb g => layGen 0x01BC (.write .b) g
  | .shib g => layGen 0x023C (.write .b) g
  | .slsb g => layGen 0x02BC (.write .b) g
  | .sgtb g => layGen 0x033C (.write .b) g
  | .sleb g => layGen 0x03BC (.write .b) g
  | .sfsb g => layGen 0x043C (.write .b) g
  | .sfcb g => layGen 0x04BC (.write .b) g
  | .slob g => layGen 0x053C (.write .b) g
  | .shsb g => layGen 0x05BC (.write .b) g
  | .sltb g => layGen 0x063C (.write .b) g
  | .sgeb g => layGen 0x06BC (.write .b) g
  | .seqw g => layGen 0x003D (.write .w) g
  | .snew g => layGen 0x00BD (.write .w) g
  | .scsw g => layGen 0x013D (.write .w) g
  | .sccw g => layGen 0x01BD (.write .w) g
  | .shiw g => layGen 0x023D (.write .w) g
  | .slsw g => layGen 0x02BD (.write .w) g
  | .sgtw g => layGen 0x033D (.write .w) g
  | .slew g => layGen 0x03BD (.write .w) g
  | .sfsw g => layGen 0x043D (.write .w) g
  | .sfcw g => layGen 0x04BD (.write .w) g
  | .slow g => layGen 0x053D (.write .w) g
  | .shsw g => layGen 0x05BD (.write .w) g
  | .sltw g => layGen 0x063D (.write .w) g
  | .sgew g => layGen 0x06BD (.write .w) g
  | .seqd g => layGen 0x003F (.write .d) g
  | .sned g => layGen 0x00BF (.write .d) g
  | .scsd g => layGen 0x013F (.write .d) g
  | .sccd g => layGen 0x01BF (.write .d) g
  | .shid g => layGen 0x023F (.write .d) g
  | .slsd g => layGen 0x02BF (.write .d) g
  | .sgtd g => layGen 0x033F (.write .d) g
  | .sled g => layGen 0x03BF (.write .d) g
  | .sfsd g => layGen 0x043F (.write .d) g
  | .sfcd g => layGen 0x04BF (.write .d) g
  | .slod g => layGen 0x053F (.write .d) g
  | .shsd g => layGen 0x05BF (.write .d) g
  | .sltd g => layGen 0x063F (.write .d) g
  | .sged g => layGen 0x06BF (.write .d) g
  | .acbb q g d => layQuick 0x004C q.toNat (.rmw .b) g [.disp d]
  | .acbw q g d => layQuick 0x004D q.toNat (.rmw .w) g [.disp d]
  | .acbd q g d => layQuick 0x004F q.toNat (.rmw .d) g [.disp d]
  | .movqb q g => layQuick 0x005C q.toNat (.write .b) g []
  | .movqw q g => layQuick 0x005D q.toNat (.write .w) g []
  | .movqd q g => layQuick 0x005F q.toNat (.write .d) g []
  | .lprb r g => layQuick 0x006C r.code (.read .b) g []
  | .lprw r g => layQuick 0x006D r.code (.read .w) g []
  | .lprd r g => layQuick 0x006F r.code (.read .d) g []
  | .cxpd g => layGen 0x007F .addr g
  | .bicpsrb g => layGen 0x017C (.read .b) g
  | .bicpsrw g => layGen 0x017D (.read .w) g
  | .jump g => layGen 0x027F .addr g
  | .bispsrb g => layGen 0x037C (.read .b) g
  | .bispsrw g => layGen 0x037D (.read .w) g
  | .adjspb g => layGen 0x057C (.read .b) g
  | .adjspw g => layGen 0x057D (.read .w) g
  | .adjspd g => layGen 0x057F (.read .d) g
  | .jsr g => layGen 0x067F .addr g
  | .caseb g => layGen 0x077C (.read .b) g
  | .casew g => layGen 0x077D (.read .w) g
  | .cased g => layGen 0x077F (.read .d) g
  | .addb a b => layTwo 0x0000 (.read .b) (.rmw .b) a b
  | .addw a b => layTwo 0x0001 (.read .w) (.rmw .w) a b
  | .addd a b => layTwo 0x0003 (.read .d) (.rmw .d) a b
  | .cmpb a b => layTwo 0x0004 (.read .b) (.read .b) a b
  | .cmpw a b => layTwo 0x0005 (.read .w) (.read .w) a b
  | .cmpd a b => layTwo 0x0007 (.read .d) (.read .d) a b
  | .bicb a b => layTwo 0x0008 (.read .b) (.rmw .b) a b
  | .bicw a b => layTwo 0x0009 (.read .w) (.rmw .w) a b
  | .bicd a b => layTwo 0x000B (.read .d) (.rmw .d) a b
  | .addcb a b => layTwo 0x0010 (.read .b) (.rmw .b) a b
  | .addcw a b => layTwo 0x0011 (.read .w) (.rmw .w) a b
  | .addcd a b => layTwo 0x0013 (.read .d) (.rmw .d) a b
  | .movb a b => layTwo 0x0014 (.read .b) (.write .b) a b
  | .movw a b => layTwo 0x0015 (.read .w) (.write .w) a b
  | .movd a b => layTwo 0x0017 (.read .d) (.write .d) a b
  | .orb a b => layTwo 0x0018 (.read .b) (.rmw .b) a b
  | .orw a b => layTwo 0x0019 (.read .w) (.rmw .w) a b
  | .ord a b => layTwo 0x001B (.read .d) (.rmw .d) a b
  | .subb a b => layTwo 0x0020 (.read .b) (.rmw .b) a b
  | .subw a b => layTwo 0x0021 (.read .w) (.rmw .w) a b
  | .subd a b => layTwo 0x0023 (.read .d) (.rmw .d) a b
  | .addr a b => layTwo 0x0027 .addr (.write .d) a b
  | .andb a b => layTwo 0x0028 (.read .b) (.rmw .b) a b
  | .andw a b => layTwo 0x0029 (.read .w) (.rmw .w) a b
  | .andd a b => layTwo 0x002B (.read .d) (.rmw .d) a b
  | .subcb a b => layTwo 0x0030 (.read .b) (.rmw .b) a b
  | .subcw a b => layTwo 0x0031 (.read .w) (.rmw .w) a b
  | .subcd a b => layTwo 0x0033 (.read .d) (.rmw .d) a b
  | .tbitb a b => layTwo 0x0034 (.read .b) .regaddr a b
  | .tbitw a b => layTwo 0x0035 (.read .w) .regaddr a b
  | .tbitd a b => layTwo 0x0037 (.read .d) .regaddr a b
  | .xorb a b => layTwo 0x0038 (.read .b) (.rmw .b) a b
  | .xorw a b => layTwo 0x0039 (.read .w) (.rmw .w) a b
  | .xord a b => layTwo 0x003B (.read .d) (.rmw .d) a b
  | .movsb u bk => layBare (0x00000E + stringBits u bk)
  | .movsw u bk => layBare (0x00010E + stringBits u bk)
  | .movsd u bk => layBare (0x00030E + stringBits u bk)
  | .movst u bk => layBare (0x00800E + stringBits u bk)
  | .cmpsb u bk => layBare (0x00040E + stringBits u bk)
  | .cmpsw u bk => layBare (0x00050E + stringBits u bk)
  | .cmpsd u bk => layBare (0x00070E + stringBits u bk)
  | .cmpst u bk => layBare (0x00840E + stringBits u bk)
  | .skpsb u bk => layBare (0x000C0E + stringBits u bk)
  | .skpsw u bk => layBare (0x000D0E + stringBits u bk)
  | .skpsd u bk => layBare (0x000F0E + stringBits u bk)
  | .skpst u bk => layBare (0x008C0E + stringBits u bk)
  | .setcfg k => layBare (0x000B0E + 32768 * k.toNat)
  | .rotb a b => layTwoLong 0x00004E (.read .b) (.rmw .b) a b []
  | .rotw a b => layTwoLong 0x00014E (.read .b) (.rmw .w) a b []
  | .rotd a b => layTwoLong 0x00034E (.read .b) (.rmw .d) a b []
  | .ashb a b => layTwoLong 0x00044E (.read .b) (.rmw .b) a b []
  | .ashw a b => layTwoLong 0x00054E (.read .b) (.rmw .w) a b []
  | .ashd a b => layTwoLong 0x00074E (.read .b) (.rmw .d) a b []
  | .cbitb a b => layTwoLong 0x00084E (.read .b) .regaddr a b []
  | .cbitw a b => layTwoLong 0x00094E (.read .w) .regaddr a b []
  | .cbitd a b => layTwoLong 0x000B4E (.read .d) .regaddr a b []
  | .cbitib a b => layTwoLong 0x000C4E (.read .b) .regaddr a b []
  | .cbitiw a b => layTwoLong 0x000D4E (.read .w) .regaddr a b []
  | .cbitid a b => layTwoLong 0x000F4E (.read .d) .regaddr a b []
  | .lshb a b => layTwoLong 0x00144E (.read .b) (.rmw .b) a b []
  | .lshw a b => layTwoLong 0x00154E (.read .b) (.rmw .w) a b []
  | .lshd a b => layTwoLong 0x00174E (.read .b) (.rmw .d) a b []
  | .sbitb a b => layTwoLong 0x00184E (.read .b) .regaddr a b []
  | .sbitw a b => layTwoLong 0x00194E (.read .w) .regaddr a b []
  | .sbitd a b => layTwoLong 0x001B4E (.read .d) .regaddr a b []
  | .sbitib a b => layTwoLong 0x001C4E (.read .b) .regaddr a b []
  | .sbitiw a b => layTwoLong 0x001D4E (.read .w) .regaddr a b []
  | .sbitid a b => layTwoLong 0x001F4E (.read .d) .regaddr a b []
  | .negb a b => layTwoLong 0x00204E (.read .b) (.write .b) a b []
  | .negw a b => layTwoLong 0x00214E (.read .w) (.write .w) a b []
  | .negd a b => layTwoLong 0x00234E (.read .d) (.write .d) a b []
  | .notb a b => layTwoLong 0x00244E (.read .b) (.write .b) a b []
  | .notw a b => layTwoLong 0x00254E (.read .w) (.write .w) a b []
  | .notd a b => layTwoLong 0x00274E (.read .d) (.write .d) a b []
  | .subpb a b => layTwoLong 0x002C4E (.read .b) (.rmw .b) a b []
  | .subpw a b => layTwoLong 0x002D4E (.read .w) (.rmw .w) a b []
  | .subpd a b => layTwoLong 0x002F4E (.read .d) (.rmw .d) a b []
  | .absb a b => layTwoLong 0x00304E (.read .b) (.write .b) a b []
  | .absw a b => layTwoLong 0x00314E (.read .w) (.write .w) a b []
  | .absd a b => layTwoLong 0x00334E (.read .d) (.write .d) a b []
  | .comb a b => layTwoLong 0x00344E (.read .b) (.write .b) a b []
  | .comw a b => layTwoLong 0x00354E (.read .w) (.write .w) a b []
  | .comd a b => layTwoLong 0x00374E (.read .d) (.write .d) a b []
  | .ibitb a b => layTwoLong 0x00384E (.read .b) .regaddr a b []
  | .ibitw a b => layTwoLong 0x00394E (.read .w) .regaddr a b []
  | .ibitd a b => layTwoLong 0x003B4E (.read .d) .regaddr a b []
  | .addpb a b => layTwoLong 0x003C4E (.read .b) (.rmw .b) a b []
  | .addpw a b => layTwoLong 0x003D4E (.read .w) (.rmw .w) a b []
  | .addpd a b => layTwoLong 0x003F4E (.read .d) (.rmw .d) a b []
  | .movmb a b d => layTwoLong 0x0000CE .addr .addr a b [.disp d]
  | .movmw a b d => layTwoLong 0x0001CE .addr .addr a b [.disp d]
  | .movmd a b d => layTwoLong 0x0003CE .addr .addr a b [.disp d]
  | .cmpmb a b d => layTwoLong 0x0004CE .addr .addr a b [.disp d]
  | .cmpmw a b d => layTwoLong 0x0005CE .addr .addr a b [.disp d]
  | .cmpmd a b d => layTwoLong 0x0007CE .addr .addr a b [.disp d]
  | .inssb a b im => layTwoLong 0x0008CE (.read .b) .regaddr a b [.imm im]
  | .inssw a b im => layTwoLong 0x0009CE (.read .w) .regaddr a b [.imm im]
  | .inssd a b im => layTwoLong 0x000BCE (.read .d) .regaddr a b [.imm im]
  | .extsb a b im => layTwoLong 0x000CCE .regaddr (.write .b) a b [.imm im]
  | .extsw a b im => layTwoLong 0x000DCE .regaddr (.write .w) a b [.imm im]
  | .extsd a b im => layTwoLong 0x000FCE .regaddr (.write .d) a b [.imm im]
  | .movxbw a b => layTwoLong 0x0010CE (.read .b) (.write .w) a b []
  | .movzbw a b => layTwoLong 0x0014CE (.read .b) (.write .w) a b []
  | .movzbd a b => layTwoLong 0x0018CE (.read .b) (.write .d) a b []
  | .movzwd a b => layTwoLong 0x0019CE (.read .w) (.write .d) a b []
  | .movxbd a b => layTwoLong 0x001CCE (.read .b) (.write .d) a b []
  | .movxwd a b => layTwoLong 0x001DCE (.read .w) (.write .d) a b []
  | .mulb a b => layTwoLong 0x0020CE (.read .b) (.rmw .b) a b []
  | .mulw a b => layTwoLong 0x0021CE (.read .w) (.rmw .w) a b []
  | .muld a b => layTwoLong 0x0023CE (.read .d) (.rmw .d) a b []
  | .meib a b => layTwoLong 0x0024CE (.read .b) (.rmw .w) a b []
  | .meiw a b => layTwoLong 0x0025CE (.read .w) (.rmw .d) a b []
  | .meid a b => layTwoLong 0x0027CE (.read .d) (.rmw .q) a b []
  | .deib a b => layTwoLong 0x002CCE (.read .b) (.rmw .w) a b []
  | .deiw a b => layTwoLong 0x002DCE (.read .w) (.rmw .d) a b []
  | .deid a b => layTwoLong 0x002FCE (.read .d) (.rmw .q) a b []
  | .quob a b => layTwoLong 0x0030CE (.read .b) (.rmw .b) a b []
  | .quow a b => layTwoLong 0x0031CE (.read .w) (.rmw .w) a b []
  | .quod a b => layTwoLong 0x0033CE (.read .d) (.rmw .d) a b []
  | .remb a b => layTwoLong 0x0034CE (.read .b) (.rmw .b) a b []
  | .remw a b => layTwoLong 0x0035CE (.read .w) (.rmw .w) a b []
  | .remd a b => layTwoLong 0x0037CE (.read .d) (.rmw .d) a b []
  | .modb a b => layTwoLong 0x0038CE (.read .b) (.rmw .b) a b []
  | .modw a b => layTwoLong 0x0039CE (.read .w) (.rmw .w) a b []
  | .modd a b => layTwoLong 0x003BCE (.read .d) (.rmw .d) a b []
  | .divb a b => layTwoLong 0x003CCE (.read .b) (.rmw .b) a b []
  | .divw a b => layTwoLong 0x003DCE (.read .w) (.rmw .w) a b []
  | .divd a b => layTwoLong 0x003FCE (.read .d) (.rmw .d) a b []
  | .extb r a b d => layTwoLong (0x00002E + 2048 * r.val) .regaddr (.write .b) a b [.disp d]
  | .extw r a b d => layTwoLong (0x00012E + 2048 * r.val) .regaddr (.write .w) a b [.disp d]
  | .extd r a b d => layTwoLong (0x00032E + 2048 * r.val) .regaddr (.write .d) a b [.disp d]
  | .cvtp r a b => layTwoLong (0x00036E + 2048 * r.val) .addr (.write .d) a b []
  | .insb r a b d => layTwoLong (0x0000AE + 2048 * r.val) (.read .b) .regaddr a b [.disp d]
  | .insw r a b d => layTwoLong (0x0001AE + 2048 * r.val) (.read .w) .regaddr a b [.disp d]
  | .insd r a b d => layTwoLong (0x0003AE + 2048 * r.val) (.read .d) .regaddr a b [.disp d]
  | .checkb r a b => layTwoLong (0x0000EE + 2048 * r.val) .addr (.read .b) a b []
  | .checkw r a b => layTwoLong (0x0001EE + 2048 * r.val) .addr (.read .w) a b []
  | .checkd r a b => layTwoLong (0x0003EE + 2048 * r.val) .addr (.read .d) a b []
  | .indexb r a b => layTwoLong (0x00042E + 2048 * r.val) (.read .b) (.read .b) a b []
  | .indexw r a b => layTwoLong (0x00052E + 2048 * r.val) (.read .w) (.read .w) a b []
  | .indexd r a b => layTwoLong (0x00072E + 2048 * r.val) (.read .d) (.read .d) a b []
  | .ffsb a b => layTwoLong 0x00046E (.read .b) (.rmw .b) a b []
  | .ffsw a b => layTwoLong 0x00056E (.read .w) (.rmw .b) a b []
  | .ffsd a b => layTwoLong 0x00076E (.read .d) (.rmw .b) a b []
  | .movsub a b => layTwoLong 0x000CAE .addr .addr a b []
  | .movsuw a b => layTwoLong 0x000DAE .addr .addr a b []
  | .movsud a b => layTwoLong 0x000FAE .addr .addr a b []
  | .movusb a b => layTwoLong 0x001CAE .addr .addr a b []
  | .movusw a b => layTwoLong 0x001DAE .addr .addr a b []
  | .movusd a b => layTwoLong 0x001FAE .addr .addr a b []
  | .movbf a b => layTwoLong 0x00043E (.read .b) (.write .d) a b []
  | .movwf a b => layTwoLong 0x00053E (.read .w) (.write .d) a b []
  | .movdf a b => layTwoLong 0x00073E (.read .d) (.write .d) a b []
  | .movbl a b => layTwoLong 0x00003E (.read .b) (.write .q) a b []
  | .movwl a b => layTwoLong 0x00013E (.read .w) (.write .q) a b []
  | .movdl a b => layTwoLong 0x00033E (.read .d) (.write .q) a b []
  | .lfsr g => layGenLong 0x000F3E (.read .d) g
  | .movlf a b => layTwoLong 0x00163E (.read .q) (.write .d) a b []
  | .movfl a b => layTwoLong 0x001B3E (.read .d) (.write .q) a b []
  | .roundfb a b => layTwoLong 0x00243E (.read .d) (.write .b) a b []
  | .roundfw a b => layTwoLong 0x00253E (.read .d) (.write .w) a b []
  | .roundfd a b => layTwoLong 0x00273E (.read .d) (.write .d) a b []
  | .roundlb a b => layTwoLong 0x00203E (.read .q) (.write .b) a b []
  | .roundlw a b => layTwoLong 0x00213E (.read .q) (.write .w) a b []
  | .roundld a b => layTwoLong 0x00233E (.read .q) (.write .d) a b []
  | .truncfb a b => layTwoLong 0x002C3E (.read .d) (.write .b) a b []
  | .truncfw a b => layTwoLong 0x002D3E (.read .d) (.write .w) a b []
  | .truncfd a b => layTwoLong 0x002F3E (.read .d) (.write .d) a b []
  | .trunclb a b => layTwoLong 0x00283E (.read .q) (.write .b) a b []
  | .trunclw a b => layTwoLong 0x00293E (.read .q) (.write .w) a b []
  | .truncld a b => layTwoLong 0x002B3E (.read .q) (.write .d) a b []
  | .floorfb a b => layTwoLong 0x003C3E (.read .d) (.write .b) a b []
  | .floorfw a b => layTwoLong 0x003D3E (.read .d) (.write .w) a b []
  | .floorfd a b => layTwoLong 0x003F3E (.read .d) (.write .d) a b []
  | .floorlb a b => layTwoLong 0x00383E (.read .q) (.write .b) a b []
  | .floorlw a b => layTwoLong 0x00393E (.read .q) (.write .w) a b []
  | .floorld a b => layTwoLong 0x003B3E (.read .q) (.write .d) a b []
  | .sfsr g => ⟨3, 0x00373E + 16384 * g.code, [((.write .d), g)], []⟩
  | .addf a b => layTwoLong 0x0001BE (.read .d) (.rmw .d) a b []
  | .addl a b => layTwoLong 0x0000BE (.read .q) (.rmw .q) a b []
  | .movf a b => layTwoLong 0x0005BE (.read .d) (.write .d) a b []
  | .movl a b => layTwoLong 0x0004BE (.read .q) (.write .q) a b []
  | .cmpf a b => layTwoLong 0x0009BE (.read .d) (.read .d) a b []
  | .cmpl a b => layTwoLong 0x0008BE (.read .q) (.read .q) a b []
  | .subf a b => layTwoLong 0x0011BE (.read .d) (.rmw .d) a b []
  | .subl a b => layTwoLong 0x0010BE (.read .q) (.rmw .q) a b []
  | .negf a b => layTwoLong 0x0015BE (.read .d) (.write .d) a b []
  | .negl a b => layTwoLong 0x0014BE (.read .q) (.write .q) a b []
  | .divf a b => layTwoLong 0x0021BE (.read .d) (.rmw .d) a b []
  | .divl a b => layTwoLong 0x0020BE (.read .q) (.rmw .q) a b []
  | .mulf a b => layTwoLong 0x0031BE (.read .d) (.rmw .d) a b []
  | .mull a b => layTwoLong 0x0030BE (.read .q) (.rmw .q) a b []
  | .absf a b => layTwoLong 0x0035BE (.read .d) (.write .d) a b []
  | .absl a b => layTwoLong 0x0034BE (.read .q) (.write .q) a b []
  | .polyf a b => layTwoLong 0x0009FE (.read .d) (.read .d) a b []
  | .polyl a b => layTwoLong 0x0008FE (.read .q) (.read .q) a b []
  | .dotf a b => layTwoLong 0x000DFE (.read .d) (.read .d) a b []
  | .dotl a b => layTwoLong 0x000CFE (.read .q) (.read .q) a b []
  | .scalbf a b => layTwoLong 0x0011FE (.read .d) (.rmw .d) a b []
  | .scalbl a b => layTwoLong 0x0010FE (.read .q) (.rmw .q) a b []
  | .logbf a b => layTwoLong 0x0015FE (.read .d) (.write .d) a b []
  | .logbl a b => layTwoLong 0x0014FE (.read .q) (.write .q) a b []
  | .illegalFp0011 c1 c2 lo => layBare (0x000CBE + 256 * lo.toNat + 16384 * c2.toNat + 524288 * c1.toNat)
  | .illegalFp1001 c1 c2 lo => layBare (0x0024BE + 256 * lo.toNat + 16384 * c2.toNat + 524288 * c1.toNat)
  | .rdval g => layGenLong 0x00031E .addr g
  | .wrval g => layGenLong 0x00071E .addr g
  | .lmr r g => layGenLong (0x000B1E + 32768 * r.code) (.read .d) g
  | .smr r g => layGenLong (0x000F1E + 32768 * r.code) (.write .d) g
  | .cinv al ic dc g => layGenLong (0x00271E + 131072 * al.toNat + 65536 * ic.toNat + 32768 * dc.toNat) (.read .d) g
  | .custom16 => layOne 0x16 []
  | .custom36 => layOne 0x36 []
  | .customB6 => layOne 0xB6 []

/-- The bytes of a number, least significant first (R121). -/
def leBytes : Nat → Nat → List Byte
  | 0, _ => []
  | k + 1, w => BitVec.ofNat 8 w :: leBytes k (w / 256)

/-- The bytes of a laid-out instruction in the order of R122. -/
def Layout.bytes (l : Layout) : List Byte :=
  leBytes l.basic l.word ++ (l.operands.flatMap fun o => o.2.indexBytes)
    ++ (l.operands.flatMap fun o => o.2.extension) ++ l.tail.flatMap Tail.bytes

/-- THE ENCODER: the bytes of a well-formed instruction. -/
def encode (i : Instr) : List Byte := (layout i).bytes

/-- The length of an instruction in bytes (R128). -/
def Instr.length (i : Instr) : Nat := (encode i).length

/-- The longest instruction: three bytes, two index bytes, two extensions of eight bytes, one byte
and a displacement of four (R120). -/
def maxLength : Nat := 26

/-- What the decoder reads from an instruction whose bits are `w`, numbered as
`spec/opcode_table.json` numbers them, every bit above `nbits` zero. -/
noncomputable def decodeTableWord (nbits w : Nat) : Option Instr :=
  match decode (leBytes maxLength (w % 2 ^ nbits)) with
  | .ok (i, _) => some i
  | .error _ => none

end Sys2Proof
end

