-- ==== Sys2Proof/Config.lean ====
section
/-! DEFINITION. What an implementation fixes (R6, `spec/92_eei_decisions.md`) and the free values.
A free value is an opaque constant: no proof can see what it is. -/

namespace Sys2Proof

/-- FREE VALUE. The k-th value that the manual leaves undefined in a run. A meaning draws the value at
`State.freeCount` and advances that counter, so every draw is a value of its own. DESIGN CHOICE,
safe: log 27. -/
opaque Config.freeBits : Nat → BitVec 64

/-- FREE VALUE. `DotPolyFused` (R265, D17): whether DOTf and POLYf round once. The source does not
say. DESIGN CHOICE, safe: log 42. -/
opaque Config.dotPolyFused : Bool

/-- What a machine does with an encoding that no instruction has (`UndefinedEncoding` of R6, U1). -/
inductive Config.UndefinedEncoding where
  /-- the step takes Trap(UND) -/
  | trap
  /-- the step is refused -/
  | refuse
  deriving DecidableEq, Repr

namespace Config

/-- `UndefinedEncoding` (R6, R180, D12): at the spec's default, Trap(UND). Log 18. -/
def undefinedEncoding : UndefinedEncoding := .trap

/-- `HAS_FPU` (R6): whether a floating-point unit is attached. The spec leaves it to the system; the
model has one. DESIGN CHOICE, unsafe: log 50. -/
def hasFpu : Bool := true

/-- Dispatch-table entry of the Non-Vectored interrupt: "the first entry" (R501, stated). -/
def vecNvi : Nat := 0

/-- Dispatch-table entry of the Non-Maskable interrupt. PRESUMED, unsafe: log 10. -/
def vecNmi : Nat := 1

/-- Dispatch-table entry of Trap(ABT). PRESUMED, unsafe: log 10. -/
def vecAbt : Nat := 2

/-- Dispatch-table entry of Trap(FPU): "the fourth entry (entry #3)" (R501, stated). -/
def vecFpu : Nat := 3

/-- Dispatch-table entry of Trap(ILL). PRESUMED, unsafe: log 10. -/
def vecIll : Nat := 4

/-- Dispatch-table entry of Trap(SVC). PRESUMED, unsafe: log 10. -/
def vecSvc : Nat := 5

/-- Dispatch-table entry of Trap(DVZ). PRESUMED, unsafe: log 10. -/
def vecDvz : Nat := 6

/-- Dispatch-table entry of Trap(FLG). PRESUMED, unsafe: log 10. -/
def vecFlg : Nat := 7

/-- Dispatch-table entry of Trap(BPT). PRESUMED, unsafe: log 10. -/
def vecBpt : Nat := 8

/-- Dispatch-table entry of Trap(TRC). PRESUMED, unsafe: log 10. -/
def vecTrc : Nat := 9

/-- Dispatch-table entry of Trap(UND). PRESUMED, unsafe: log 10. -/
def vecUnd : Nat := 10

/-- Dispatch-table entry of Trap(OVF). PRESUMED, unsafe: log 10. -/
def vecOvf : Nat := 13

end Config

end Sys2Proof
end

