-- ==== Sys2Proof/Machine/State.lean ====
section
/-! DEFINITION. The state of the machine as plain data (`spec/10_state.md`), the reasons a step can
stop, and the state after reset. -/

namespace Sys2Proof.Machine

/-- Why the machine stops with a fault. -/
inductive Fault where
  /-- Raised by every step taken in the state `EntryFault` (R513), which the machine enters when
  translation refuses an access of the exception entry sequence, and which only Reset leaves (R560).
  Safe: the spec names this terminal state. Log 13. -/
  | entryFault
  deriving DecidableEq, Repr

/-- Why a step is refused. -/
inductive Refusal where
  /-- Raised by an arm of `exec` whose instruction has no meaning yet. Safe: nothing is claimed. -/
  | notModelled (mnemonic : String)
  /-- Raised by a custom instruction executed with CFG.C = 1: the Custom Slave executes it, and the
  spec gives neither what it does nor a slave (R472, D23). Safe: log 21. -/
  | customSlave
  /-- Raised by a floating-point instruction executed with CFG.F = 1 where `Config.hasFpu` is false: the
  unit is absent (R6, U35). Never raised with the parameter at true. Safe: log 50. -/
  | fpuAbsent
  /-- Raised by an undefined encoding where `Config.undefinedEncoding` is `refuse` (R6, U1). Never
  raised with the parameter at its default, `trap`. Safe: log 18. -/
  | undefinedEncoding
  deriving DecidableEq, Repr

/-- What User mode may do with a page, by its Protection Level (R459, R505). -/
inductive Protection where
  /-- no access -/
  | noAccess
  /-- read and fetch only -/
  | readOnly
  /-- read, fetch and write -/
  | readWrite
  deriving DecidableEq, Repr

/-- Which table entry that leads to a page is valid (R459). -/
inductive Presence where
  /-- both levels valid -/
  | valid
  /-- the Level-1 entry is invalid -/
  | level1Invalid
  /-- the Level-2 entry is invalid -/
  | level2Invalid
  deriving DecidableEq, Repr

/-- One region of the parameter `Translate` and `Validate` (R99, R459): the virtual addresses `lo` to
`hi` of one mode. DESIGN CHOICE: log 8. -/
structure Region where
  /-- the mode it belongs to: true for User -/
  user : Bool
  /-- first virtual address -/
  lo : Word
  /-- last virtual address -/
  hi : Word
  /-- physical address of `lo` -/
  phys : Word
  /-- what the mode may do there -/
  prot : Protection
  /-- whether the page is present -/
  presence : Presence
  deriving DecidableEq, Repr

/-- Memory: the bytes that differ from what an unlisted address reads as, by rising address. -/
abbrev Memory := List Host.Cell

/-- What the last execution did; read by the step, which samples interrupts and the trace trap
accordingly (R523, R524, R530). The model's own: log 48. -/
inductive Boundary where
  /-- an instruction completed -/
  | done
  /-- one element of a string instruction completed, and the instruction goes on (R352) -/
  | element
  /-- a trap or an interrupt was entered (R524 line 3) -/
  | trapped
  deriving DecidableEq, Repr

/-- The state of the machine. INVENTORY.md lists each field with the rule that names it. -/
structure State where
  /-- R0 to R7 (R20) -/
  regs : Vector Word 8
  /-- Program Counter (R24) -/
  pc : Word
  /-- Interrupt Stack Pointer (R26) -/
  sp0 : Word
  /-- User Stack Pointer (R26) -/
  sp1 : Word
  /-- Frame Pointer (R28) -/
  fp : Word
  /-- Static Base (R31) -/
  sb : Word
  /-- Interrupt Base (R29) -/
  intbase : Word
  /-- Module Register (R30) -/
  mod : BitVec 16
  /-- Processor Status Register (R32) -/
  psr : BitVec 16
  /-- Configuration Register (R48) -/
  cfg : Word
  /-- floating-point data registers F0 to F7 (R57) -/
  fd : Vector Quad 8
  /-- Floating-Point Status Register (R59) -/
  fsr : Word
  /-- Page Table Base 0 (R69) -/
  ptb0 : Word
  /-- Page Table Base 1 (R69) -/
  ptb1 : Word
  /-- Translation Exception Address (R69) -/
  tear : Word
  /-- Memory Management Control (R69) -/
  mcr : Word
  /-- Memory Management Status (R69) -/
  msr : Word
  /-- Debug Condition Register (R71) -/
  dcr : Word
  /-- Debug Status Register (R71) -/
  dsr : Word
  /-- Compare Address Register (R71) -/
  car : Word
  /-- Breakpoint Program Counter (R71) -/
  bpc : Word
  /-- memory (R80) -/
  mem : Memory
  /-- the state Waiting of WAIT (R435) -/
  waiting : Bool
  /-- the state EntryFault: an access of the entry sequence was refused (R513) -/
  entryFault : Bool
  /-- host input: a Non-Maskable interrupt is pending (R520) -/
  nmiPending : Bool
  /-- host input: level of the maskable interrupt request (R520) -/
  intRequest : Bool
  /-- host input: Reset is asserted (R560) -/
  resetRequest : Bool
  /-- host output: how many `EndOfInterrupt` events RETI has emitted (R401) -/
  eoiEvents : Nat
  /-- the parameter `Translate` and `Validate`; empty is the default, identity (R99) -/
  xlate : List Region
  /-- the model's own: how many free values have been drawn (log 27) -/
  freeCount : Nat
  /-- the model's own: what the last execution did (log 48) -/
  boundary : Boundary
  deriving DecidableEq, Repr

/-- The machine right after reset (R74, R561). PC, PSR, FSR.TT, UF, IF and RMB, and CFG bits 7:4 are
the spec's; every other register value is the model's (DESIGN CHOICE, unsafe: log 1; PRESUMED for
CFG's option bits, MCR and DCR, unsafe: log 2). -/
def State.reset : State where
  regs := Vector.replicate 8 0
  pc := 0
  sp0 := 0
  sp1 := 0
  fp := 0
  sb := 0
  intbase := 0
  mod := 0
  psr := 0
  cfg := 0xF0
  fd := Vector.replicate 8 0
  fsr := 0
  ptb0 := 0
  ptb1 := 0
  tear := 0
  mcr := 0
  msr := 0
  dcr := 0
  dsr := 0
  car := 0
  bpc := 0
  mem := []
  waiting := false
  entryFault := false
  nmiPending := false
  intRequest := false
  resetRequest := false
  eoiEvents := 0
  xlate := []
  freeCount := 0
  boundary := .done

end Sys2Proof.Machine
end

