-- ==== Sys2Proof/Machine/Flags.lean ====
section
/-! DEFINITION. The fields of PSR, CFG and FSR, the condition codes, and every flag computation the
spec gives. -/

namespace Sys2Proof.Machine

/-- A bit vector with one bit replaced. -/
def putBit {n : Nat} (x : BitVec n) (i : Nat) (b : Bool) : BitVec n :=
  if b then x ||| (1#n <<< i) else x &&& ~~~(1#n <<< i)

/-! ## Fields of PSR (R32) -/

/-- C, Carry, bit 0 (R35). -/
def State.flagC (s : State) : Bool := s.psr.getLsbD 0
/-- T, Trace, bit 1 (R36). -/
def State.flagT (s : State) : Bool := s.psr.getLsbD 1
/-- L, Low, bit 2 (R37). -/
def State.flagL (s : State) : Bool := s.psr.getLsbD 2
/-- V, Overflow Trap Enable, bit 4 (R38). -/
def State.flagV (s : State) : Bool := s.psr.getLsbD 4
/-- F, the general condition flag, bit 5 (R39). -/
def State.flagF (s : State) : Bool := s.psr.getLsbD 5
/-- Z, Zero, bit 6 (R40). -/
def State.flagZ (s : State) : Bool := s.psr.getLsbD 6
/-- N, Negative, bit 7 (R41). -/
def State.flagN (s : State) : Bool := s.psr.getLsbD 7
/-- U, User Mode, bit 8 (R42). -/
def State.flagU (s : State) : Bool := s.psr.getLsbD 8
/-- S, Stack select, bit 9 (R43). -/
def State.flagS (s : State) : Bool := s.psr.getLsbD 9
/-- P, Trace Trap Pending, bit 10 (R44). -/
def State.flagP (s : State) : Bool := s.psr.getLsbD 10
/-- I, Interrupt Enable, bit 11 (R45). -/
def State.flagI (s : State) : Bool := s.psr.getLsbD 11

/-- The bits of PSR that are state; the reserved bits 3 and 15:12 are not (R33, D10; log 6). -/
def psrMask : BitVec 16 := 0x0FF7

/-- Writes the whole PSR; reserved bits are discarded (R33). -/
def State.setPsr (s : State) (v : BitVec 16) : State := { s with psr := v &&& psrMask }

/-- Writes UPSR, the low byte of PSR (R34). -/
def State.setUpsr (s : State) (v : BitVec 8) : State :=
  s.setPsr ((s.psr &&& 0xFF00) ||| v.setWidth 16)

/-- Replaces one flag of PSR. -/
def State.setFlag (s : State) (i : Nat) (b : Bool) : State := { s with psr := putBit s.psr i b }

/-- Writes C. -/
def State.setC (s : State) (b : Bool) : State := s.setFlag 0 b
/-- Writes F. -/
def State.setF (s : State) (b : Bool) : State := s.setFlag 5 b
/-- Writes Z, N and L, the flags of a comparison (R37, R40, R41). -/
def State.setZNL (s : State) (z n l : Bool) : State :=
  ((s.setFlag 6 z).setFlag 7 n).setFlag 2 l

/-! ## Fields of CFG (R48) -/

/-- CFG.I, vectored interrupts (R49). -/
def State.cfgI (s : State) : Bool := s.cfg.getLsbD 0
/-- CFG.F, floating-point instructions enabled (R50). -/
def State.cfgF (s : State) : Bool := s.cfg.getLsbD 1
/-- CFG.M, memory-management instructions enabled (R51). -/
def State.cfgM (s : State) : Bool := s.cfg.getLsbD 2
/-- CFG.C, custom instructions enabled (R52). -/
def State.cfgC (s : State) : Bool := s.cfg.getLsbD 3
/-- CFG.DE, Direct-Exception mode (R53). -/
def State.cfgDE (s : State) : Bool := s.cfg.getLsbD 8

/-- Writes CFG: bits 7:4 stay 1 and bits 31:14 stay 0 (R48, R56, D10). -/
def State.setCfg (s : State) (v : Word) : State :=
  { s with cfg := (v &&& 0x00003F0F) ||| 0x000000F0 }

/-! ## Fields of FSR (R59) -/

/-- The bits of FSR that are state (R60, D10; log 6). -/
def fsrMask : Word := 0x0001FFFF

/-- FSR.UEN, Underflow Trap Enable (R62). -/
def fsrUEN (f : Word) : Bool := f.getLsbD 3
/-- FSR.IEN, Inexact Result Trap Enable (R63). -/
def fsrIEN (f : Word) : Bool := f.getLsbD 5
/-- FSR.RM, Rounding Mode (R61). -/
def fsrRM (f : Word) : BitVec 2 := f.extractLsb' 7 2
/-- FSR.TT replaced (R64). -/
def fsrSetTT (f : Word) (tt : BitVec 3) : Word := (f &&& 0xFFFFFFF8) ||| tt.setWidth 32
/-- FSR.UF set (R65). -/
def fsrSetUF (f : Word) : Word := putBit f 4 true
/-- FSR.IF set (R66). -/
def fsrSetIF (f : Word) : Word := putBit f 6 true
/-- FSR.RMB set (R67). -/
def fsrSetRMB (f : Word) : Word := putBit f 16 true

/-! ## Conditions -/

/-- Whether a condition holds (R381). -/
def State.condTrue (s : State) : Cond → Bool
  | .eq => s.flagZ
  | .ne => !s.flagZ
  | .cs => s.flagC
  | .cc => !s.flagC
  | .hi => s.flagL
  | .ls => !s.flagL
  | .gt => s.flagN
  | .le => !s.flagN
  | .fs => s.flagF
  | .fc => !s.flagF
  | .lo => !s.flagZ && !s.flagL
  | .hs => s.flagZ || s.flagL
  | .lt => !s.flagZ && !s.flagN
  | .ge => s.flagZ || s.flagN

/-! ## Integer arithmetic with its conditions -/

/-- Whether an integer is a w-bit signed value (R200). -/
def fitsSigned (w : Nat) (x : Int) : Bool :=
  decide (-(2 ^ (w - 1) : Int) ≤ x) && decide (x < (2 ^ (w - 1) : Int))

/-- A result with its carry or borrow and its overflow condition. -/
structure Arith (w : Nat) where
  /-- the result, modulo 2^w -/
  value : BitVec w
  /-- carry out of an addition, or borrow of a subtraction -/
  carry : Bool
  /-- overflow -/
  ovf : Bool
  deriving DecidableEq, Repr

/-- AddC(a, b, cin) (R201). -/
def addC {w : Nat} (a b : BitVec w) (cin : Bool) : Arith w where
  value := a + b + BitVec.ofNat w cin.toNat
  carry := decide (2 ^ w ≤ a.toNat + b.toNat + cin.toNat)
  ovf := !fitsSigned w (a.toInt + b.toInt + cin.toNat)

/-- SubB(a, b, bin): a - b - bin (R201). -/
def subB {w : Nat} (a b : BitVec w) (bin : Bool) : Arith w where
  value := a - b - BitVec.ofNat w bin.toNat
  carry := decide (a.toNat < b.toNat + bin.toNat)
  ovf := !fitsSigned w (a.toInt - b.toInt - bin.toNat)

/-- The most negative w-bit value. -/
def minSigned (w : Nat) : BitVec w := BitVec.ofNat w (2 ^ (w - 1))

/-- The flags of a comparison of the first operand with the second (R227, R354). -/
def State.compareFlags {w : Nat} (s : State) (a b : BitVec w) : State :=
  s.setZNL (a == b) (decide (b.toInt < a.toInt)) (decide (b.toNat < a.toNat))

end Sys2Proof.Machine
end

