-- ==== Sys2Proof/Machine/Ops.lean ====
section
/-! DEFINITION. The named operations over registers and memory, and the one way an exception is taken
and returned from. -/

namespace Sys2Proof.Machine

/-! ## Why an instruction does not complete -/

/-- The traps that carry nothing but their name (R500). -/
inductive Trap where
  /-- Illegal Operation (R503) -/
  | ill
  /-- Supervisor Call (R399) -/
  | svc
  /-- Division by Zero (R202) -/
  | dvz
  /-- Flag (R397) -/
  | flg
  /-- Breakpoint (R396) -/
  | bpt
  /-- Undefined Instruction (R504) -/
  | und
  deriving DecidableEq, Repr

/-- Why the body of an instruction stops before it completes. -/
inductive Stop where
  /-- a trap whose return address is the instruction itself (R506) -/
  | trap (t : Trap)
  /-- Trap(ABT): translation refused this virtual address (R505) -/
  | abort (va : Word)
  /-- Trap(FPU), with FSR as updated before trapping (R258) -/
  | fpu (fsr : Word)
  /-- Trap(OVF), with the state after the instruction has delivered its results (R203) -/
  | overflow (s : State)
  /-- the Custom Slave would execute the instruction (R472) -/
  | custom
  /-- the floating-point unit that the instruction needs is absent (R6, U35) -/
  | noFpu
  /-- the encoding is no instruction's, and the machine refuses such a step (R6, U1) -/
  | undefined
  deriving DecidableEq, Repr

/-! ## Registers -/

/-- Reads a general register (R20). -/
def State.reg (s : State) (r : Reg) : Word := s.regs[r]

/-- Writes all 32 bits of a general register (R20). -/
def State.setReg (s : State) (r : Reg) (v : Word) : State := { s with regs := s.regs.set r v }

/-- A word with its low w bits replaced (R21). -/
def lowPart {w : Nat} (old : Word) (v : BitVec w) : Word := ((old >>> w) <<< w) ||| v.setWidth 32

/-- Writes the low w bits of a general register and leaves the rest (R21, R151). -/
def State.setRegLow {w : Nat} (s : State) (r : Reg) (v : BitVec w) : State :=
  s.setReg r (lowPart (s.reg r) v)

/-- The selected stack pointer: SP1 if PSR.S = 1, else SP0 (R27). -/
def State.sp (s : State) : Word := if s.flagS then s.sp1 else s.sp0

/-- Writes the selected stack pointer (R27). -/
def State.setSp (s : State) (v : Word) : State :=
  if s.flagS then { s with sp1 := v } else { s with sp0 := v }

/-- The cell F(n-1) of an odd n, and F(n) of an even n: where the single-precision register Fn lies
(R58). -/
def evenOf (r : Reg) : Reg := Fin.ofNat 8 (r.val - r.val % 2)

/-- The single-precision register Fn: the low half of FD[n] for even n, the high half of FD[n-1] for
odd n (R58). -/
def State.freg32 (s : State) (r : Reg) : BitVec 32 :=
  if r.val % 2 = 0 then s.fd[r].extractLsb' 0 32 else (s.fd[evenOf r]).extractLsb' 32 32

/-- Reads a floating-point register as an operand of w = 32 or w = 64 bits (R58, D1; log 7). -/
def State.freg (w : Nat) (s : State) (r : Reg) : BitVec w :=
  if w = 32 then (s.freg32 r).setWidth w else (s.fd[r]).setWidth w

/-- Writes a floating-point register as an operand of 32 or 64 bits; RMB is set (R58, R67). -/
def State.setFreg {w : Nat} (s : State) (r : Reg) (v : BitVec w) : State :=
  let fd :=
    if w = 32 then
      let e := evenOf r
      let old := s.fd[e]
      s.fd.set e (if r.val % 2 = 0 then old.extractLsb' 32 32 ++ v.setWidth 32
        else v.setWidth 32 ++ old.extractLsb' 0 32)
    else s.fd.set r (v.setWidth 64)
  { s with fd := fd, fsr := fsrSetRMB s.fsr }

/-! ## Free values -/

/-- Draws a free value of w bits. DESIGN CHOICE, safe: log 27. -/
def State.draw (w : Nat) (s : State) : BitVec w × State :=
  ((Config.freeBits s.freeCount).setWidth w, { s with freeCount := s.freeCount + 1 })

/-- Leaves every general register a free value (U8). -/
def State.drawRegs (s : State) : State :=
  { s with
    regs := Vector.ofFn fun r : Fin 8 => (Config.freeBits (s.freeCount + r.val)).setWidth 32
    freeCount := s.freeCount + 8 }

/-! ## Memory as bytes -/

/-- What a byte reads as that nothing has written. DESIGN CHOICE, unsafe: log 3. -/
def Memory.unlisted : Byte := 0

/-- Reads the byte at a physical address. -/
def Memory.get : Memory → Nat → Byte
  | [], _ => Memory.unlisted
  | (k, b) :: m, a => if k = a then b else Memory.get m a

/-- Puts a cell before a memory, unless the byte is what an unlisted address reads as. -/
def Memory.cons (a : Nat) (v : Byte) (m : Memory) : Memory :=
  if v = Memory.unlisted then m else (a, v) :: m

/-- Writes the byte at a physical address and keeps the canonical form. -/
def Memory.set : Memory → Nat → Byte → Memory
  | [], a, v => Memory.cons a v []
  | (k, b) :: m, a, v =>
    if a < k then Memory.cons a v ((k, b) :: m)
    else if a = k then Memory.cons a v m
    else (k, b) :: Memory.set m a v

/-- The canonical form: addresses strictly rising, below 2^32, and no byte that an unlisted address
reads as. -/
def Memory.wf : Memory → Bool
  | [] => true
  | (k, b) :: m =>
    decide (k < 2 ^ 32) && decide (b ≠ Memory.unlisted) && m.all (fun c => decide (k < c.1))
      && Memory.wf m

/-! ## Translation and protection -/

/-- The kind of an access (R99). -/
inductive Access where
  | fetch | read | write | rmw
  deriving DecidableEq, Repr

/-- Whether a protection level permits a kind of access: a read-protected page is also
write-protected (R459). -/
def Protection.permits : Protection → Access → Bool
  | .noAccess, _ => false
  | .readOnly, .fetch => true
  | .readOnly, .read => true
  | .readOnly, _ => false
  | .readWrite, _ => true

/-- The region that a virtual address of a mode lies in, if any. -/
def State.region (s : State) (user : Bool) (va : Word) : Option Region :=
  s.xlate.find? fun r => (r.user == user) && decide (r.lo ≤ va) && decide (va ≤ r.hi)

/-- `Translate(vaddr, kind, mode)`: the physical address, or none where the access is refused. An
address in no region is translated to itself, the spec's default (R99, D7; log 8). -/
def State.translate (s : State) (k : Access) (user : Bool) (va : Word) : Option Word :=
  match s.region user va with
  | none => some va
  | some r =>
    if r.prot.permits k ∧ r.presence = .valid then some (r.phys + (va - r.lo)) else none

/-- The outcome of the check that RDVAL and WRVAL make (R459). -/
inductive Verdict where
  | allowed | denied | abort
  deriving DecidableEq, Repr

/-- `Validate(a, kind)` of the User-mode right to an address: an invalid Level-1 entry aborts only
where the protection level allows the access, and an invalid Level-2 entry never does (R459;
log 9). -/
def State.validate (s : State) (k : Access) (va : Word) : Verdict :=
  match s.region true va with
  | none => .allowed
  | some r =>
    if r.prot.permits k then (if r.presence = .level1Invalid then .abort else .allowed)
    else .denied

/-- Reads one byte at a virtual address. -/
def State.readByte (s : State) (k : Access) (user : Bool) (va : Word) : Except Stop Byte :=
  match s.translate k user va with
  | some pa => .ok (s.mem.get pa.toNat)
  | none => .error (.abort va)

/-- Writes one byte at a virtual address. -/
def State.writeByte (s : State) (k : Access) (user : Bool) (va : Word) (v : Byte) :
    Except Stop State :=
  match s.translate k user va with
  | some pa => .ok { s with mem := s.mem.set pa.toNat v }
  | none => .error (.abort va)

/-- `MemRead(a, n)` as a number: n bytes, the least significant at the lowest address, addresses
modulo 2^32 (R81, R82). -/
def State.readBytes (s : State) (k : Access) (user : Bool) (va : Word) : Nat → Except Stop Nat
  | 0 => .ok 0
  | n + 1 =>
    match s.readByte k user va with
    | .error e => .error e
    | .ok b =>
      match State.readBytes s k user (va + 1) n with
      | .error e => .error e
      | .ok v => .ok (b.toNat + 256 * v)

/-- `MemWrite(a, n, v)`: the low n bytes of a number (R82). -/
def State.writeBytes (k : Access) (user : Bool) : Nat → Word → Nat → State → Except Stop State
  | 0, _, _, s => .ok s
  | n + 1, va, v, s =>
    match s.writeByte k user va (BitVec.ofNat 8 v) with
    | .error e => .error e
    | .ok s => State.writeBytes k user n (va + 1) (v / 256) s

/-- Reads a w-bit value, in the mode of PSR.U unless another is given (R82, R99). -/
def State.read (w : Nat) (s : State) (va : Word) (k : Access := .read) (user : Bool := s.flagU) :
    Except Stop (BitVec w) :=
  match s.readBytes k user va (w / 8) with
  | .ok v => .ok (BitVec.ofNat w v)
  | .error e => .error e

/-- Writes a w-bit value (R82, R99). -/
def State.write {w : Nat} (s : State) (va : Word) (v : BitVec w) (k : Access := .write)
    (user : Bool := s.flagU) : Except Stop State :=
  State.writeBytes k user (w / 8) va v.toNat s

/-! ## The stack -/

/-- `Push(n, v)`: SP is decremented, then the value is written (R90). -/
def State.push {w : Nat} (s : State) (v : BitVec w) : Except Stop State :=
  let sp := s.sp - BitVec.ofNat 32 (w / 8)
  (s.setSp sp).write sp v

/-- `Pop(n)`: the value is read, then SP is incremented (R90). -/
def State.pop (w : Nat) (s : State) : Except Stop (BitVec w × State) :=
  match s.read w s.sp with
  | .ok v => .ok (v, s.setSp (s.sp + BitVec.ofNat 32 (w / 8)))
  | .error e => .error e

/-! ## Completing an instruction -/

/-- An instruction of length `len` completes and passes control to the next (R24). -/
def State.advance (s : State) (len : Nat) : State :=
  { s with pc := s.pc + BitVec.ofNat 32 len, boundary := .done }

/-- An instruction completes and transfers control (R24). -/
def State.jump (s : State) (target : Word) : State := { s with pc := target, boundary := .done }

/-- `OvfTrap(ovf)` of an instruction that has delivered its results and advanced PC (R203, D14;
log 15). -/
def ovfTrap (ovf : Bool) (s : State) : Except Stop State :=
  if s.flagV && ovf then .error (.overflow s) else .ok s

/-- The first action of a privileged instruction (R503). -/
def privileged (s : State) : Except Stop Unit :=
  if s.flagU then .error (.trap .ill) else .ok ()

/-- The first action of a floating-point instruction (R259). CFG.F set for a unit that is absent is
refused (R6, U35; log 50). -/
def needFpu (s : State) : Except Stop Unit :=
  if s.cfgF then (if Config.hasFpu then .ok () else .error .noFpu) else .error (.trap .und)

/-- What an encoding that is no instruction's comes to (`UndefinedEncoding` of R6; D12, log 18). -/
def undefinedStop : Stop :=
  match Config.undefinedEncoding with
  | .trap => .trap .und
  | .refuse => .undefined

/-- The prologue of the memory-management instructions that CFG.M enables (R451). -/
def needMmu (s : State) : Except Stop Unit :=
  if s.flagU then .error (.trap .ill) else if s.cfgM then .ok () else .error (.trap .und)

/-! ## Taking an exception, and returning from one -/

/-- The first words of the exception frame: PSR image, MOD, return address, pushed on SP0 in
Supervisor mode (R510). -/
def pushFrame (s : State) (ret : Word) (image : BitVec 16) : Except Stop State := do
  let s ← { s with sp0 := s.sp0 - 2 }.write (s.sp0 - 2) image .write false
  let s ← { s with sp0 := s.sp0 - 2 }.write (s.sp0 - 2) s.mod .write false
  { s with sp0 := s.sp0 - 4 }.write (s.sp0 - 4) ret .write false

/-- The live PSR after entry: T, U, S and P cleared, and I if `clearI` (R47, R510). -/
def enteredPsr (psr : BitVec 16) (clearI : Bool) : BitVec 16 :=
  if clearI then psr &&& 0xF0FD else psr &&& 0xF8FD

/-- Exception entry (R510, and R512 where CFG.DE = 1; log 11, log 12): the dispatch entry and, unless
Direct-Exception mode is enabled, the new module's descriptor are read; PSR is cleared as R47 says;
the frame is pushed; MOD, SB and PC are loaded. -/
def enterException (s : State) (v : Nat) (ret : Word) (clearI : Bool) (image : BitVec 16) :
    Except Stop State := do
  let d ← s.read 32 (s.intbase + BitVec.ofNat 32 (4 * v)) .read false
  let live := { s with psr := enteredPsr s.psr clearI, waiting := false, boundary := .trapped }
  if s.cfgDE then
    let s ← pushFrame live ret image
    .ok { s with pc := d }
  else
    let m := d.extractLsb' 0 16
    let sb ← s.read 32 (m.setWidth 32) .read false
    let pb ← s.read 32 (m.setWidth 32 + 8) .read false
    let s ← pushFrame live ret image
    .ok { s with mod := m, sb := sb, pc := pb + (d.extractLsb' 16 16).setWidth 32 }

/-- The state EntryFault, entered from the state in which the entry sequence began: nothing of the
sequence remains, and the machine takes no further step but Reset (R513, R560; D15, log 13). -/
def State.failEntry (s : State) : State :=
  { s with entryFault := true, waiting := false, boundary := .trapped }

/-- Takes an exception. An access of the entry sequence that translation refuses leaves the machine in
EntryFault (R513; log 13). -/
def takeException (s : State) (v : Nat) (ret : Word) (clearI : Bool) (image : BitVec 16) :
    Host.Outcome State Fault Refusal :=
  match enterException s v ret clearI image with
  | .ok s => .next s
  | .error _ => .next s.failEntry

/-- A PSR image with P cleared (R530). -/
def imageNoP (psr : BitVec 16) : BitVec 16 := putBit psr 10 false

/-- The dispatch entry of a trap (R501). -/
def Trap.vector : Trap → Nat
  | .ill => Config.vecIll
  | .svc => Config.vecSvc
  | .dvz => Config.vecDvz
  | .flg => Config.vecFlg
  | .bpt => Config.vecBpt
  | .und => Config.vecUnd

/-- The outcome of an instruction that began in state `s`. A trap whose return address is the
instruction itself is taken from `s`, so that nothing the instruction did remains but TEAR or FSR
(R511, D15; log 14), with an image whose P is cleared (R530). Trap(OVF) is taken from the completed
state with PSR as it is (R203, R530). -/
def conclude (s : State) : Except Stop State → Host.Outcome State Fault Refusal
  | .ok s' => .next s'
  | .error (.trap t) => takeException s t.vector s.pc false (imageNoP s.psr)
  | .error (.abort va) =>
    takeException { s with tear := va } Config.vecAbt s.pc true (imageNoP s.psr)
  | .error (.fpu fsr) =>
    takeException { s with fsr := fsr } Config.vecFpu s.pc false (imageNoP s.psr)
  | .error (.overflow s') => takeException s' Config.vecOvf s'.pc false s'.psr
  | .error .custom => .refused .customSlave
  | .error .noFpu => .refused .fpuAbsent
  | .error .undefined => .refused .undefinedEncoding

/-- The common part of RETT and RETI: PC, MOD and PSR are restored from the stack that the old PSR.S
selects, SB from the module's descriptor, and `extra` is added to the stack pointer that the new
PSR.S selects. In Direct-Exception mode MOD and SB stay (R398, R400). -/
def returnFromException (s : State) (extra : Word) : Except Stop State := do
  let sp := s.sp
  let t ← s.read 32 sp
  let m ← s.read 16 (sp + 4)
  let p ← s.read 16 (sp + 6)
  let s' := (s.setSp (sp + 8)).setPsr p
  if s.cfgDE then
    .ok ((s'.setSp (s'.sp + extra)).jump t)
  else
    let sb ← s.read 32 (m.setWidth 32) .read false
    .ok ({ s'.setSp (s'.sp + extra) with mod := m, sb := sb }.jump t)

end Sys2Proof.Machine
end

