-- ==== Sys2Proof/Machine/Operands.lean ====
section
/-! DEFINITION. General operands: every addressing mode under every access class
(`spec/30_encoding.md` R130 to R162), and the shapes that instructions are made of. -/

namespace Sys2Proof.Machine

/-! ## Addresses -/

/-- The value of a displacement, sign-extended to 32 bits (R143). -/
def dispValue : Disp → Word
  | .d7 v => v.signExtend 32
  | .d14 v => v.signExtend 32
  | .d30 v => v.signExtend 32

/-- The value of an immediate as the low w bits (R146). -/
def immBits (w : Nat) : ImmVal → BitVec w
  | .b v => v.setWidth w
  | .w v => v.setWidth w
  | .d v => v.setWidth w
  | .q v => v.setWidth w

/-- The address that a mode gives under class addr. `spi` is the selected stack pointer at the
beginning of the instruction, which the Stack Memory modes use (R151 to R160). Immediate mode has no
address; the decoder refuses it there (R155, U6; log 18). -/
def modeAddr (spi : Word) (s : State) : Mode → Except Stop Word
  | .reg n => .ok (s.reg n)
  | .regRel n d => .ok (s.reg n + dispValue d)
  | .frameRel d1 d2 => do
    let p ← s.read 32 (s.fp + dispValue d1)
    .ok (p + dispValue d2)
  | .stackRel d1 d2 => do
    let p ← s.read 32 (spi + dispValue d1)
    .ok (p + dispValue d2)
  | .staticRel d1 d2 => do
    let p ← s.read 32 (s.sb + dispValue d1)
    .ok (p + dispValue d2)
  | .imm _ => .error (.trap .und)
  | .abs d => .ok (dispValue d)
  | .ext d1 d2 => do
    let lb ← s.read 32 (s.mod.setWidth 32 + 4)
    let p ← s.read 32 (lb + 4 * dispValue d1)
    .ok (p + dispValue d2)
  | .tos => .ok s.sp
  | .frame d => .ok (s.fp + dispValue d)
  | .stack d => .ok (spi + dispValue d)
  | .static d => .ok (s.sb + dispValue d)
  | .prog d => .ok (s.pc + dispValue d)

/-- `EA(k)`: the address of an operand in memory; Scaled Indexing makes the class addr (R150, R162). -/
def genAddr (spi : Word) (s : State) : Gen → Except Stop Word
  | .plain m => modeAddr spi s m
  | .indexed sc m r => do
    let base ← modeAddr spi s m
    .ok (base + s.reg r * BitVec.ofNat 32 sc.bytes)

/-! ## Reading and writing operands -/

/-- Which registers Register mode names for an operand (R137, R138, R152). -/
inductive File where
  /-- an integer operand: R0 to R7 -/
  | int
  /-- an integer operand of length 2i: a register pair -/
  | pair
  /-- a floating-point operand: F0 to F7 -/
  | float
  deriving DecidableEq, Repr

/-- The location of an operand that is written. -/
inductive Loc where
  /-- the low part of a general register (R151) -/
  | reg (r : Reg)
  /-- a register pair (R152) -/
  | pair (r : Reg)
  /-- a floating-point register (R58) -/
  | freg (r : Reg)
  /-- memory, accessed as this kind -/
  | mem (a : Word) (k : Access)
  /-- a push on the stack (R132) -/
  | push
  deriving DecidableEq, Repr

/-- The location that Register mode names. -/
def File.loc : File → Reg → Loc
  | .int, r => .reg r
  | .pair, r => .pair r
  | .float, r => .freg r

/-- The two registers of a pair whose even register is `r`. -/
def pairHigh (r : Reg) : Reg := r + 1

/-- `RdOp` of a register: the low part of a general register, a pair with its least significant half
in the even register, or a floating-point register. An odd register named for a pair gives a free
value (R151, R152, U8; log 28). -/
def readReg (w : Nat) (s : State) : File → Reg → BitVec w × State
  | .int, r => ((s.reg r).setWidth w, s)
  | .float, r => (s.freg w r, s)
  | .pair, r =>
    if r.val % 2 = 0 then
      (((s.reg (pairHigh r)).setWidth (w / 2) ++ (s.reg r).setWidth (w / 2)).setWidth w, s)
    else s.draw w

/-- `WrOp` to a register. A pair named by an odd register leaves every general register a free value
(U8; log 28). -/
def writePair {w : Nat} (s : State) (r : Reg) (v : BitVec w) : State :=
  if r.val % 2 = 0 then
    (s.setRegLow r (v.extractLsb' 0 (w / 2))).setRegLow (pairHigh r)
      (v.extractLsb' (w / 2) (w / 2))
  else s.drawRegs

/-- `RdOp(k)` of class read (R131, R151, R155, R158). -/
def readGen (f : File) (w : Nat) (spi : Word) (g : Gen) (s : State) : Except Stop (BitVec w × State) :=
  match g with
  | .plain (.reg r) => .ok (readReg w s f r)
  | .plain (.imm v) => .ok (immBits w v, s)
  | .plain .tos => s.pop w
  | g => do
    let a ← genAddr spi s g
    let v ← s.read w a
    .ok (v, s)

/-- The location of an operand of class write (R132). Top of Stack is pushed at the time of the
write, with the stack pointer of then (R158). -/
def writeLoc (f : File) (spi : Word) (g : Gen) (s : State) : Except Stop Loc :=
  match g with
  | .plain (.reg r) => .ok (f.loc r)
  | .plain .tos => .ok .push
  | g => do
    let a ← genAddr spi s g
    .ok (.mem a .write)

/-- The location of an operand of class rmw; Top of Stack is the location SP points at (R133). -/
def rmwLoc (f : File) (spi : Word) (g : Gen) (s : State) : Except Stop Loc :=
  match g with
  | .plain (.reg r) => .ok (f.loc r)
  | g => do
    let a ← genAddr spi s g
    .ok (.mem a .rmw)

/-- Reads an operand of class rmw from its location. A pushed location is never read. -/
def readAt (w : Nat) (l : Loc) (s : State) : Except Stop (BitVec w × State) :=
  match l with
  | .reg r => .ok (readReg w s .int r)
  | .pair r => .ok (readReg w s .pair r)
  | .freg r => .ok (readReg w s .float r)
  | .mem a k => do
    let v ← s.read w a k
    .ok (v, s)
  | .push => .ok (0, s)

/-- `WrOp(k, v)` (R150). -/
def writeAt {w : Nat} (l : Loc) (v : BitVec w) (s : State) : Except Stop State :=
  match l with
  | .reg r => .ok (s.setRegLow r v)
  | .pair r => .ok (writePair s r v)
  | .freg r => .ok (s.setFreg r v)
  | .mem a k => s.write a v k
  | .push => s.push v

/-! ## Lengths -/

/-- How many bytes a general operand adds to an instruction: its index byte and its addressing
extension (R128). -/
def genLength (g : Gen) : Nat := g.indexBytes.length + g.extension.length

/-- The length of an instruction (R128): its basic instruction, its general operands and its implied
operands. -/
def lenOf (basic : Nat) (gs : List Gen) (ts : List Tail) : Nat :=
  basic + (gs.map genLength).sum + (ts.map fun t => t.bytes.length).sum

/-! ## Shapes of instructions

Each takes the length of the instruction, its operands and what it computes. `spi` is taken from the
state in which the instruction begins, operands are evaluated A before B and before the write
(R150). -/

/-- What an instruction computes for a destination: the value, the state with the flags (and drawn
free values) that go with it, and whether it overflows (R203). -/
structure Result (w : Nat) where
  /-- the value to write -/
  value : BitVec w
  /-- the state, with flags updated -/
  state : State
  /-- the overflow condition that R203 traps on -/
  ovf : Bool := false
  deriving DecidableEq, Repr

/-- Writes a result, completes the instruction, and traps on an overflow that PSR.V enables. -/
def deliver {w : Nat} (len : Nat) (l : Loc) (r : Result w) : Except Stop State := do
  let s ← writeAt l r.value r.state
  ovfTrap r.ovf (s.advance len)

/-- A source of class read. -/
def source (fa : File) (wa : Nat) (len : Nat) (a : Gen) (s : State)
    (op : BitVec wa → State → Except Stop State) : Except Stop State := do
  let (x, s) ← readGen fa wa s.sp a s
  let s ← op x s
  .ok (s.advance len)

/-- Two sources of class read (a comparison). -/
def sources (fa fb : File) (wa wb : Nat) (len : Nat) (a b : Gen) (s : State)
    (op : BitVec wa → BitVec wb → State → Except Stop State) : Except Stop State := do
  let spi := s.sp
  let (x, s) ← readGen fa wa spi a s
  let (y, s) ← readGen fb wb spi b s
  let s ← op x y s
  .ok (s.advance len)

/-- A destination of class write, whose value is computed from the state. -/
def store (fb : File) (wb : Nat) (len : Nat) (b : Gen) (s : State)
    (op : State → Result wb) : Except Stop State := do
  let l ← writeLoc fb s.sp b s
  deliver len l (op s)

/-- A source of class read and a destination of class write. -/
def unary (fa fb : File) (wa wb : Nat) (len : Nat) (a b : Gen) (s : State)
    (op : BitVec wa → State → Except Stop (Result wb)) : Except Stop State := do
  let spi := s.sp
  let (x, s) ← readGen fa wa spi a s
  let l ← writeLoc fb spi b s
  let r ← op x s
  deliver len l r

/-- A source of class addr and a destination of class write. -/
def fromAddr (wb : Nat) (len : Nat) (a b : Gen) (s : State)
    (op : Word → State → Result wb) : Except Stop State := do
  let ea ← genAddr s.sp s a
  let l ← writeLoc .int s.sp b s
  deliver len l (op ea s)

/-- A destination of class rmw. -/
def modify (fb : File) (wb : Nat) (len : Nat) (b : Gen) (s : State)
    (op : BitVec wb → State → Except Stop (Result wb)) : Except Stop State := do
  let l ← rmwLoc fb s.sp b s
  let (y, s) ← readAt wb l s
  let r ← op y s
  deliver len l r

/-- A source of class read and a destination of class rmw. -/
def binary (fa fb : File) (wa wb : Nat) (len : Nat) (a b : Gen) (s : State)
    (op : BitVec wa → BitVec wb → State → Except Stop (Result wb)) : Except Stop State := do
  let spi := s.sp
  let (x, s) ← readGen fa wa spi a s
  let l ← rmwLoc fb spi b s
  let (y, s) ← readAt wb l s
  let r ← op x y s
  deliver len l r

end Sys2Proof.Machine
end

