-- ==== Sys2Proof/Machine/BitField.lean ====
section
/-! DEFINITION. Bit and bit-field instructions (`spec/44_bit_and_field.md`, R320 to R340). -/

namespace Sys2Proof.Machine

/-- The base of a bit or a field: a whole general register, or a memory address (R135, R320). -/
inductive BitBase where
  /-- the register itself -/
  | reg (r : Reg)
  /-- an address -/
  | mem (a : Word)
  deriving DecidableEq, Repr

/-- The base that an operand of class regaddr names; Scaled Indexing makes its class addr (R135,
R136). -/
def bitBase (spi : Word) (s : State) (g : Gen) : Except Stop BitBase :=
  match g with
  | .plain (.reg r) => .ok (.reg r)
  | g => do
    let a ← genAddr spi s g
    .ok (.mem a)

/-- The address of the byte that holds a bit: EA(base) + (offset DIV 8) (R321). -/
def bitByte (ea : Word) (off : Int) : Word := ea + BitVec.ofInt 32 (off.fdiv 8)

/-- The number of a bit in its byte: offset MOD 8 (R321). -/
def bitIndex (off : Int) : Nat := (off.fmod 8).toNat

/-- A bit instruction: F receives the bit, and the bit becomes what `change` says of it, if it is
written at all. A bit outside a register leaves F, and the register if it would be written, free
values (R320, U15; log 33). The byte in memory is written even when it does not change (D19;
log 45). -/
def bitOp (w len : Nat) (a b : Gen) (s : State) (change : Option (Bool → Bool)) :
    Except Stop State := do
  let spi := s.sp
  let (x, s) ← readGen .int w spi a s
  let off := x.toInt
  let base ← bitBase spi s b
  match base with
  | .reg r =>
    if 0 ≤ off ∧ off < 32 then
      let old := (s.reg r).getLsbD off.toNat
      let s := match change with
        | none => s
        | some f => s.setReg r (putBit (s.reg r) off.toNat (f old))
      .ok ((s.setF old).advance len)
    else
      let (v, s) := s.draw 1
      let s := match change with
        | none => s
        | some _ =>
          let (u, s) := s.draw 32
          s.setReg r u
      .ok ((s.setF (v == 1)).advance len)
  | .mem ea =>
    let at_ := bitByte ea off
    match change with
    | none =>
      let v ← s.read 8 at_
      .ok ((s.setF (v.getLsbD (bitIndex off))).advance len)
    | some f =>
      let v ← s.read 8 at_ .rmw
      let old := v.getLsbD (bitIndex off)
      let s ← s.write at_ (putBit v (bitIndex off) (f old)) .rmw
      .ok ((s.setF old).advance len)

/-- TBITi (R322). -/
def tbitI (w len : Nat) (a b : Gen) (s : State) : Except Stop State := bitOp w len a b s none

/-- SBITi (R323). -/
def sbitI (w len : Nat) (a b : Gen) (s : State) : Except Stop State :=
  bitOp w len a b s (some fun _ => true)

/-- SBITIi: as SBITi; the Interlocked pin is not modelled (R324). -/
def sbitII (w len : Nat) (a b : Gen) (s : State) : Except Stop State :=
  bitOp w len a b s (some fun _ => true)

/-- CBITi (R325). -/
def cbitI (w len : Nat) (a b : Gen) (s : State) : Except Stop State :=
  bitOp w len a b s (some fun _ => false)

/-- CBITIi: as CBITi; the Interlocked pin is not modelled (R326). -/
def cbitII (w len : Nat) (a b : Gen) (s : State) : Except Stop State :=
  bitOp w len a b s (some fun _ => false)

/-- IBITi (R327). -/
def ibitI (w len : Nat) (a b : Gen) (s : State) : Except Stop State :=
  bitOp w len a b s (some fun b => !b)

/-- The least j from `o` on, within `n` bits more, whose bit is set. -/
def firstSet {w : Nat} (x : BitVec w) (o : Nat) : Nat → Option Nat
  | 0 => none
  | n + 1 => if x.getLsbD o then some o else firstSet x (o + 1) n

/-- FFSi: the offset operand becomes the number of the first set bit at or above it; if there is none
it becomes 0 and F is set. An offset that is not less than the length leaves both free values (R328,
U16; log 34). -/
def ffsI (w len : Nat) (a b : Gen) (s : State) : Except Stop State :=
  binary .int .int w 8 len a b s fun x y s =>
    if w ≤ y.toNat then
      let (v, s) := s.draw 8
      let (f, s) := s.draw 1
      .ok { value := v, state := s.setF (f == 1) }
    else
      match firstSet x y.toNat (w - y.toNat) with
      | some j => .ok { value := BitVec.ofNat 8 j, state := s.setF false }
      | none => .ok { value := 0, state := s.setF true }

/-- CVTP: the bit address 8 * EA(base) + offset (R329). -/
def cvtpI (len : Nat) (r : Reg) (a b : Gen) (s : State) : Except Stop State :=
  fromAddr 32 len a b s fun ea s => { value := 8 * ea + s.reg r, state := s }

/-- The mask of the low n bits of a double-word. -/
def lowMask (n : Nat) : Word := BitVec.ofNat 32 (2 ^ n - 1)

/-- The field of n bits at bit k of a double-word (R330, R335). -/
def extractField (d : Word) (k n : Nat) : Word := (d >>> k) &&& lowMask n

/-- A double-word with the field of n bits at bit k replaced (R330, R335). -/
def insertField (d : Word) (k n : Nat) (v : Word) : Word :=
  (d &&& ~~~(lowMask n <<< k)) ||| ((v &&& lowMask n) <<< k)

/-- Whether a field that starts at bit `k` of a double-word lies in it and has a length that the
manual defines (R330, R332, R335). -/
def fieldFits (k n : Int) : Bool :=
  decide (0 ≤ k) && decide (1 ≤ n) && decide (n ≤ 32) && decide (k + n ≤ 32)

/-- EXTi and EXTSi: the field is delivered right-justified, zero-filled or truncated. A field that
does not fit, or a length outside 1 to 32, gives a free value (R330 to R337, U17 to U19; log 35). A
double-word of memory is read whatever the length (R335). -/
def extField (w len : Nat) (off n : Int) (a b : Gen) (s : State) : Except Stop State := do
  let spi := s.sp
  let base ← bitBase spi s a
  let (v, k) ← match base with
    | .reg r => Except.ok (ε := Stop) (s.reg r, off)
    | .mem ea => do
      let d ← s.read 32 (bitByte ea off)
      Except.ok (d, off.fmod 8)
  let l ← writeLoc .int spi b s
  if fieldFits k n then
    deliver (w := w) len l
      { value := (extractField v k.toNat n.toNat).setWidth w, state := s }
  else
    let (v, s) := s.draw w
    deliver len l { value := v, state := s }

/-- INSi and INSSi: the low bits of the source, zero-filled, replace the field. A field that does not
fit, or a length outside 1 to 32, leaves the whole register or the four bytes free values (R330 to
R339, U17 to U19; log 35). A double-word of memory is read and rewritten whatever the length
(R335). -/
def insField (w len : Nat) (off n : Int) (a b : Gen) (s : State) : Except Stop State := do
  let spi := s.sp
  let (x, s) ← readGen .int w spi a s
  let base ← bitBase spi s b
  match base with
  | .reg r =>
    if fieldFits off n then
      .ok ((s.setReg r (insertField (s.reg r) off.toNat n.toNat (x.setWidth 32))).advance len)
    else
      let (v, s) := s.draw 32
      .ok ((s.setReg r v).advance len)
  | .mem ea =>
    let at_ := bitByte ea off
    let d ← s.read 32 at_ .rmw
    if fieldFits (off.fmod 8) n then
      let s ← s.write at_ (insertField d (bitIndex off) n.toNat (x.setWidth 32)) .rmw
      .ok (s.advance len)
    else
      let (v, s) := s.draw 32
      let s ← s.write at_ v .rmw
      .ok (s.advance len)

/-- EXTi: the offset is a whole register, read at the start, and the length a displacement (R336,
R340). -/
def extI (w len : Nat) (r : Reg) (a b : Gen) (d : Disp) (s : State) : Except Stop State :=
  extField w len (s.reg r).toInt (dispValue d).toInt a b s

/-- EXTSi: offset and length are packed in a byte (R337). -/
def extsI (w len : Nat) (a b : Gen) (im : Byte) (s : State) : Except Stop State :=
  extField w len (im.toNat / 32) (im.toNat % 32 + 1) a b s

/-- INSi (R338, R340). -/
def insI (w len : Nat) (r : Reg) (a b : Gen) (d : Disp) (s : State) : Except Stop State :=
  insField w len (s.reg r).toInt (dispValue d).toInt a b s

/-- INSSi (R339). -/
def inssI (w len : Nat) (a b : Gen) (im : Byte) (s : State) : Except Stop State :=
  insField w len (im.toNat / 32) (im.toNat % 32 + 1) a b s

/-! ## The meanings -/

/-- TBITB (R322). -/
def execTbitb (a : Gen) (b : Gen) (s : State) : Host.Outcome State Fault Refusal :=
  conclude s (tbitI 8 (lenOf 2 [a, b] []) a b s)

/-- TBITW (R322). -/
def execTbitw (a : Gen) (b : Gen) (s : State) : Host.Outcome State Fault Refusal :=
  conclude s (tbitI 16 (lenOf 2 [a, b] []) a b s)

/-- TBITD (R322). -/
def execTbitd (a : Gen) (b : Gen) (s : State) : Host.Outcome State Fault Refusal :=
  conclude s (tbitI 32 (lenOf 2 [a, b] []) a b s)

/-- CBITB (R325). -/
def execCbitb (a : Gen) (b : Gen) (s : State) : Host.Outcome State Fault Refusal :=
  conclude s (cbitI 8 (lenOf 3 [a, b] []) a b s)

/-- CBITW (R325). -/
def execCbitw (a : Gen) (b : Gen) (s : State) : Host.Outcome State Fault Refusal :=
  conclude s (cbitI 16 (lenOf 3 [a, b] []) a b s)

/-- CBITD (R325). -/
def execCbitd (a : Gen) (b : Gen) (s : State) : Host.Outcome State Fault Refusal :=
  conclude s (cbitI 32 (lenOf 3 [a, b] []) a b s)

/-- CBITIB (R326). -/
def execCbitib (a : Gen) (b : Gen) (s : State) : Host.Outcome State Fault Refusal :=
  conclude s (cbitII 8 (lenOf 3 [a, b] []) a b s)

/-- CBITIW (R326). -/
def execCbitiw (a : Gen) (b : Gen) (s : State) : Host.Outcome State Fault Refusal :=
  conclude s (cbitII 16 (lenOf 3 [a, b] []) a b s)

/-- CBITID (R326). -/
def execCbitid (a : Gen) (b : Gen) (s : State) : Host.Outcome State Fault Refusal :=
  conclude s (cbitII 32 (lenOf 3 [a, b] []) a b s)

/-- SBITB (R323). -/
def execSbitb (a : Gen) (b : Gen) (s : State) : Host.Outcome State Fault Refusal :=
  conclude s (sbitI 8 (lenOf 3 [a, b] []) a b s)

/-- SBITW (R323). -/
def execSbitw (a : Gen) (b : Gen) (s : State) : Host.Outcome State Fault Refusal :=
  conclude s (sbitI 16 (lenOf 3 [a, b] []) a b s)

/-- SBITD (R323). -/
def execSbitd (a : Gen) (b : Gen) (s : State) : Host.Outcome State Fault Refusal :=
  conclude s (sbitI 32 (lenOf 3 [a, b] []) a b s)

/-- SBITIB (R324). -/
def execSbitib (a : Gen) (b : Gen) (s : State) : Host.Outcome State Fault Refusal :=
  conclude s (sbitII 8 (lenOf 3 [a, b] []) a b s)

/-- SBITIW (R324). -/
def execSbitiw (a : Gen) (b : Gen) (s : State) : Host.Outcome State Fault Refusal :=
  conclude s (sbitII 16 (lenOf 3 [a, b] []) a b s)

/-- SBITID (R324). -/
def execSbitid (a : Gen) (b : Gen) (s : State) : Host.Outcome State Fault Refusal :=
  conclude s (sbitII 32 (lenOf 3 [a, b] []) a b s)

/-- IBITB (R327). -/
def execIbitb (a : Gen) (b : Gen) (s : State) : Host.Outcome State Fault Refusal :=
  conclude s (ibitI 8 (lenOf 3 [a, b] []) a b s)

/-- IBITW (R327). -/
def execIbitw (a : Gen) (b : Gen) (s : State) : Host.Outcome State Fault Refusal :=
  conclude s (ibitI 16 (lenOf 3 [a, b] []) a b s)

/-- IBITD (R327). -/
def execIbitd (a : Gen) (b : Gen) (s : State) : Host.Outcome State Fault Refusal :=
  conclude s (ibitI 32 (lenOf 3 [a, b] []) a b s)

/-- INSSB (R339). -/
def execInssb (a : Gen) (b : Gen) (im : BitVec 8) (s : State) : Host.Outcome State Fault Refusal :=
  conclude s (inssI 8 (lenOf 3 [a, b] [.imm im]) a b im s)

/-- INSSW (R339). -/
def execInssw (a : Gen) (b : Gen) (im : BitVec 8) (s : State) : Host.Outcome State Fault Refusal :=
  conclude s (inssI 16 (lenOf 3 [a, b] [.imm im]) a b im s)

/-- INSSD (R339). -/
def execInssd (a : Gen) (b : Gen) (im : BitVec 8) (s : State) : Host.Outcome State Fault Refusal :=
  conclude s (inssI 32 (lenOf 3 [a, b] [.imm im]) a b im s)

/-- EXTSB (R337). -/
def execExtsb (a : Gen) (b : Gen) (im : BitVec 8) (s : State) : Host.Outcome State Fault Refusal :=
  conclude s (extsI 8 (lenOf 3 [a, b] [.imm im]) a b im s)

/-- EXTSW (R337). -/
def execExtsw (a : Gen) (b : Gen) (im : BitVec 8) (s : State) : Host.Outcome State Fault Refusal :=
  conclude s (extsI 16 (lenOf 3 [a, b] [.imm im]) a b im s)

/-- EXTSD (R337). -/
def execExtsd (a : Gen) (b : Gen) (im : BitVec 8) (s : State) : Host.Outcome State Fault Refusal :=
  conclude s (extsI 32 (lenOf 3 [a, b] [.imm im]) a b im s)

/-- EXTB (R336). -/
def execExtb (r : Reg) (a : Gen) (b : Gen) (d : Disp) (s : State) : Host.Outcome State Fault Refusal :=
  conclude s (extI 8 (lenOf 3 [a, b] [.disp d]) r a b d s)

/-- EXTW (R336). -/
def execExtw (r : Reg) (a : Gen) (b : Gen) (d : Disp) (s : State) : Host.Outcome State Fault Refusal :=
  conclude s (extI 16 (lenOf 3 [a, b] [.disp d]) r a b d s)

/-- EXTD (R336). -/
def execExtd (r : Reg) (a : Gen) (b : Gen) (d : Disp) (s : State) : Host.Outcome State Fault Refusal :=
  conclude s (extI 32 (lenOf 3 [a, b] [.disp d]) r a b d s)

/-- CVTP (R329). -/
def execCvtp (r : Reg) (a : Gen) (b : Gen) (s : State) : Host.Outcome State Fault Refusal :=
  conclude s (cvtpI (lenOf 3 [a, b] []) r a b s)

/-- INSB (R338). -/
def execInsb (r : Reg) (a : Gen) (b : Gen) (d : Disp) (s : State) : Host.Outcome State Fault Refusal :=
  conclude s (insI 8 (lenOf 3 [a, b] [.disp d]) r a b d s)

/-- INSW (R338). -/
def execInsw (r : Reg) (a : Gen) (b : Gen) (d : Disp) (s : State) : Host.Outcome State Fault Refusal :=
  conclude s (insI 16 (lenOf 3 [a, b] [.disp d]) r a b d s)

/-- INSD (R338). -/
def execInsd (r : Reg) (a : Gen) (b : Gen) (d : Disp) (s : State) : Host.Outcome State Fault Refusal :=
  conclude s (insI 32 (lenOf 3 [a, b] [.disp d]) r a b d s)

/-- FFSB (R328). -/
def execFfsb (a : Gen) (b : Gen) (s : State) : Host.Outcome State Fault Refusal :=
  conclude s (ffsI 8 (lenOf 3 [a, b] []) a b s)

/-- FFSW (R328). -/
def execFfsw (a : Gen) (b : Gen) (s : State) : Host.Outcome State Fault Refusal :=
  conclude s (ffsI 16 (lenOf 3 [a, b] []) a b s)

/-- FFSD (R328). -/
def execFfsd (a : Gen) (b : Gen) (s : State) : Host.Outcome State Fault Refusal :=
  conclude s (ffsI 32 (lenOf 3 [a, b] []) a b s)

end Sys2Proof.Machine
end

