-- ==== Sys2Proof/Machine/Integer.lean ====
section
/-! DEFINITION. Integer instructions (`spec/40_integer.md`, R200 to R228). -/

namespace Sys2Proof.Machine

/-- The value of a `quick` operand, sign-extended to the operation length (R141). -/
def quickValue (w : Nat) (q : BitVec 4) : BitVec w := q.signExtend w

/-- The result of an addition or subtraction: C and F are set from it (R205 to R210). -/
def arithResult {w : Nat} (r : Arith w) (s : State) : Result w :=
  ⟨r.value, (s.setC r.carry).setF r.ovf, r.ovf⟩

/-- ADDi (R205). -/
def addI (w len : Nat) (a b : Gen) (s : State) : Except Stop State :=
  binary .int .int w w len a b s fun x y s => .ok (arithResult (addC y x false) s)

/-- ADDQi (R206). -/
def addQ (w len : Nat) (q : BitVec 4) (b : Gen) (s : State) : Except Stop State :=
  modify .int w len b s fun y s => .ok (arithResult (addC y (quickValue w q) false) s)

/-- ADDCi (R207). -/
def addCarry (w len : Nat) (a b : Gen) (s : State) : Except Stop State :=
  binary .int .int w w len a b s fun x y s => .ok (arithResult (addC y x s.flagC) s)

/-- SUBi (R208). -/
def subI (w len : Nat) (a b : Gen) (s : State) : Except Stop State :=
  binary .int .int w w len a b s fun x y s => .ok (arithResult (subB y x false) s)

/-- SUBCi (R209). -/
def subCarry (w len : Nat) (a b : Gen) (s : State) : Except Stop State :=
  binary .int .int w w len a b s fun x y s => .ok (arithResult (subB y x s.flagC) s)

/-- NEGi (R210). -/
def negI (w len : Nat) (a b : Gen) (s : State) : Except Stop State :=
  unary .int .int w w len a b s fun x s => .ok (arithResult (subB 0 x false) s)

/-- ABSi: C is not affected (R211). -/
def absI (w len : Nat) (a b : Gen) (s : State) : Except Stop State :=
  unary .int .int w w len a b s fun x s =>
    let ovf := x == minSigned w
    .ok ⟨if x.toInt < 0 then 0 - x else x, s.setF ovf, ovf⟩

/-- MULi: overflow is judged on the signed product (R212, D14; log 15). -/
def mulI (w len : Nat) (a b : Gen) (s : State) : Except Stop State :=
  binary .int .int w w len a b s fun x y s =>
    .ok ⟨x * y, s, !fitsSigned w (x.toInt * y.toInt)⟩

/-- Reads the low half of a destination of twice w bits: w/8 bytes of memory, or the low w bits of the
even register of a pair; an odd register named for a pair gives a free value (R152, R213, U8;
log 28). -/
def readLowHalf (w : Nat) (l : Loc) (s : State) : Except Stop (BitVec w × State) :=
  match l with
  | .pair r => .ok (if r.val % 2 = 0 then ((s.reg r).setWidth w, s) else s.draw w)
  | l => readAt w l s

/-- MEIi: only the low half of the destination is read, the whole is written (R213). -/
def meiI (w len : Nat) (a b : Gen) (s : State) : Except Stop State := do
  let spi := s.sp
  let (x, s) ← readGen .int w spi a s
  let l ← rmwLoc .pair spi b s
  let (y, s) ← readLowHalf w l s
  deliver len l { value := BitVec.ofNat (2 * w) (x.toNat * y.toNat), state := s }

/-- A signed division or remainder of the destination by the source; Trap(DVZ) if the source is zero,
after both operands are read (R202). -/
def signedDivision (w len : Nat) (a b : Gen) (s : State) (f : Int → Int → Int)
    (overflows : Bool) : Except Stop State :=
  binary .int .int w w len a b s fun x y s =>
    if x = 0 then .error (.trap .dvz)
    else
      .ok ⟨BitVec.ofInt w (f y.toInt x.toInt), s,
        overflows && (y == minSigned w) && decide (x.toInt = -1)⟩

/-- DIVi: the quotient is rounded toward minus infinity (R214). -/
def divI (w len : Nat) (a b : Gen) (s : State) : Except Stop State :=
  signedDivision w len a b s Int.fdiv true

/-- MODi: the remainder of DIVi; no overflow trap is listed (R215). -/
def modI (w len : Nat) (a b : Gen) (s : State) : Except Stop State :=
  signedDivision w len a b s Int.fmod false

/-- QUOi: the quotient is rounded toward zero (R216). -/
def quoI (w len : Nat) (a b : Gen) (s : State) : Except Stop State :=
  signedDivision w len a b s Int.tdiv true

/-- REMi: the remainder of QUOi; no overflow trap is listed (R217). -/
def remI (w len : Nat) (a b : Gen) (s : State) : Except Stop State :=
  signedDivision w len a b s Int.tmod false

/-- DEIi: quotient in the high half, remainder in the low half; both halves are free values when the
quotient does not fit (R218, U12; log 30). -/
def deiI (w len : Nat) (a b : Gen) (s : State) : Except Stop State :=
  binary .int .pair w (2 * w) len a b s fun x y s =>
    if x = 0 then .error (.trap .dvz)
    else
      let q := y.toNat / x.toNat
      if 2 ^ w ≤ q then
        let (v, s) := s.draw (2 * w)
        .ok ⟨v, s, true⟩
      else .ok { value := BitVec.ofNat (2 * w) (q * 2 ^ w + y.toNat % x.toNat), state := s }

/-- MOVi (R219). -/
def movI (w len : Nat) (a b : Gen) (s : State) : Except Stop State :=
  unary .int .int w w len a b s fun x s => .ok { value := x, state := s }

/-- MOVQi (R220). -/
def movQ (w len : Nat) (q : BitVec 4) (b : Gen) (s : State) : Except Stop State :=
  store .int w len b s fun s => { value := quickValue w q, state := s }

/-- MOVXii: sign-extension (R221 to R223). -/
def movX (wa wb len : Nat) (a b : Gen) (s : State) : Except Stop State :=
  unary .int .int wa wb len a b s fun x s => .ok { value := x.signExtend wb, state := s }

/-- MOVZii: zero-extension (R224 to R226). -/
def movZ (wa wb len : Nat) (a b : Gen) (s : State) : Except Stop State :=
  unary .int .int wa wb len a b s fun x s => .ok { value := x.setWidth wb, state := s }

/-- CMPi: Z, N and L compare the first operand with the second (R227). -/
def cmpI (w len : Nat) (a b : Gen) (s : State) : Except Stop State :=
  sources .int .int w w len a b s fun x y s => .ok (s.compareFlags x y)

/-- CMPQi (R228). -/
def cmpQ (w len : Nat) (q : BitVec 4) (b : Gen) (s : State) : Except Stop State :=
  source .int w len b s fun y s => .ok (s.compareFlags (quickValue w q) y)

/-! ## The meanings -/

/-- ADDQB (R206). -/
def execAddqb (q : BitVec 4) (g : Gen) (s : State) : Host.Outcome State Fault Refusal :=
  conclude s (addQ 8 (lenOf 2 [g] []) q g s)

/-- ADDQW (R206). -/
def execAddqw (q : BitVec 4) (g : Gen) (s : State) : Host.Outcome State Fault Refusal :=
  conclude s (addQ 16 (lenOf 2 [g] []) q g s)

/-- ADDQD (R206). -/
def execAddqd (q : BitVec 4) (g : Gen) (s : State) : Host.Outcome State Fault Refusal :=
  conclude s (addQ 32 (lenOf 2 [g] []) q g s)

/-- CMPQB (R228). -/
def execCmpqb (q : BitVec 4) (g : Gen) (s : State) : Host.Outcome State Fault Refusal :=
  conclude s (cmpQ 8 (lenOf 2 [g] []) q g s)

/-- CMPQW (R228). -/
def execCmpqw (q : BitVec 4) (g : Gen) (s : State) : Host.Outcome State Fault Refusal :=
  conclude s (cmpQ 16 (lenOf 2 [g] []) q g s)

/-- CMPQD (R228). -/
def execCmpqd (q : BitVec 4) (g : Gen) (s : State) : Host.Outcome State Fault Refusal :=
  conclude s (cmpQ 32 (lenOf 2 [g] []) q g s)

/-- MOVQB (R220). -/
def execMovqb (q : BitVec 4) (g : Gen) (s : State) : Host.Outcome State Fault Refusal :=
  conclude s (movQ 8 (lenOf 2 [g] []) q g s)

/-- MOVQW (R220). -/
def execMovqw (q : BitVec 4) (g : Gen) (s : State) : Host.Outcome State Fault Refusal :=
  conclude s (movQ 16 (lenOf 2 [g] []) q g s)

/-- MOVQD (R220). -/
def execMovqd (q : BitVec 4) (g : Gen) (s : State) : Host.Outcome State Fault Refusal :=
  conclude s (movQ 32 (lenOf 2 [g] []) q g s)

/-- ADDB (R205). -/
def execAddb (a : Gen) (b : Gen) (s : State) : Host.Outcome State Fault Refusal :=
  conclude s (addI 8 (lenOf 2 [a, b] []) a b s)

/-- ADDW (R205). -/
def execAddw (a : Gen) (b : Gen) (s : State) : Host.Outcome State Fault Refusal :=
  conclude s (addI 16 (lenOf 2 [a, b] []) a b s)

/-- ADDD (R205). -/
def execAddd (a : Gen) (b : Gen) (s : State) : Host.Outcome State Fault Refusal :=
  conclude s (addI 32 (lenOf 2 [a, b] []) a b s)

/-- CMPB (R227). -/
def execCmpb (a : Gen) (b : Gen) (s : State) : Host.Outcome State Fault Refusal :=
  conclude s (cmpI 8 (lenOf 2 [a, b] []) a b s)

/-- CMPW (R227). -/
def execCmpw (a : Gen) (b : Gen) (s : State) : Host.Outcome State Fault Refusal :=
  conclude s (cmpI 16 (lenOf 2 [a, b] []) a b s)

/-- CMPD (R227). -/
def execCmpd (a : Gen) (b : Gen) (s : State) : Host.Outcome State Fault Refusal :=
  conclude s (cmpI 32 (lenOf 2 [a, b] []) a b s)

/-- ADDCB (R207). -/
def execAddcb (a : Gen) (b : Gen) (s : State) : Host.Outcome State Fault Refusal :=
  conclude s (addCarry 8 (lenOf 2 [a, b] []) a b s)

/-- ADDCW (R207). -/
def execAddcw (a : Gen) (b : Gen) (s : State) : Host.Outcome State Fault Refusal :=
  conclude s (addCarry 16 (lenOf 2 [a, b] []) a b s)

/-- ADDCD (R207). -/
def execAddcd (a : Gen) (b : Gen) (s : State) : Host.Outcome State Fault Refusal :=
  conclude s (addCarry 32 (lenOf 2 [a, b] []) a b s)

/-- MOVB (R219). -/
def execMovb (a : Gen) (b : Gen) (s : State) : Host.Outcome State Fault Refusal :=
  conclude s (movI 8 (lenOf 2 [a, b] []) a b s)

/-- MOVW (R219). -/
def execMovw (a : Gen) (b : Gen) (s : State) : Host.Outcome State Fault Refusal :=
  conclude s (movI 16 (lenOf 2 [a, b] []) a b s)

/-- MOVD (R219). -/
def execMovd (a : Gen) (b : Gen) (s : State) : Host.Outcome State Fault Refusal :=
  conclude s (movI 32 (lenOf 2 [a, b] []) a b s)

/-- SUBB (R208). -/
def execSubb (a : Gen) (b : Gen) (s : State) : Host.Outcome State Fault Refusal :=
  conclude s (subI 8 (lenOf 2 [a, b] []) a b s)

/-- SUBW (R208). -/
def execSubw (a : Gen) (b : Gen) (s : State) : Host.Outcome State Fault Refusal :=
  conclude s (subI 16 (lenOf 2 [a, b] []) a b s)

/-- SUBD (R208). -/
def execSubd (a : Gen) (b : Gen) (s : State) : Host.Outcome State Fault Refusal :=
  conclude s (subI 32 (lenOf 2 [a, b] []) a b s)

/-- SUBCB (R209). -/
def execSubcb (a : Gen) (b : Gen) (s : State) : Host.Outcome State Fault Refusal :=
  conclude s (subCarry 8 (lenOf 2 [a, b] []) a b s)

/-- SUBCW (R209). -/
def execSubcw (a : Gen) (b : Gen) (s : State) : Host.Outcome State Fault Refusal :=
  conclude s (subCarry 16 (lenOf 2 [a, b] []) a b s)

/-- SUBCD (R209). -/
def execSubcd (a : Gen) (b : Gen) (s : State) : Host.Outcome State Fault Refusal :=
  conclude s (subCarry 32 (lenOf 2 [a, b] []) a b s)

/-- NEGB (R210). -/
def execNegb (a : Gen) (b : Gen) (s : State) : Host.Outcome State Fault Refusal :=
  conclude s (negI 8 (lenOf 3 [a, b] []) a b s)

/-- NEGW (R210). -/
def execNegw (a : Gen) (b : Gen) (s : State) : Host.Outcome State Fault Refusal :=
  conclude s (negI 16 (lenOf 3 [a, b] []) a b s)

/-- NEGD (R210). -/
def execNegd (a : Gen) (b : Gen) (s : State) : Host.Outcome State Fault Refusal :=
  conclude s (negI 32 (lenOf 3 [a, b] []) a b s)

/-- ABSB (R211). -/
def execAbsb (a : Gen) (b : Gen) (s : State) : Host.Outcome State Fault Refusal :=
  conclude s (absI 8 (lenOf 3 [a, b] []) a b s)

/-- ABSW (R211). -/
def execAbsw (a : Gen) (b : Gen) (s : State) : Host.Outcome State Fault Refusal :=
  conclude s (absI 16 (lenOf 3 [a, b] []) a b s)

/-- ABSD (R211). -/
def execAbsd (a : Gen) (b : Gen) (s : State) : Host.Outcome State Fault Refusal :=
  conclude s (absI 32 (lenOf 3 [a, b] []) a b s)

/-- MOVXBW (R221). -/
def execMovxbw (a : Gen) (b : Gen) (s : State) : Host.Outcome State Fault Refusal :=
  conclude s (movX 8 16 (lenOf 3 [a, b] []) a b s)

/-- MOVZBW (R224). -/
def execMovzbw (a : Gen) (b : Gen) (s : State) : Host.Outcome State Fault Refusal :=
  conclude s (movZ 8 16 (lenOf 3 [a, b] []) a b s)

/-- MOVZBD (R225). -/
def execMovzbd (a : Gen) (b : Gen) (s : State) : Host.Outcome State Fault Refusal :=
  conclude s (movZ 8 32 (lenOf 3 [a, b] []) a b s)

/-- MOVZWD (R226). -/
def execMovzwd (a : Gen) (b : Gen) (s : State) : Host.Outcome State Fault Refusal :=
  conclude s (movZ 16 32 (lenOf 3 [a, b] []) a b s)

/-- MOVXBD (R222). -/
def execMovxbd (a : Gen) (b : Gen) (s : State) : Host.Outcome State Fault Refusal :=
  conclude s (movX 8 32 (lenOf 3 [a, b] []) a b s)

/-- MOVXWD (R223). -/
def execMovxwd (a : Gen) (b : Gen) (s : State) : Host.Outcome State Fault Refusal :=
  conclude s (movX 16 32 (lenOf 3 [a, b] []) a b s)

/-- MULB (R212). -/
def execMulb (a : Gen) (b : Gen) (s : State) : Host.Outcome State Fault Refusal :=
  conclude s (mulI 8 (lenOf 3 [a, b] []) a b s)

/-- MULW (R212). -/
def execMulw (a : Gen) (b : Gen) (s : State) : Host.Outcome State Fault Refusal :=
  conclude s (mulI 16 (lenOf 3 [a, b] []) a b s)

/-- MULD (R212). -/
def execMuld (a : Gen) (b : Gen) (s : State) : Host.Outcome State Fault Refusal :=
  conclude s (mulI 32 (lenOf 3 [a, b] []) a b s)

/-- MEIB (R213). -/
def execMeib (a : Gen) (b : Gen) (s : State) : Host.Outcome State Fault Refusal :=
  conclude s (meiI 8 (lenOf 3 [a, b] []) a b s)

/-- MEIW (R213). -/
def execMeiw (a : Gen) (b : Gen) (s : State) : Host.Outcome State Fault Refusal :=
  conclude s (meiI 16 (lenOf 3 [a, b] []) a b s)

/-- MEID (R213). -/
def execMeid (a : Gen) (b : Gen) (s : State) : Host.Outcome State Fault Refusal :=
  conclude s (meiI 32 (lenOf 3 [a, b] []) a b s)

/-- DEIB (R218). -/
def execDeib (a : Gen) (b : Gen) (s : State) : Host.Outcome State Fault Refusal :=
  conclude s (deiI 8 (lenOf 3 [a, b] []) a b s)

/-- DEIW (R218). -/
def execDeiw (a : Gen) (b : Gen) (s : State) : Host.Outcome State Fault Refusal :=
  conclude s (deiI 16 (lenOf 3 [a, b] []) a b s)

/-- DEID (R218). -/
def execDeid (a : Gen) (b : Gen) (s : State) : Host.Outcome State Fault Refusal :=
  conclude s (deiI 32 (lenOf 3 [a, b] []) a b s)

/-- QUOB (R216). -/
def execQuob (a : Gen) (b : Gen) (s : State) : Host.Outcome State Fault Refusal :=
  conclude s (quoI 8 (lenOf 3 [a, b] []) a b s)

/-- QUOW (R216). -/
def execQuow (a : Gen) (b : Gen) (s : State) : Host.Outcome State Fault Refusal :=
  conclude s (quoI 16 (lenOf 3 [a, b] []) a b s)

/-- QUOD (R216). -/
def execQuod (a : Gen) (b : Gen) (s : State) : Host.Outcome State Fault Refusal :=
  conclude s (quoI 32 (lenOf 3 [a, b] []) a b s)

/-- REMB (R217). -/
def execRemb (a : Gen) (b : Gen) (s : State) : Host.Outcome State Fault Refusal :=
  conclude s (remI 8 (lenOf 3 [a, b] []) a b s)

/-- REMW (R217). -/
def execRemw (a : Gen) (b : Gen) (s : State) : Host.Outcome State Fault Refusal :=
  conclude s (remI 16 (lenOf 3 [a, b] []) a b s)

/-- REMD (R217). -/
def execRemd (a : Gen) (b : Gen) (s : State) : Host.Outcome State Fault Refusal :=
  conclude s (remI 32 (lenOf 3 [a, b] []) a b s)

/-- MODB (R215). -/
def execModb (a : Gen) (b : Gen) (s : State) : Host.Outcome State Fault Refusal :=
  conclude s (modI 8 (lenOf 3 [a, b] []) a b s)

/-- MODW (R215). -/
def execModw (a : Gen) (b : Gen) (s : State) : Host.Outcome State Fault Refusal :=
  conclude s (modI 16 (lenOf 3 [a, b] []) a b s)

/-- MODD (R215). -/
def execModd (a : Gen) (b : Gen) (s : State) : Host.Outcome State Fault Refusal :=
  conclude s (modI 32 (lenOf 3 [a, b] []) a b s)

/-- DIVB (R214). -/
def execDivb (a : Gen) (b : Gen) (s : State) : Host.Outcome State Fault Refusal :=
  conclude s (divI 8 (lenOf 3 [a, b] []) a b s)

/-- DIVW (R214). -/
def execDivw (a : Gen) (b : Gen) (s : State) : Host.Outcome State Fault Refusal :=
  conclude s (divI 16 (lenOf 3 [a, b] []) a b s)

/-- DIVD (R214). -/
def execDivd (a : Gen) (b : Gen) (s : State) : Host.Outcome State Fault Refusal :=
  conclude s (divI 32 (lenOf 3 [a, b] []) a b s)

end Sys2Proof.Machine
end

