-- ==== Sys2Proof/Machine/Control.lean ====
section
/-! DEFINITION. Processor control instructions (`spec/46_processor_control.md`, R380 to R401). -/

namespace Sys2Proof.Machine

/-- Bcond (R382). -/
def branchIf (c : Cond) (len : Nat) (d : Disp) (s : State) : Except Stop State :=
  .ok (if s.condTrue c then s.jump (s.pc + dispValue d) else s.advance len)

/-- BR (R383). -/
def branch (d : Disp) (s : State) : Except Stop State := .ok (s.jump (s.pc + dispValue d))

/-- JUMP (R384). -/
def jumpTo (g : Gen) (s : State) : Except Stop State := do
  let t ← genAddr s.sp s g
  .ok (s.jump t)

/-- CASEi (R385). -/
def caseI (w : Nat) (g : Gen) (s : State) : Except Stop State := do
  let (x, s) ← readGen .int w s.sp g s
  .ok (s.jump (s.pc + x.signExtend 32))

/-- ACBi: no flag changes, and Trap(OVF) returns to the address just computed (R386). -/
def acbI (w len : Nat) (q : BitVec 4) (g : Gen) (d : Disp) (s : State) : Except Stop State := do
  let l ← rmwLoc .int s.sp g s
  let (y, s) ← readAt w l s
  let r := addC y (quickValue w q) false
  let s ← writeAt l r.value s
  ovfTrap r.ovf (if r.value = 0 then s.advance len else s.jump (s.pc + dispValue d))

/-- BSR (R387). -/
def bsr (len : Nat) (d : Disp) (s : State) : Except Stop State := do
  let t ← s.push (s.pc + BitVec.ofNat 32 len)
  .ok (t.jump (s.pc + dispValue d))

/-- JSR: the address is computed before the push (R388). -/
def jsr (len : Nat) (g : Gen) (s : State) : Except Stop State := do
  let t ← genAddr s.sp s g
  let s ← s.push (s.pc + BitVec.ofNat 32 len)
  .ok (s.jump t)

/-- RET (R389). -/
def ret (d : Disp) (s : State) : Except Stop State := do
  let t ← s.read 32 s.sp
  .ok ((s.setSp (s.sp + 4 + dispValue d)).jump t)

/-- `CallExternal(D)`: the new module's Static and Program Base are read; MOD, with two bytes above it
that are free values, and the return address are pushed; MOD, SB and PC are loaded (R390, U28;
log 41). -/
def callExternal (len : Nat) (d : Word) (s : State) : Except Stop State := do
  let m := d.extractLsb' 0 16
  let sb ← s.read 32 (m.setWidth 32)
  let pb ← s.read 32 (m.setWidth 32 + 8)
  let next := s.pc + BitVec.ofNat 32 len
  let (hi, s) := s.draw 16
  let s ← s.push (hi ++ s.mod)
  let s ← s.push next
  .ok ({ s with mod := m, sb := sb }.jump ((d.extractLsb' 16 16).setWidth 32 + pb))

/-- CXP (R391). -/
def cxp (len : Nat) (d : Disp) (s : State) : Except Stop State := do
  let lb ← s.read 32 (s.mod.setWidth 32 + 4)
  let desc ← s.read 32 (lb + 4 * dispValue d)
  callExternal len desc s

/-- CXPD (R392). -/
def cxpd (len : Nat) (g : Gen) (s : State) : Except Stop State := do
  let a ← genAddr s.sp s g
  let desc ← s.read 32 a
  callExternal len desc s

/-- RXP (R393). -/
def rxp (d : Disp) (s : State) : Except Stop State := do
  let t ← s.read 32 s.sp
  let m ← s.read 16 (s.sp + 4)
  let sb ← s.read 32 (m.setWidth 32)
  .ok ({ s.setSp (s.sp + 8 + dispValue d) with mod := m, sb := sb }.jump t)

/-- FLAG (R397). -/
def flagTrap (s : State) : Except Stop State :=
  if s.flagF then .error (.trap .flg) else .ok (s.advance 1)

/-- RETT (R398). -/
def rett (d : Disp) (s : State) : Except Stop State := do
  privileged s
  returnFromException s (dispValue d)

/-- The state in which RETI restores the interrupted program: one `EndOfInterrupt` event has been
emitted to the host, which a later abort of the instruction does not take back (R400, R401, D21;
log 22). -/
def endOfInterrupt (s : State) : State := { s with eoiEvents := s.eoiEvents + 1 }

/-- RETI (R400). -/
def reti (s : State) : Host.Outcome State Fault Refusal :=
  match privileged s with
  | .error e => conclude s (.error e)
  | .ok _ => conclude (endOfInterrupt s) (returnFromException (endOfInterrupt s) 0)

/-! ## The meanings -/

/-- BEQ (R382). -/
def execBeq (d : Disp) (s : State) : Host.Outcome State Fault Refusal :=
  conclude s (branchIf .eq (lenOf 1 [] [.disp d]) d s)

/-- BNE (R382). -/
def execBne (d : Disp) (s : State) : Host.Outcome State Fault Refusal :=
  conclude s (branchIf .ne (lenOf 1 [] [.disp d]) d s)

/-- BCS (R382). -/
def execBcs (d : Disp) (s : State) : Host.Outcome State Fault Refusal :=
  conclude s (branchIf .cs (lenOf 1 [] [.disp d]) d s)

/-- BCC (R382). -/
def execBcc (d : Disp) (s : State) : Host.Outcome State Fault Refusal :=
  conclude s (branchIf .cc (lenOf 1 [] [.disp d]) d s)

/-- BHI (R382). -/
def execBhi (d : Disp) (s : State) : Host.Outcome State Fault Refusal :=
  conclude s (branchIf .hi (lenOf 1 [] [.disp d]) d s)

/-- BLS (R382). -/
def execBls (d : Disp) (s : State) : Host.Outcome State Fault Refusal :=
  conclude s (branchIf .ls (lenOf 1 [] [.disp d]) d s)

/-- BGT (R382). -/
def execBgt (d : Disp) (s : State) : Host.Outcome State Fault Refusal :=
  conclude s (branchIf .gt (lenOf 1 [] [.disp d]) d s)

/-- BLE (R382). -/
def execBle (d : Disp) (s : State) : Host.Outcome State Fault Refusal :=
  conclude s (branchIf .le (lenOf 1 [] [.disp d]) d s)

/-- BFS (R382). -/
def execBfs (d : Disp) (s : State) : Host.Outcome State Fault Refusal :=
  conclude s (branchIf .fs (lenOf 1 [] [.disp d]) d s)

/-- BFC (R382). -/
def execBfc (d : Disp) (s : State) : Host.Outcome State Fault Refusal :=
  conclude s (branchIf .fc (lenOf 1 [] [.disp d]) d s)

/-- BLO (R382). -/
def execBlo (d : Disp) (s : State) : Host.Outcome State Fault Refusal :=
  conclude s (branchIf .lo (lenOf 1 [] [.disp d]) d s)

/-- BHS (R382). -/
def execBhs (d : Disp) (s : State) : Host.Outcome State Fault Refusal :=
  conclude s (branchIf .hs (lenOf 1 [] [.disp d]) d s)

/-- BLT (R382). -/
def execBlt (d : Disp) (s : State) : Host.Outcome State Fault Refusal :=
  conclude s (branchIf .lt (lenOf 1 [] [.disp d]) d s)

/-- BGE (R382). -/
def execBge (d : Disp) (s : State) : Host.Outcome State Fault Refusal :=
  conclude s (branchIf .ge (lenOf 1 [] [.disp d]) d s)

/-- BR (R383). -/
def execBr (d : Disp) (s : State) : Host.Outcome State Fault Refusal :=
  conclude s (branch d s)

/-- BSR (R387). -/
def execBsr (d : Disp) (s : State) : Host.Outcome State Fault Refusal :=
  conclude s (bsr (lenOf 1 [] [.disp d]) d s)

/-- RET (R389). -/
def execRet (d : Disp) (s : State) : Host.Outcome State Fault Refusal :=
  conclude s (ret d s)

/-- CXP (R391). -/
def execCxp (d : Disp) (s : State) : Host.Outcome State Fault Refusal :=
  conclude s (cxp (lenOf 1 [] [.disp d]) d s)

/-- RXP (R393). -/
def execRxp (d : Disp) (s : State) : Host.Outcome State Fault Refusal :=
  conclude s (rxp d s)

/-- RETT (R398). -/
def execRett (d : Disp) (s : State) : Host.Outcome State Fault Refusal :=
  conclude s (rett d s)

/-- RETI (R400). -/
def execReti (s : State) : Host.Outcome State Fault Refusal :=
  reti s

/-- FLAG (R397). -/
def execFlag (s : State) : Host.Outcome State Fault Refusal :=
  conclude s (flagTrap s)

/-- SVC (R399). -/
def execSvc (s : State) : Host.Outcome State Fault Refusal :=
  conclude s (.error (.trap .svc))

/-- BPT (R396). -/
def execBpt (s : State) : Host.Outcome State Fault Refusal :=
  conclude s (.error (.trap .bpt))

/-- ACBB (R386). -/
def execAcbb (q : BitVec 4) (g : Gen) (d : Disp) (s : State) : Host.Outcome State Fault Refusal :=
  conclude s (acbI 8 (lenOf 2 [g] [.disp d]) q g d s)

/-- ACBW (R386). -/
def execAcbw (q : BitVec 4) (g : Gen) (d : Disp) (s : State) : Host.Outcome State Fault Refusal :=
  conclude s (acbI 16 (lenOf 2 [g] [.disp d]) q g d s)

/-- ACBD (R386). -/
def execAcbd (q : BitVec 4) (g : Gen) (d : Disp) (s : State) : Host.Outcome State Fault Refusal :=
  conclude s (acbI 32 (lenOf 2 [g] [.disp d]) q g d s)

/-- CXPD (R392). -/
def execCxpd (g : Gen) (s : State) : Host.Outcome State Fault Refusal :=
  conclude s (cxpd (lenOf 2 [g] []) g s)

/-- JUMP (R384). -/
def execJump (g : Gen) (s : State) : Host.Outcome State Fault Refusal :=
  conclude s (jumpTo g s)

/-- JSR (R388). -/
def execJsr (g : Gen) (s : State) : Host.Outcome State Fault Refusal :=
  conclude s (jsr (lenOf 2 [g] []) g s)

/-- CASEB (R385). -/
def execCaseb (g : Gen) (s : State) : Host.Outcome State Fault Refusal :=
  conclude s (caseI 8 g s)

/-- CASEW (R385). -/
def execCasew (g : Gen) (s : State) : Host.Outcome State Fault Refusal :=
  conclude s (caseI 16 g s)

/-- CASED (R385). -/
def execCased (g : Gen) (s : State) : Host.Outcome State Fault Refusal :=
  conclude s (caseI 32 g s)

end Sys2Proof.Machine
end

