-- ==== Sys2Proof/Machine/Custom.lean ====
section
/-! DEFINITION. Custom Slave instructions (`spec/49_custom_slave.md`, R470 to R474). -/

namespace Sys2Proof.Machine

/-- A custom instruction: Trap(UND) with CFG.C = 0; with CFG.C = 1 the Custom Slave executes it, which
the spec does not describe (R471, R472, D23; log 21). -/
def customOp (s : State) : Except Stop State :=
  if s.cfgC then .error .custom else .error (.trap .und)

/-- A custom instruction that corresponds to a Memory Management instruction is privileged (R473,
D22; log 20). -/
def customPrivileged (s : State) : Except Stop State := do
  privileged s
  customOp s

/-! ## The meanings -/

/-- custom_slave_instruction__first_byte_0x16 (R470). -/
def execCustom16 (s : State) : Host.Outcome State Fault Refusal :=
  conclude s (customPrivileged s)

/-- custom_slave_instruction__first_byte_0x36 (R470). -/
def execCustom36 (s : State) : Host.Outcome State Fault Refusal :=
  conclude s (customOp s)

/-- custom_slave_instruction__first_byte_0xB6 (R470). -/
def execCustomB6 (s : State) : Host.Outcome State Fault Refusal :=
  conclude s (customOp s)

end Sys2Proof.Machine
end

