-- ==== Sys2Proof/Machine/Decimal.lean ====
section
/-! DEFINITION. Packed decimal instructions (`spec/41_packed_decimal.md`, R240 to R244). -/

namespace Sys2Proof.Machine

/-- Whether the k low digits of a number are legal BCD digits (R241). -/
def bcdLegal : Nat → Nat → Bool
  | 0, _ => true
  | k + 1, n => decide (n % 16 < 10) && bcdLegal k (n / 16)

/-- `dec(x)`: the value of the k low digits (R240). -/
def bcdValue : Nat → Nat → Nat
  | 0, _ => 0
  | k + 1, n => n % 16 + 10 * bcdValue k (n / 16)

/-- `bcd_k(n)`: the k-digit packing of n modulo 10^k (R240). -/
def bcdPack : Nat → Nat → Nat
  | 0, _ => 0
  | k + 1, n => n % 10 + 16 * bcdPack k (n / 10)

/-- A packed decimal operation on legal digits, given the operands' values and C; an illegal digit
leaves the result and C free values. F is cleared either way (R241, U10; log 29). -/
def packed (w len : Nat) (a b : Gen) (s : State) (f : Nat → Nat → Nat → Nat × Bool) :
    Except Stop State :=
  binary .int .int w w len a b s fun x y s =>
    let k := w / 4
    if bcdLegal k x.toNat && bcdLegal k y.toNat then
      let r := f (bcdValue k x.toNat) (bcdValue k y.toNat) s.flagC.toNat
      .ok { value := BitVec.ofNat w (bcdPack k r.1), state := (s.setC r.2).setF false }
    else
      let (v, s) := s.draw w
      let (c, s) := s.draw 1
      .ok { value := v, state := (s.setC (c == 1)).setF false }

/-- ADDPi (R242, R243). -/
def addP (w len : Nat) (a b : Gen) (s : State) : Except Stop State :=
  packed w len a b s fun x y c => (x + y + c, decide (10 ^ (w / 4) ≤ x + y + c))

/-- SUBPi: a borrow assumes a high-order digit 1 to the left (R242, R244). -/
def subP (w len : Nat) (a b : Gen) (s : State) : Except Stop State :=
  packed w len a b s fun x y c => (y + 10 ^ (w / 4) - x - c, decide (y < x + c))

/-! ## The meanings -/

/-- SUBPB (R244). -/
def execSubpb (a : Gen) (b : Gen) (s : State) : Host.Outcome State Fault Refusal :=
  conclude s (subP 8 (lenOf 3 [a, b] []) a b s)

/-- SUBPW (R244). -/
def execSubpw (a : Gen) (b : Gen) (s : State) : Host.Outcome State Fault Refusal :=
  conclude s (subP 16 (lenOf 3 [a, b] []) a b s)

/-- SUBPD (R244). -/
def execSubpd (a : Gen) (b : Gen) (s : State) : Host.Outcome State Fault Refusal :=
  conclude s (subP 32 (lenOf 3 [a, b] []) a b s)

/-- ADDPB (R243). -/
def execAddpb (a : Gen) (b : Gen) (s : State) : Host.Outcome State Fault Refusal :=
  conclude s (addP 8 (lenOf 3 [a, b] []) a b s)

/-- ADDPW (R243). -/
def execAddpw (a : Gen) (b : Gen) (s : State) : Host.Outcome State Fault Refusal :=
  conclude s (addP 16 (lenOf 3 [a, b] []) a b s)

/-- ADDPD (R243). -/
def execAddpd (a : Gen) (b : Gen) (s : State) : Host.Outcome State Fault Refusal :=
  conclude s (addP 32 (lenOf 3 [a, b] []) a b s)

end Sys2Proof.Machine
end

