-- ==== Sys2Proof/Machine/FloatArith.lean ====
section
/-! DEFINITION. Floating-point numbers: formats, exact values, rounding and the conditions of
`spec/42_floating_point.md` (R250 to R257). -/

namespace Sys2Proof.Machine

/-! ## Formats and values -/

/-- The width of the F field of a w-bit format: 23 or 52 (R250). -/
def fracBits (w : Nat) : Nat := if w = 32 then 23 else 52

/-- The width of the E field: 8 or 11 (R250). -/
def expBits (w : Nat) : Nat := if w = 32 then 8 else 11

/-- The bias: 127 or 1023 (R250). -/
def fpBias (w : Nat) : Nat := if w = 32 then 127 else 1023

/-- The S bit (R250). -/
def fpSign {w : Nat} (x : BitVec w) : Bool := x.getLsbD (w - 1)

/-- The E field (R250). -/
def fpExp {w : Nat} (x : BitVec w) : Nat := x.toNat / 2 ^ fracBits w % 2 ^ expBits w

/-- The F field (R250). -/
def fpFrac {w : Nat} (x : BitVec w) : Nat := x.toNat % 2 ^ fracBits w

/-- A reserved operand: an infinity, a NaN or a denormalized number (R253). -/
def fpReserved {w : Nat} (x : BitVec w) : Bool :=
  fpExp x == 2 ^ expBits w - 1 || (fpExp x == 0 && fpFrac x != 0)

/-- A zero of either sign (R252). -/
def fpIsZero {w : Nat} (x : BitVec w) : Bool := fpExp x == 0 && fpFrac x == 0

/-- An exact value: (-1)^neg * mant * 2^exp. -/
structure Exact where
  /-- negative -/
  neg : Bool
  /-- the magnitude's integer factor -/
  mant : Nat
  /-- the power of two -/
  exp : Int
  deriving DecidableEq, Repr

/-- The value of a zero or a normalized number (R251, R252). -/
def fpValue {w : Nat} (x : BitVec w) : Exact :=
  if fpIsZero x then ⟨fpSign x, 0, 0⟩
  else ⟨fpSign x, 2 ^ fracBits w + fpFrac x, (fpExp x : Int) - fpBias w - fracBits w⟩

/-- The zero of a sign (R252). -/
def fpZero (w : Nat) (neg : Bool) : BitVec w :=
  if neg then BitVec.ofNat w (2 ^ (w - 1)) else 0

/-! ## Exact arithmetic -/

/-- The exponent of the leading bit of a non-zero value. -/
def Exact.top (x : Exact) : Int := x.exp + (x.mant.log2 : Nat)

/-- The signed integer that a value is at an exponent not above its own. -/
def Exact.at (x : Exact) (e : Int) : Int :=
  let m : Int := (x.mant <<< (x.exp - e).toNat : Nat)
  if x.neg then -m else m

/-- An exact value from a signed integer and a power of two. -/
def exactOf (n e : Int) : Exact := ⟨decide (n < 0), n.natAbs, e⟩

/-- The exact sum; the sign of a zero sum is not significant. -/
def Exact.add (x y : Exact) : Exact :=
  let e := min x.exp y.exp
  exactOf (x.at e + y.at e) e

/-- The exact product. -/
def Exact.mul (x y : Exact) : Exact := ⟨x.neg ^^ y.neg, x.mant * y.mant, x.exp + y.exp⟩

/-- The quotient of non-zero values to at least p + 2 significant bits, the last of which is set if
anything is left over: it rounds to p bits, and compares with a power of two, as the exact quotient
does. -/
def Exact.div (p : Nat) (x y : Exact) : Exact :=
  let k := p + 3 + y.mant.log2
  let q := (x.mant <<< k) / y.mant
  let sticky := if (x.mant <<< k) % y.mant = 0 then 0 else 1
  ⟨x.neg ^^ y.neg, 2 * q + sticky, x.exp - y.exp - k - 1⟩

/-- Whether a value is less than another. -/
def Exact.lt (x y : Exact) : Bool :=
  let e := min x.exp y.exp
  decide (x.at e < y.at e)

/-- Whether two values are equal. -/
def Exact.eq (x y : Exact) : Bool :=
  let e := min x.exp y.exp
  decide (x.at e = y.at e)

/-! ## Rounding -/

/-- Whether a discarded part rounds the magnitude up, in a rounding mode (R61): `odd` is the last kept
bit, `cmp` compares the discarded part with half of a unit, `inexact` says it is not zero. -/
def roundsUp (rm : BitVec 2) (neg odd : Bool) (cmp : Ordering) (inexact : Bool) : Bool :=
  if rm = 0 then
    match cmp with
    | .gt => true
    | .eq => odd
    | .lt => false
  else if rm = 1 then false
  else if rm = 2 then inexact && !neg
  else inexact && neg

/-- `Round(x)` to p significant bits with unbounded exponent (R256). -/
def Exact.round (p : Nat) (rm : BitVec 2) (x : Exact) : Exact :=
  let n := x.mant.log2 + 1
  if n ≤ p then x
  else
    let k := n - p
    let q := x.mant >>> k
    let r := x.mant % 2 ^ k
    let up := roundsUp rm x.neg (q % 2 == 1) (compare (2 * r) (2 ^ k)) (r != 0)
    ⟨x.neg, if up then q + 1 else q, x.exp + k⟩

/-- The bits of a normalized value of a format that holds it exactly (R251). -/
def fpEncode (w : Nat) (x : Exact) : BitVec w :=
  let f := fracBits w
  let l := x.mant.log2
  let m := if l ≤ f then x.mant <<< (f - l) else x.mant >>> (l - f)
  let e := (x.top + fpBias w).toNat
  BitVec.ofNat w ((if x.neg then 2 ^ (w - 1) else 0) + e * 2 ^ f + (m - 2 ^ f))

/-- The largest exponent of a normalized number (R251, R256). -/
def fpEmax (w : Nat) : Int := fpBias w

/-- The least exponent of a normalized number (R251, R256). -/
def fpEmin (w : Nat) : Int := 1 - (fpBias w : Int)

/-- The TT codes of R64. -/
def ttNone : BitVec 3 := 0
/-- Underflow -/
def ttUnderflow : BitVec 3 := 1
/-- Overflow -/
def ttOverflow : BitVec 3 := 2
/-- Division by Zero -/
def ttDivide : BitVec 3 := 3
/-- Illegal Instruction -/
def ttIllegal : BitVec 3 := 4
/-- Invalid Operation -/
def ttInvalid : BitVec 3 := 5
/-- Inexact Result -/
def ttInexact : BitVec 3 := 6

/-- `FpDeliver` up to the write: the value to deliver and FSR after it, or Trap(FPU) (R257).
`zeroNeg` is the sign of the zero that the instruction names for an exact zero, and `lossy` says that
an earlier rounding of the instruction was inexact. Underflow is judged on the exact value (D16;
log 43). A zero that is left when a rounded product cancels the addend is inexact like every other
result of a lossy operation. DESIGN CHOICE, unsafe: log 42. -/
def fpDeliver (w : Nat) (fsr : Word) (x : Exact) (zeroNeg : Bool) (lossy : Bool := false) :
    Except Stop (BitVec w × Word) :=
  let inexact (v : BitVec w) : Except Stop (BitVec w × Word) :=
    let fsr' := fsrSetIF (fsrSetTT fsr ttInexact)
    if fsrIEN fsr then .error (.fpu fsr') else .ok (v, fsr')
  if x.mant = 0 then
    if lossy then inexact (fpZero w zeroNeg) else .ok (fpZero w zeroNeg, fsrSetTT fsr ttNone)
  else
    let y := x.round (fracBits w + 1) (fsrRM fsr)
    if fpEmax w < y.top then .error (.fpu (fsrSetTT fsr ttOverflow))
    else if x.top < fpEmin w then
      let fsr' := fsrSetUF (fsrSetTT fsr ttUnderflow)
      if fsrUEN fsr then .error (.fpu fsr') else .ok (fpZero w false, fsr')
    else if x.eq y && !lossy then .ok (fpEncode w y, fsrSetTT fsr ttNone)
    else inexact (fpEncode w y)

/-! ## Integers from floating-point values -/

/-- How a value is made an integer (R278 to R280). -/
inductive ToInt where
  /-- to nearest, ties to even -/
  | round
  /-- toward zero -/
  | trunc
  /-- toward minus infinity -/
  | floor
  deriving DecidableEq, Repr

/-- The integer that a value becomes. -/
def Exact.toInteger (x : Exact) (m : ToInt) : Int :=
  if 0 ≤ x.exp then x.at 0
  else
    let k := (-x.exp).toNat
    if x.mant.log2 + 1 < k then
      (match m with
      | .round => 0
      | .trunc => 0
      | .floor => if x.neg && x.mant != 0 then -1 else 0)
    else
      let q : Nat := x.mant >>> k
      let r := x.mant % 2 ^ k
      let up := match m with
        | .round => roundsUp 0 x.neg (q % 2 == 1) (compare (2 * r) (2 ^ k)) (r != 0)
        | .trunc => false
        | .floor => x.neg && r != 0
      let n : Int := (if up then q + 1 else q : Nat)
      if x.neg then -n else n

/-- Whether a value is an integer. -/
def Exact.isInteger (x : Exact) : Bool :=
  decide (0 ≤ x.exp) || x.mant == 0 ||
    (decide ((-x.exp).toNat ≤ x.mant.log2) && x.mant % 2 ^ (-x.exp).toNat == 0)

/-- `FpToInt` up to the write (R278). -/
def fpToInt (w : Nat) (fsr : Word) (x : Exact) (m : ToInt) : Except Stop (BitVec w × Word) :=
  let n := x.toInteger m
  if !fitsSigned w n then .error (.fpu (fsrSetTT fsr ttOverflow))
  else if x.isInteger then .ok (BitVec.ofInt w n, fsrSetTT fsr ttNone)
  else
    let fsr' := fsrSetIF (fsrSetTT fsr ttInexact)
    if fsrIEN fsr then .error (.fpu fsr') else .ok (BitVec.ofInt w n, fsr')

end Sys2Proof.Machine
end

