-- ==== Sys2Proof/Machine/Float.lean ====
section
/-! DEFINITION. Floating-point instructions (`spec/42_floating_point.md`, R258 to R280). -/

namespace Sys2Proof.Machine

/-- Trap(FPU) with Invalid Operation if an operand is reserved (R253, R260). -/
def checkReserved (s : State) (bad : Bool) : Except Stop Unit :=
  if bad then .error (.fpu (fsrSetTT s.fsr ttInvalid)) else .ok ()

/-- A value to write with FSR as an operation leaves it. -/
def fpResult {w : Nat} (r : BitVec w × Word) (s : State) : Result w :=
  { value := r.1, state := { s with fsr := r.2 } }

/-- An exact bit result: TT becomes 000. -/
def fpExact {w : Nat} (v : BitVec w) (s : State) : Result w := fpResult (v, fsrSetTT s.fsr ttNone) s

/-- The sign of an exact zero sum of two addends (R261): the common sign of two zeros, else minus only
when rounding toward minus infinity. -/
def sumZeroSign (fsr : Word) (x y : Exact) : Bool :=
  if x.mant = 0 ∧ y.mant = 0 ∧ x.neg = y.neg then x.neg else fsrRM fsr == 3

/-- The sum of two values, delivered (R257, R261). -/
def fpAdd (w : Nat) (fsr : Word) (x y : Exact) (lossy : Bool := false) :
    Except Stop (BitVec w × Word) :=
  fpDeliver w fsr (x.add y) (sumZeroSign fsr x y) lossy

/-- A two-operand operation on a source and a destination that is read and written. -/
def fpBinary (w len : Nat) (a b : Gen) (s : State)
    (f : Word → BitVec w → BitVec w → Except Stop (BitVec w × Word)) : Except Stop State := do
  needFpu s
  binary .float .float w w len a b s fun x y s => do
    checkReserved s (fpReserved x || fpReserved y)
    let r ← f s.fsr x y
    .ok (fpResult r s)

/-- ADDf (R261). -/
def addFp (w len : Nat) (a b : Gen) (s : State) : Except Stop State :=
  fpBinary w len a b s fun fsr x y => fpAdd w fsr (fpValue x) (fpValue y)

/-- A value with its sign complemented. -/
def Exact.negate (x : Exact) : Exact := { x with neg := !x.neg }

/-- SUBf: the source is negated, then added (R262). -/
def subFp (w len : Nat) (a b : Gen) (s : State) : Except Stop State :=
  fpBinary w len a b s fun fsr x y => fpAdd w fsr (fpValue x).negate (fpValue y)

/-- MULf (R263). -/
def mulFp (w len : Nat) (a b : Gen) (s : State) : Except Stop State :=
  fpBinary w len a b s fun fsr x y =>
    fpDeliver w fsr ((fpValue x).mul (fpValue y)) (fpSign x ^^ fpSign y)

/-- DIVf: the destination is divided by the source (R264). -/
def divFp (w len : Nat) (a b : Gen) (s : State) : Except Stop State :=
  fpBinary w len a b s fun fsr x y =>
    if fpIsZero x then
      .error (.fpu (fsrSetTT fsr (if fpIsZero y then ttInvalid else ttDivide)))
    else if fpIsZero y then .ok (fpZero w (fpSign x ^^ fpSign y), fsrSetTT fsr ttNone)
    else fpDeliver w fsr ((fpValue y).div (fracBits w + 1) (fpValue x)) false

/-- A product added to a value (R265, R266): with one rounding if `DotPolyFused`, else with the
product rounded to the format's precision first (D17; log 42). Where the two agree the parameter is
not used. -/
def mulAdd (w : Nat) (fsr : Word) (x y z : Exact) : Except Stop (BitVec w × Word) :=
  let exact := x.mul y
  let rounded := exact.round (fracBits w + 1) (fsrRM fsr)
  if exact.eq rounded then fpAdd w fsr exact z
  else if Config.dotPolyFused then fpAdd w fsr exact z
  else fpAdd w fsr rounded z true

/-- A two-source operation into F0, which is an implied operand read and written (R265, R266). -/
def fpAccumulate (w len : Nat) (a b : Gen) (s : State)
    (f : Word → BitVec w → BitVec w → BitVec w → Except Stop (BitVec w × Word)) :
    Except Stop State := do
  needFpu s
  sources .float .float w w len a b s fun x y s => do
    let z := s.freg w 0
    checkReserved s (fpReserved x || fpReserved y || fpReserved z)
    let r ← f s.fsr x y z
    .ok ({ s with fsr := r.2 }.setFreg 0 r.1)

/-- DOTf: F0 + src1 * src2 (R265). -/
def dotFp (w len : Nat) (a b : Gen) (s : State) : Except Stop State :=
  fpAccumulate w len a b s fun fsr x y z => mulAdd w fsr (fpValue x) (fpValue y) (fpValue z)

/-- POLYf: F0 * src1 + src2 (R266). -/
def polyFp (w len : Nat) (a b : Gen) (s : State) : Except Stop State :=
  fpAccumulate w len a b s fun fsr x y z => mulAdd w fsr (fpValue z) (fpValue x) (fpValue y)

/-- A one-source operation whose floating source must not be reserved. -/
def fpUnary (fb : File) (wa wb len : Nat) (a b : Gen) (s : State)
    (f : BitVec wa → State → Except Stop (Result wb)) : Except Stop State := do
  needFpu s
  unary .float fb wa wb len a b s fun x s => do
    checkReserved s (fpReserved x)
    f x s

/-- NEGf: the S bit is complemented (R267). -/
def negFp (w len : Nat) (a b : Gen) (s : State) : Except Stop State :=
  fpUnary .float w w len a b s fun x s => .ok (fpExact (x ^^^ fpZero w true) s)

/-- ABSf: the S bit is cleared (R268). -/
def absFp (w len : Nat) (a b : Gen) (s : State) : Except Stop State :=
  fpUnary .float w w len a b s fun x s => .ok (fpExact (x &&& ~~~(fpZero w true)) s)

/-- CMPf: Z and N compare the values, L is cleared (R269). -/
def cmpFp (w len : Nat) (a b : Gen) (s : State) : Except Stop State := do
  needFpu s
  sources .float .float w w len a b s fun x y s => do
    checkReserved s (fpReserved x || fpReserved y)
    let s := { s with fsr := fsrSetTT s.fsr ttNone }
    .ok (s.setZNL ((fpValue x).eq (fpValue y)) ((fpValue y).lt (fpValue x)) false)

/-- MOVf: a bit copy; reserved operands are not checked (R270). -/
def movFp (w len : Nat) (a b : Gen) (s : State) : Except Stop State := do
  needFpu s
  unary .float .float w w len a b s fun x s => .ok (fpExact x s)

/-- LOGBf: the unbiased exponent as a floating-point value; of a zero, a free value (R271, U13;
log 31). The spec does not say which zero the exponent 0 is delivered as: the model delivers positive
zero. DESIGN CHOICE, unsafe: log 31. -/
def logbFp (w len : Nat) (a b : Gen) (s : State) : Except Stop State :=
  fpUnary .float w w len a b s fun x s =>
    if fpIsZero x then
      let (v, s) := s.draw w
      .ok (fpExact v s)
    else
      let e := exactOf ((fpExp x : Int) - fpBias w) 0
      .ok (fpExact (if e.mant = 0 then 0 else fpEncode w e) s)

/-- SCALBf: the destination times 2 to the integral part of the source; a zero destination is written
back (R272, D18; log 44). -/
def scalbFp (w len : Nat) (a b : Gen) (s : State) : Except Stop State :=
  fpBinary w len a b s fun fsr x y =>
    if fpIsZero y then .ok (y, fsrSetTT fsr ttNone)
    else
      let v := fpValue y
      fpDeliver w fsr { v with exp := v.exp + (fpValue x).toInteger .trunc } false

/-- MOVLF and MOVFL: conversion between the formats; a zero keeps its sign (R273, R274). -/
def convertFp (wa wb len : Nat) (a b : Gen) (s : State) : Except Stop State :=
  fpUnary .float wa wb len a b s fun x s => do
    let r ← fpDeliver wb s.fsr (fpValue x) (fpSign x)
    .ok (fpResult r s)

/-- MOVLF (R273). -/
def movLF (len : Nat) (a b : Gen) (s : State) : Except Stop State := convertFp 64 32 len a b s

/-- MOVFL (R274). -/
def movFL (len : Nat) (a b : Gen) (s : State) : Except Stop State := convertFp 32 64 len a b s

/-- MOVif: an integer becomes a floating-point value (R277). -/
def movIF (wi wf len : Nat) (a b : Gen) (s : State) : Except Stop State := do
  needFpu s
  unary .int .float wi wf len a b s fun x s => do
    let r ← fpDeliver wf s.fsr (exactOf x.toInt 0) false
    .ok (fpResult r s)

/-- A floating-point value becomes an integer (R278 to R280). -/
def fpInteger (m : ToInt) (wf wi len : Nat) (a b : Gen) (s : State) : Except Stop State :=
  fpUnary .int wf wi len a b s fun x s => do
    let r ← fpToInt wi s.fsr (fpValue x) m
    .ok (fpResult r s)

/-- ROUNDfi: ties to even, whatever FSR.RM is (R278). -/
def roundFp (wf wi len : Nat) (a b : Gen) (s : State) : Except Stop State :=
  fpInteger .round wf wi len a b s

/-- TRUNCfi (R279). -/
def truncFp (wf wi len : Nat) (a b : Gen) (s : State) : Except Stop State :=
  fpInteger .trunc wf wi len a b s

/-- FLOORfi (R280). -/
def floorFp (wf wi len : Nat) (a b : Gen) (s : State) : Except Stop State :=
  fpInteger .floor wf wi len a b s

/-- LFSR: every implemented field is loaded, TT as it is given (R275). -/
def lfsrI (len : Nat) (g : Gen) (s : State) : Except Stop State := do
  needFpu s
  source .int 32 len g s fun x s => .ok { s with fsr := x &&& fsrMask }

/-- SFSR (R276). -/
def sfsrI (len : Nat) (g : Gen) (s : State) : Except Stop State := do
  needFpu s
  store .int 32 len g s fun s => { value := s.fsr &&& fsrMask, state := s }

/-- The two formats that the floating-point unit rejects: Trap(FPU) with TT = 100 (R183). -/
def illegalFp (s : State) : Except Stop State := do
  needFpu s
  .error (.fpu (fsrSetTT s.fsr ttIllegal))

/-! ## The meanings -/

/-- MOVBF (R277). -/
def execMovbf (a : Gen) (b : Gen) (s : State) : Host.Outcome State Fault Refusal :=
  conclude s (movIF 8 32 (lenOf 3 [a, b] []) a b s)

/-- MOVWF (R277). -/
def execMovwf (a : Gen) (b : Gen) (s : State) : Host.Outcome State Fault Refusal :=
  conclude s (movIF 16 32 (lenOf 3 [a, b] []) a b s)

/-- MOVDF (R277). -/
def execMovdf (a : Gen) (b : Gen) (s : State) : Host.Outcome State Fault Refusal :=
  conclude s (movIF 32 32 (lenOf 3 [a, b] []) a b s)

/-- MOVBL (R277). -/
def execMovbl (a : Gen) (b : Gen) (s : State) : Host.Outcome State Fault Refusal :=
  conclude s (movIF 8 64 (lenOf 3 [a, b] []) a b s)

/-- MOVWL (R277). -/
def execMovwl (a : Gen) (b : Gen) (s : State) : Host.Outcome State Fault Refusal :=
  conclude s (movIF 16 64 (lenOf 3 [a, b] []) a b s)

/-- MOVDL (R277). -/
def execMovdl (a : Gen) (b : Gen) (s : State) : Host.Outcome State Fault Refusal :=
  conclude s (movIF 32 64 (lenOf 3 [a, b] []) a b s)

/-- LFSR (R275). -/
def execLfsr (g : Gen) (s : State) : Host.Outcome State Fault Refusal :=
  conclude s (lfsrI (lenOf 3 [g] []) g s)

/-- MOVLF (R273). -/
def execMovlf (a : Gen) (b : Gen) (s : State) : Host.Outcome State Fault Refusal :=
  conclude s (movLF (lenOf 3 [a, b] []) a b s)

/-- MOVFL (R274). -/
def execMovfl (a : Gen) (b : Gen) (s : State) : Host.Outcome State Fault Refusal :=
  conclude s (movFL (lenOf 3 [a, b] []) a b s)

/-- ROUNDFB (R278). -/
def execRoundfb (a : Gen) (b : Gen) (s : State) : Host.Outcome State Fault Refusal :=
  conclude s (roundFp 32 8 (lenOf 3 [a, b] []) a b s)

/-- ROUNDFW (R278). -/
def execRoundfw (a : Gen) (b : Gen) (s : State) : Host.Outcome State Fault Refusal :=
  conclude s (roundFp 32 16 (lenOf 3 [a, b] []) a b s)

/-- ROUNDFD (R278). -/
def execRoundfd (a : Gen) (b : Gen) (s : State) : Host.Outcome State Fault Refusal :=
  conclude s (roundFp 32 32 (lenOf 3 [a, b] []) a b s)

/-- ROUNDLB (R278). -/
def execRoundlb (a : Gen) (b : Gen) (s : State) : Host.Outcome State Fault Refusal :=
  conclude s (roundFp 64 8 (lenOf 3 [a, b] []) a b s)

/-- ROUNDLW (R278). -/
def execRoundlw (a : Gen) (b : Gen) (s : State) : Host.Outcome State Fault Refusal :=
  conclude s (roundFp 64 16 (lenOf 3 [a, b] []) a b s)

/-- ROUNDLD (R278). -/
def execRoundld (a : Gen) (b : Gen) (s : State) : Host.Outcome State Fault Refusal :=
  conclude s (roundFp 64 32 (lenOf 3 [a, b] []) a b s)

/-- TRUNCFB (R279). -/
def execTruncfb (a : Gen) (b : Gen) (s : State) : Host.Outcome State Fault Refusal :=
  conclude s (truncFp 32 8 (lenOf 3 [a, b] []) a b s)

/-- TRUNCFW (R279). -/
def execTruncfw (a : Gen) (b : Gen) (s : State) : Host.Outcome State Fault Refusal :=
  conclude s (truncFp 32 16 (lenOf 3 [a, b] []) a b s)

/-- TRUNCFD (R279). -/
def execTruncfd (a : Gen) (b : Gen) (s : State) : Host.Outcome State Fault Refusal :=
  conclude s (truncFp 32 32 (lenOf 3 [a, b] []) a b s)

/-- TRUNCLB (R279). -/
def execTrunclb (a : Gen) (b : Gen) (s : State) : Host.Outcome State Fault Refusal :=
  conclude s (truncFp 64 8 (lenOf 3 [a, b] []) a b s)

/-- TRUNCLW (R279). -/
def execTrunclw (a : Gen) (b : Gen) (s : State) : Host.Outcome State Fault Refusal :=
  conclude s (truncFp 64 16 (lenOf 3 [a, b] []) a b s)

/-- TRUNCLD (R279). -/
def execTruncld (a : Gen) (b : Gen) (s : State) : Host.Outcome State Fault Refusal :=
  conclude s (truncFp 64 32 (lenOf 3 [a, b] []) a b s)

/-- FLOORFB (R280). -/
def execFloorfb (a : Gen) (b : Gen) (s : State) : Host.Outcome State Fault Refusal :=
  conclude s (floorFp 32 8 (lenOf 3 [a, b] []) a b s)

/-- FLOORFW (R280). -/
def execFloorfw (a : Gen) (b : Gen) (s : State) : Host.Outcome State Fault Refusal :=
  conclude s (floorFp 32 16 (lenOf 3 [a, b] []) a b s)

/-- FLOORFD (R280). -/
def execFloorfd (a : Gen) (b : Gen) (s : State) : Host.Outcome State Fault Refusal :=
  conclude s (floorFp 32 32 (lenOf 3 [a, b] []) a b s)

/-- FLOORLB (R280). -/
def execFloorlb (a : Gen) (b : Gen) (s : State) : Host.Outcome State Fault Refusal :=
  conclude s (floorFp 64 8 (lenOf 3 [a, b] []) a b s)

/-- FLOORLW (R280). -/
def execFloorlw (a : Gen) (b : Gen) (s : State) : Host.Outcome State Fault Refusal :=
  conclude s (floorFp 64 16 (lenOf 3 [a, b] []) a b s)

/-- FLOORLD (R280). -/
def execFloorld (a : Gen) (b : Gen) (s : State) : Host.Outcome State Fault Refusal :=
  conclude s (floorFp 64 32 (lenOf 3 [a, b] []) a b s)

/-- SFSR (R276). -/
def execSfsr (g : Gen) (s : State) : Host.Outcome State Fault Refusal :=
  conclude s (sfsrI (lenOf 3 [g] []) g s)

/-- ADDF (R261). -/
def execAddf (a : Gen) (b : Gen) (s : State) : Host.Outcome State Fault Refusal :=
  conclude s (addFp 32 (lenOf 3 [a, b] []) a b s)

/-- ADDL (R261). -/
def execAddl (a : Gen) (b : Gen) (s : State) : Host.Outcome State Fault Refusal :=
  conclude s (addFp 64 (lenOf 3 [a, b] []) a b s)

/-- MOVF (R270). -/
def execMovf (a : Gen) (b : Gen) (s : State) : Host.Outcome State Fault Refusal :=
  conclude s (movFp 32 (lenOf 3 [a, b] []) a b s)

/-- MOVL (R270). -/
def execMovl (a : Gen) (b : Gen) (s : State) : Host.Outcome State Fault Refusal :=
  conclude s (movFp 64 (lenOf 3 [a, b] []) a b s)

/-- CMPF (R269). -/
def execCmpf (a : Gen) (b : Gen) (s : State) : Host.Outcome State Fault Refusal :=
  conclude s (cmpFp 32 (lenOf 3 [a, b] []) a b s)

/-- CMPL (R269). -/
def execCmpl (a : Gen) (b : Gen) (s : State) : Host.Outcome State Fault Refusal :=
  conclude s (cmpFp 64 (lenOf 3 [a, b] []) a b s)

/-- SUBF (R262). -/
def execSubf (a : Gen) (b : Gen) (s : State) : Host.Outcome State Fault Refusal :=
  conclude s (subFp 32 (lenOf 3 [a, b] []) a b s)

/-- SUBL (R262). -/
def execSubl (a : Gen) (b : Gen) (s : State) : Host.Outcome State Fault Refusal :=
  conclude s (subFp 64 (lenOf 3 [a, b] []) a b s)

/-- NEGF (R267). -/
def execNegf (a : Gen) (b : Gen) (s : State) : Host.Outcome State Fault Refusal :=
  conclude s (negFp 32 (lenOf 3 [a, b] []) a b s)

/-- NEGL (R267). -/
def execNegl (a : Gen) (b : Gen) (s : State) : Host.Outcome State Fault Refusal :=
  conclude s (negFp 64 (lenOf 3 [a, b] []) a b s)

/-- DIVF (R264). -/
def execDivf (a : Gen) (b : Gen) (s : State) : Host.Outcome State Fault Refusal :=
  conclude s (divFp 32 (lenOf 3 [a, b] []) a b s)

/-- DIVL (R264). -/
def execDivl (a : Gen) (b : Gen) (s : State) : Host.Outcome State Fault Refusal :=
  conclude s (divFp 64 (lenOf 3 [a, b] []) a b s)

/-- MULF (R263). -/
def execMulf (a : Gen) (b : Gen) (s : State) : Host.Outcome State Fault Refusal :=
  conclude s (mulFp 32 (lenOf 3 [a, b] []) a b s)

/-- MULL (R263). -/
def execMull (a : Gen) (b : Gen) (s : State) : Host.Outcome State Fault Refusal :=
  conclude s (mulFp 64 (lenOf 3 [a, b] []) a b s)

/-- ABSF (R268). -/
def execAbsf (a : Gen) (b : Gen) (s : State) : Host.Outcome State Fault Refusal :=
  conclude s (absFp 32 (lenOf 3 [a, b] []) a b s)

/-- ABSL (R268). -/
def execAbsl (a : Gen) (b : Gen) (s : State) : Host.Outcome State Fault Refusal :=
  conclude s (absFp 64 (lenOf 3 [a, b] []) a b s)

/-- POLYF (R266). -/
def execPolyf (a : Gen) (b : Gen) (s : State) : Host.Outcome State Fault Refusal :=
  conclude s (polyFp 32 (lenOf 3 [a, b] []) a b s)

/-- POLYL (R266). -/
def execPolyl (a : Gen) (b : Gen) (s : State) : Host.Outcome State Fault Refusal :=
  conclude s (polyFp 64 (lenOf 3 [a, b] []) a b s)

/-- DOTF (R265). -/
def execDotf (a : Gen) (b : Gen) (s : State) : Host.Outcome State Fault Refusal :=
  conclude s (dotFp 32 (lenOf 3 [a, b] []) a b s)

/-- DOTL (R265). -/
def execDotl (a : Gen) (b : Gen) (s : State) : Host.Outcome State Fault Refusal :=
  conclude s (dotFp 64 (lenOf 3 [a, b] []) a b s)

/-- SCALBF (R272). -/
def execScalbf (a : Gen) (b : Gen) (s : State) : Host.Outcome State Fault Refusal :=
  conclude s (scalbFp 32 (lenOf 3 [a, b] []) a b s)

/-- SCALBL (R272). -/
def execScalbl (a : Gen) (b : Gen) (s : State) : Host.Outcome State Fault Refusal :=
  conclude s (scalbFp 64 (lenOf 3 [a, b] []) a b s)

/-- LOGBF (R271). -/
def execLogbf (a : Gen) (b : Gen) (s : State) : Host.Outcome State Fault Refusal :=
  conclude s (logbFp 32 (lenOf 3 [a, b] []) a b s)

/-- LOGBL (R271). -/
def execLogbl (a : Gen) (b : Gen) (s : State) : Host.Outcome State Fault Refusal :=
  conclude s (logbFp 64 (lenOf 3 [a, b] []) a b s)

/-- illegal_floating-point_format__op_0011 (R183). -/
def execIllegalFp0011 (s : State) : Host.Outcome State Fault Refusal :=
  conclude s (illegalFp s)

/-- illegal_floating-point_format__op_1001 (R183). -/
def execIllegalFp1001 (s : State) : Host.Outcome State Fault Refusal :=
  conclude s (illegalFp s)

end Sys2Proof.Machine
end

