-- ==== Sys2Proof/Machine/Logical.lean ====
section
/-! DEFINITION. Logical, shift and Boolean instructions (`spec/43_logical.md`, R300 to R311). No flag
changes. -/

namespace Sys2Proof.Machine

/-- A bitwise operation of the source and the destination (R300). -/
def logical (w len : Nat) (a b : Gen) (s : State) (f : BitVec w → BitVec w → BitVec w) :
    Except Stop State :=
  binary .int .int w w len a b s fun x y s => .ok { value := f x y, state := s }

/-- ANDi (R302). -/
def andI (w len : Nat) (a b : Gen) (s : State) : Except Stop State :=
  logical w len a b s fun x y => x &&& y

/-- ORi (R303). -/
def orI (w len : Nat) (a b : Gen) (s : State) : Except Stop State :=
  logical w len a b s fun x y => x ||| y

/-- BICi: the bits that are 1 in the source are cleared (R304). -/
def bicI (w len : Nat) (a b : Gen) (s : State) : Except Stop State :=
  logical w len a b s fun x y => y &&& ~~~x

/-- XORi (R305). -/
def xorI (w len : Nat) (a b : Gen) (s : State) : Except Stop State :=
  logical w len a b s fun x y => x ^^^ y

/-- COMi (R306). -/
def comI (w len : Nat) (a b : Gen) (s : State) : Except Stop State :=
  unary .int .int w w len a b s fun x s => .ok { value := ~~~x, state := s }

/-- NOTi: only bit 0 is complemented (R307). -/
def notI (w len : Nat) (a b : Gen) (s : State) : Except Stop State :=
  unary .int .int w w len a b s fun x s => .ok { value := x ^^^ 1#w, state := s }

/-- A shift of the destination by a signed byte count: positive is left. A count whose magnitude is
the length or more gives a free value and no overflow (R301, U14; log 32). `f` gives the result and
the overflow condition of a left count, `g` the result of a right count. -/
def shift (w len : Nat) (a b : Gen) (s : State) (f : BitVec w → Nat → BitVec w × Bool)
    (g : BitVec w → Nat → BitVec w) : Except Stop State :=
  binary .int .int 8 w len a b s fun c y s =>
    if w ≤ c.toInt.natAbs then
      let (v, s) := s.draw w
      .ok { value := v, state := s }
    else if 0 ≤ c.toInt then
      let r := f y c.toInt.natAbs
      .ok ⟨r.1, s, r.2⟩
    else .ok { value := g y c.toInt.natAbs, state := s }

/-- ASHi (R308). -/
def ashI (w len : Nat) (a b : Gen) (s : State) : Except Stop State :=
  shift w len a b s (fun y n => (y <<< n, !fitsSigned w (y.toInt * 2 ^ n)))
    (fun y n => y.sshiftRight n)

/-- LSHi (R309). -/
def lshI (w len : Nat) (a b : Gen) (s : State) : Except Stop State :=
  shift w len a b s (fun y n => (y <<< n, false)) (fun y n => y >>> n)

/-- ROTi (R310). -/
def rotI (w len : Nat) (a b : Gen) (s : State) : Except Stop State :=
  shift w len a b s (fun y n => (y.rotateLeft n, false)) (fun y n => y.rotateRight n)

/-- Scondi: the integer 1 if the condition holds, 0 if not (R311). -/
def scond (w len : Nat) (c : Cond) (b : Gen) (s : State) : Except Stop State :=
  store .int w len b s fun s => { value := if s.condTrue c then 1 else 0, state := s }

/-! ## The meanings -/

/-- SEQB (R311). -/
def execSeqb (g : Gen) (s : State) : Host.Outcome State Fault Refusal :=
  conclude s (scond 8 (lenOf 2 [g] []) .eq g s)

/-- SNEB (R311). -/
def execSneb (g : Gen) (s : State) : Host.Outcome State Fault Refusal :=
  conclude s (scond 8 (lenOf 2 [g] []) .ne g s)

/-- SCSB (R311). -/
def execScsb (g : Gen) (s : State) : Host.Outcome State Fault Refusal :=
  conclude s (scond 8 (lenOf 2 [g] []) .cs g s)

/-- SCCB (R311). -/
def execSccb (g : Gen) (s : State) : Host.Outcome State Fault Refusal :=
  conclude s (scond 8 (lenOf 2 [g] []) .cc g s)

/-- SHIB (R311). -/
def execShib (g : Gen) (s : State) : Host.Outcome State Fault Refusal :=
  conclude s (scond 8 (lenOf 2 [g] []) .hi g s)

/-- SLSB (R311). -/
def execSlsb (g : Gen) (s : State) : Host.Outcome State Fault Refusal :=
  conclude s (scond 8 (lenOf 2 [g] []) .ls g s)

/-- SGTB (R311). -/
def execSgtb (g : Gen) (s : State) : Host.Outcome State Fault Refusal :=
  conclude s (scond 8 (lenOf 2 [g] []) .gt g s)

/-- SLEB (R311). -/
def execSleb (g : Gen) (s : State) : Host.Outcome State Fault Refusal :=
  conclude s (scond 8 (lenOf 2 [g] []) .le g s)

/-- SFSB (R311). -/
def execSfsb (g : Gen) (s : State) : Host.Outcome State Fault Refusal :=
  conclude s (scond 8 (lenOf 2 [g] []) .fs g s)

/-- SFCB (R311). -/
def execSfcb (g : Gen) (s : State) : Host.Outcome State Fault Refusal :=
  conclude s (scond 8 (lenOf 2 [g] []) .fc g s)

/-- SLOB (R311). -/
def execSlob (g : Gen) (s : State) : Host.Outcome State Fault Refusal :=
  conclude s (scond 8 (lenOf 2 [g] []) .lo g s)

/-- SHSB (R311). -/
def execShsb (g : Gen) (s : State) : Host.Outcome State Fault Refusal :=
  conclude s (scond 8 (lenOf 2 [g] []) .hs g s)

/-- SLTB (R311). -/
def execSltb (g : Gen) (s : State) : Host.Outcome State Fault Refusal :=
  conclude s (scond 8 (lenOf 2 [g] []) .lt g s)

/-- SGEB (R311). -/
def execSgeb (g : Gen) (s : State) : Host.Outcome State Fault Refusal :=
  conclude s (scond 8 (lenOf 2 [g] []) .ge g s)

/-- SEQW (R311). -/
def execSeqw (g : Gen) (s : State) : Host.Outcome State Fault Refusal :=
  conclude s (scond 16 (lenOf 2 [g] []) .eq g s)

/-- SNEW (R311). -/
def execSnew (g : Gen) (s : State) : Host.Outcome State Fault Refusal :=
  conclude s (scond 16 (lenOf 2 [g] []) .ne g s)

/-- SCSW (R311). -/
def execScsw (g : Gen) (s : State) : Host.Outcome State Fault Refusal :=
  conclude s (scond 16 (lenOf 2 [g] []) .cs g s)

/-- SCCW (R311). -/
def execSccw (g : Gen) (s : State) : Host.Outcome State Fault Refusal :=
  conclude s (scond 16 (lenOf 2 [g] []) .cc g s)

/-- SHIW (R311). -/
def execShiw (g : Gen) (s : State) : Host.Outcome State Fault Refusal :=
  conclude s (scond 16 (lenOf 2 [g] []) .hi g s)

/-- SLSW (R311). -/
def execSlsw (g : Gen) (s : State) : Host.Outcome State Fault Refusal :=
  conclude s (scond 16 (lenOf 2 [g] []) .ls g s)

/-- SGTW (R311). -/
def execSgtw (g : Gen) (s : State) : Host.Outcome State Fault Refusal :=
  conclude s (scond 16 (lenOf 2 [g] []) .gt g s)

/-- SLEW (R311). -/
def execSlew (g : Gen) (s : State) : Host.Outcome State Fault Refusal :=
  conclude s (scond 16 (lenOf 2 [g] []) .le g s)

/-- SFSW (R311). -/
def execSfsw (g : Gen) (s : State) : Host.Outcome State Fault Refusal :=
  conclude s (scond 16 (lenOf 2 [g] []) .fs g s)

/-- SFCW (R311). -/
def execSfcw (g : Gen) (s : State) : Host.Outcome State Fault Refusal :=
  conclude s (scond 16 (lenOf 2 [g] []) .fc g s)

/-- SLOW (R311). -/
def execSlow (g : Gen) (s : State) : Host.Outcome State Fault Refusal :=
  conclude s (scond 16 (lenOf 2 [g] []) .lo g s)

/-- SHSW (R311). -/
def execShsw (g : Gen) (s : State) : Host.Outcome State Fault Refusal :=
  conclude s (scond 16 (lenOf 2 [g] []) .hs g s)

/-- SLTW (R311). -/
def execSltw (g : Gen) (s : State) : Host.Outcome State Fault Refusal :=
  conclude s (scond 16 (lenOf 2 [g] []) .lt g s)

/-- SGEW (R311). -/
def execSgew (g : Gen) (s : State) : Host.Outcome State Fault Refusal :=
  conclude s (scond 16 (lenOf 2 [g] []) .ge g s)

/-- SEQD (R311). -/
def execSeqd (g : Gen) (s : State) : Host.Outcome State Fault Refusal :=
  conclude s (scond 32 (lenOf 2 [g] []) .eq g s)

/-- SNED (R311). -/
def execSned (g : Gen) (s : State) : Host.Outcome State Fault Refusal :=
  conclude s (scond 32 (lenOf 2 [g] []) .ne g s)

/-- SCSD (R311). -/
def execScsd (g : Gen) (s : State) : Host.Outcome State Fault Refusal :=
  conclude s (scond 32 (lenOf 2 [g] []) .cs g s)

/-- SCCD (R311). -/
def execSccd (g : Gen) (s : State) : Host.Outcome State Fault Refusal :=
  conclude s (scond 32 (lenOf 2 [g] []) .cc g s)

/-- SHID (R311). -/
def execShid (g : Gen) (s : State) : Host.Outcome State Fault Refusal :=
  conclude s (scond 32 (lenOf 2 [g] []) .hi g s)

/-- SLSD (R311). -/
def execSlsd (g : Gen) (s : State) : Host.Outcome State Fault Refusal :=
  conclude s (scond 32 (lenOf 2 [g] []) .ls g s)

/-- SGTD (R311). -/
def execSgtd (g : Gen) (s : State) : Host.Outcome State Fault Refusal :=
  conclude s (scond 32 (lenOf 2 [g] []) .gt g s)

/-- SLED (R311). -/
def execSled (g : Gen) (s : State) : Host.Outcome State Fault Refusal :=
  conclude s (scond 32 (lenOf 2 [g] []) .le g s)

/-- SFSD (R311). -/
def execSfsd (g : Gen) (s : State) : Host.Outcome State Fault Refusal :=
  conclude s (scond 32 (lenOf 2 [g] []) .fs g s)

/-- SFCD (R311). -/
def execSfcd (g : Gen) (s : State) : Host.Outcome State Fault Refusal :=
  conclude s (scond 32 (lenOf 2 [g] []) .fc g s)

/-- SLOD (R311). -/
def execSlod (g : Gen) (s : State) : Host.Outcome State Fault Refusal :=
  conclude s (scond 32 (lenOf 2 [g] []) .lo g s)

/-- SHSD (R311). -/
def execShsd (g : Gen) (s : State) : Host.Outcome State Fault Refusal :=
  conclude s (scond 32 (lenOf 2 [g] []) .hs g s)

/-- SLTD (R311). -/
def execSltd (g : Gen) (s : State) : Host.Outcome State Fault Refusal :=
  conclude s (scond 32 (lenOf 2 [g] []) .lt g s)

/-- SGED (R311). -/
def execSged (g : Gen) (s : State) : Host.Outcome State Fault Refusal :=
  conclude s (scond 32 (lenOf 2 [g] []) .ge g s)

/-- BICB (R304). -/
def execBicb (a : Gen) (b : Gen) (s : State) : Host.Outcome State Fault Refusal :=
  conclude s (bicI 8 (lenOf 2 [a, b] []) a b s)

/-- BICW (R304). -/
def execBicw (a : Gen) (b : Gen) (s : State) : Host.Outcome State Fault Refusal :=
  conclude s (bicI 16 (lenOf 2 [a, b] []) a b s)

/-- BICD (R304). -/
def execBicd (a : Gen) (b : Gen) (s : State) : Host.Outcome State Fault Refusal :=
  conclude s (bicI 32 (lenOf 2 [a, b] []) a b s)

/-- ORB (R303). -/
def execOrb (a : Gen) (b : Gen) (s : State) : Host.Outcome State Fault Refusal :=
  conclude s (orI 8 (lenOf 2 [a, b] []) a b s)

/-- ORW (R303). -/
def execOrw (a : Gen) (b : Gen) (s : State) : Host.Outcome State Fault Refusal :=
  conclude s (orI 16 (lenOf 2 [a, b] []) a b s)

/-- ORD (R303). -/
def execOrd (a : Gen) (b : Gen) (s : State) : Host.Outcome State Fault Refusal :=
  conclude s (orI 32 (lenOf 2 [a, b] []) a b s)

/-- ANDB (R302). -/
def execAndb (a : Gen) (b : Gen) (s : State) : Host.Outcome State Fault Refusal :=
  conclude s (andI 8 (lenOf 2 [a, b] []) a b s)

/-- ANDW (R302). -/
def execAndw (a : Gen) (b : Gen) (s : State) : Host.Outcome State Fault Refusal :=
  conclude s (andI 16 (lenOf 2 [a, b] []) a b s)

/-- ANDD (R302). -/
def execAndd (a : Gen) (b : Gen) (s : State) : Host.Outcome State Fault Refusal :=
  conclude s (andI 32 (lenOf 2 [a, b] []) a b s)

/-- XORB (R305). -/
def execXorb (a : Gen) (b : Gen) (s : State) : Host.Outcome State Fault Refusal :=
  conclude s (xorI 8 (lenOf 2 [a, b] []) a b s)

/-- XORW (R305). -/
def execXorw (a : Gen) (b : Gen) (s : State) : Host.Outcome State Fault Refusal :=
  conclude s (xorI 16 (lenOf 2 [a, b] []) a b s)

/-- XORD (R305). -/
def execXord (a : Gen) (b : Gen) (s : State) : Host.Outcome State Fault Refusal :=
  conclude s (xorI 32 (lenOf 2 [a, b] []) a b s)

/-- ROTB (R310). -/
def execRotb (a : Gen) (b : Gen) (s : State) : Host.Outcome State Fault Refusal :=
  conclude s (rotI 8 (lenOf 3 [a, b] []) a b s)

/-- ROTW (R310). -/
def execRotw (a : Gen) (b : Gen) (s : State) : Host.Outcome State Fault Refusal :=
  conclude s (rotI 16 (lenOf 3 [a, b] []) a b s)

/-- ROTD (R310). -/
def execRotd (a : Gen) (b : Gen) (s : State) : Host.Outcome State Fault Refusal :=
  conclude s (rotI 32 (lenOf 3 [a, b] []) a b s)

/-- ASHB (R308). -/
def execAshb (a : Gen) (b : Gen) (s : State) : Host.Outcome State Fault Refusal :=
  conclude s (ashI 8 (lenOf 3 [a, b] []) a b s)

/-- ASHW (R308). -/
def execAshw (a : Gen) (b : Gen) (s : State) : Host.Outcome State Fault Refusal :=
  conclude s (ashI 16 (lenOf 3 [a, b] []) a b s)

/-- ASHD (R308). -/
def execAshd (a : Gen) (b : Gen) (s : State) : Host.Outcome State Fault Refusal :=
  conclude s (ashI 32 (lenOf 3 [a, b] []) a b s)

/-- LSHB (R309). -/
def execLshb (a : Gen) (b : Gen) (s : State) : Host.Outcome State Fault Refusal :=
  conclude s (lshI 8 (lenOf 3 [a, b] []) a b s)

/-- LSHW (R309). -/
def execLshw (a : Gen) (b : Gen) (s : State) : Host.Outcome State Fault Refusal :=
  conclude s (lshI 16 (lenOf 3 [a, b] []) a b s)

/-- LSHD (R309). -/
def execLshd (a : Gen) (b : Gen) (s : State) : Host.Outcome State Fault Refusal :=
  conclude s (lshI 32 (lenOf 3 [a, b] []) a b s)

/-- NOTB (R307). -/
def execNotb (a : Gen) (b : Gen) (s : State) : Host.Outcome State Fault Refusal :=
  conclude s (notI 8 (lenOf 3 [a, b] []) a b s)

/-- NOTW (R307). -/
def execNotw (a : Gen) (b : Gen) (s : State) : Host.Outcome State Fault Refusal :=
  conclude s (notI 16 (lenOf 3 [a, b] []) a b s)

/-- NOTD (R307). -/
def execNotd (a : Gen) (b : Gen) (s : State) : Host.Outcome State Fault Refusal :=
  conclude s (notI 32 (lenOf 3 [a, b] []) a b s)

/-- COMB (R306). -/
def execComb (a : Gen) (b : Gen) (s : State) : Host.Outcome State Fault Refusal :=
  conclude s (comI 8 (lenOf 3 [a, b] []) a b s)

/-- COMW (R306). -/
def execComw (a : Gen) (b : Gen) (s : State) : Host.Outcome State Fault Refusal :=
  conclude s (comI 16 (lenOf 3 [a, b] []) a b s)

/-- COMD (R306). -/
def execComd (a : Gen) (b : Gen) (s : State) : Host.Outcome State Fault Refusal :=
  conclude s (comI 32 (lenOf 3 [a, b] []) a b s)

end Sys2Proof.Machine
end

