-- ==== Sys2Proof/Machine/MemMgmt.lean ====
section
/-! DEFINITION. Memory management instructions (`spec/48_memory_management.md`, R450 to R459). -/

namespace Sys2Proof.Machine

/-- Loads a memory-management register. IVAR0 and IVAR1 purge a translation from the TLB, which is not
state (R452, D8; log 24). -/
def loadMmu (s : State) (r : MmuReg) (v : Word) : State :=
  match r with
  | .mcr => { s with mcr := v }
  | .msr => { s with msr := v }
  | .tear => { s with tear := v }
  | .ptb0 => { s with ptb0 := v }
  | .ptb1 => { s with ptb1 := v }
  | .ivar0 => s
  | .ivar1 => s

/-- The value of a memory-management register and the state after it is read. IVAR0 and IVAR1 are
write-only: a free value (R453, U27; log 40). -/
def storeMmu (s : State) (r : MmuReg) : Word × State :=
  match r with
  | .mcr => (s.mcr, s)
  | .msr => (s.msr, s)
  | .tear => (s.tear, s)
  | .ptb0 => (s.ptb0, s)
  | .ptb1 => (s.ptb1, s)
  | .ivar0 => s.draw 32
  | .ivar1 => s.draw 32

/-- LMR (R452). -/
def lmrI (len : Nat) (r : MmuReg) (g : Gen) (s : State) : Except Stop State := do
  needMmu s
  source .int 32 len g s fun x s => .ok (loadMmu s r x)

/-- SMR (R453). -/
def smrI (len : Nat) (r : MmuReg) (g : Gen) (s : State) : Except Stop State := do
  needMmu s
  store .int 32 len g s fun s =>
    let v := storeMmu s r
    { value := v.1, state := v.2 }

/-- RDVAL and WRVAL: F says whether User mode is denied the access; the location itself is not
accessed (R454, R455, R459). -/
def validateI (k : Access) (len : Nat) (g : Gen) (s : State) : Except Stop State := do
  needMmu s
  let a ← genAddr s.sp s g
  match s.validate k a with
  | .allowed => .ok ((s.setF false).advance len)
  | .denied => .ok ((s.setF true).advance len)
  | .abort => .error (.abort a)

/-- RDVAL (R454). -/
def rdvalI (len : Nat) (g : Gen) (s : State) : Except Stop State := validateI .read len g s

/-- WRVAL (R455). -/
def wrvalI (len : Nat) (g : Gen) (s : State) : Except Stop State := validateI .write len g s

/-- A move between the Supervisor and the User space: `fromUser` says which the source is in (R456,
R457). -/
def moveSpace (w len : Nat) (fromUser : Bool) (a b : Gen) (s : State) : Except Stop State := do
  privileged s
  let spi := s.sp
  let src ← genAddr spi s a
  let dst ← genAddr spi s b
  let v ← s.read w src .read fromUser
  let s ← s.write dst v .write (!fromUser)
  .ok (s.advance len)

/-- MOVSUi (R456). -/
def movsuI (w len : Nat) (a b : Gen) (s : State) : Except Stop State := moveSpace w len false a b s

/-- MOVUSi (R457). -/
def movusI (w len : Nat) (a b : Gen) (s : State) : Except Stop State := moveSpace w len true a b s

/-! ## The meanings -/

/-- MOVSUB (R456). -/
def execMovsub (a : Gen) (b : Gen) (s : State) : Host.Outcome State Fault Refusal :=
  conclude s (movsuI 8 (lenOf 3 [a, b] []) a b s)

/-- MOVSUW (R456). -/
def execMovsuw (a : Gen) (b : Gen) (s : State) : Host.Outcome State Fault Refusal :=
  conclude s (movsuI 16 (lenOf 3 [a, b] []) a b s)

/-- MOVSUD (R456). -/
def execMovsud (a : Gen) (b : Gen) (s : State) : Host.Outcome State Fault Refusal :=
  conclude s (movsuI 32 (lenOf 3 [a, b] []) a b s)

/-- MOVUSB (R457). -/
def execMovusb (a : Gen) (b : Gen) (s : State) : Host.Outcome State Fault Refusal :=
  conclude s (movusI 8 (lenOf 3 [a, b] []) a b s)

/-- MOVUSW (R457). -/
def execMovusw (a : Gen) (b : Gen) (s : State) : Host.Outcome State Fault Refusal :=
  conclude s (movusI 16 (lenOf 3 [a, b] []) a b s)

/-- MOVUSD (R457). -/
def execMovusd (a : Gen) (b : Gen) (s : State) : Host.Outcome State Fault Refusal :=
  conclude s (movusI 32 (lenOf 3 [a, b] []) a b s)

/-- RDVAL (R454). -/
def execRdval (g : Gen) (s : State) : Host.Outcome State Fault Refusal :=
  conclude s (rdvalI (lenOf 3 [g] []) g s)

/-- WRVAL (R455). -/
def execWrval (g : Gen) (s : State) : Host.Outcome State Fault Refusal :=
  conclude s (wrvalI (lenOf 3 [g] []) g s)

/-- LMR (R452). -/
def execLmr (r : MmuReg) (g : Gen) (s : State) : Host.Outcome State Fault Refusal :=
  conclude s (lmrI (lenOf 3 [g] []) r g s)

/-- SMR (R453). -/
def execSmr (r : MmuReg) (g : Gen) (s : State) : Host.Outcome State Fault Refusal :=
  conclude s (smrI (lenOf 3 [g] []) r g s)

end Sys2Proof.Machine
end

