-- ==== Sys2Proof/Machine/Service.lean ====
section
/-! DEFINITION. Processor service instructions (`spec/47_processor_service.md`, R420 to R440). -/

namespace Sys2Proof.Machine

/-- ADDR (R421). -/
def addrI (len : Nat) (a b : Gen) (s : State) : Except Stop State :=
  fromAddr 32 len a b s fun ea s => { value := ea, state := s }

/-! ## Context -/

/-- Pushes the registers of a SAVE list: bit k names Rk, and bit 0 is first (R422, R423). `k` is how
many bits are left. -/
def pushList (l : BitVec 8) : Nat → State → Except Stop State
  | 0, s => .ok s
  | k + 1, s => do
    let s ← if l.getLsbD (7 - k) then s.push (s.reg (regOf (7 - k))) else .ok s
    pushList l k s

/-- Pops the registers of a RESTORE list: bit k names R(7-k), and bit 0 is first (R422, R424). -/
def popList (l : BitVec 8) : Nat → State → Except Stop State
  | 0, s => .ok s
  | k + 1, s => do
    let s ← if l.getLsbD (7 - k) then do
        let (v, s) ← s.pop 32
        .ok (s.setReg (regOf k) v)
      else .ok s
    popList l k s

/-- SAVE (R423). -/
def save (len : Nat) (l : BitVec 8) (s : State) : Except Stop State := do
  let s ← pushList l 8 s
  .ok (s.advance len)

/-- RESTORE (R424). -/
def restore (len : Nat) (l : BitVec 8) (s : State) : Except Stop State := do
  let s ← popList l 8 s
  .ok (s.advance len)

/-- ENTER (R425). -/
def enter (len : Nat) (l : BitVec 8) (d : Disp) (s : State) : Except Stop State := do
  let s ← s.push s.fp
  let s := { s with fp := s.sp }
  let s ← pushList l 8 (s.setSp (s.sp - dispValue d))
  .ok (s.advance len)

/-- EXIT (R426). -/
def exit (len : Nat) (l : BitVec 8) (s : State) : Except Stop State := do
  let s ← popList l 8 s
  let (v, s) ← (s.setSp s.fp).pop 32
  .ok ({ s with fp := v }.advance len)

/-! ## Dedicated registers -/

/-- ADJSPi: the source is sign-extended and subtracted from the selected stack pointer (R427). -/
def adjspI (w len : Nat) (g : Gen) (s : State) : Except Stop State :=
  source .int w len g s fun x s => .ok (s.setSp (s.sp - x.signExtend 32))

/-- BICPSRB (R428). -/
def bicpsrB (len : Nat) (g : Gen) (s : State) : Except Stop State :=
  source .int 8 len g s fun x s => .ok (s.setUpsr (s.psr.setWidth 8 &&& ~~~x))

/-- BICPSRW, privileged (R428). -/
def bicpsrW (len : Nat) (g : Gen) (s : State) : Except Stop State := do
  privileged s
  source .int 16 len g s fun x s => .ok (s.setPsr (s.psr &&& ~~~x))

/-- BISPSRB (R429). -/
def bispsrB (len : Nat) (g : Gen) (s : State) : Except Stop State :=
  source .int 8 len g s fun x s => .ok (s.setUpsr (s.psr.setWidth 8 ||| x))

/-- BISPSRW, privileged (R429). -/
def bispsrW (len : Nat) (g : Gen) (s : State) : Except Stop State := do
  privileged s
  source .int 16 len g s fun x s => .ok (s.setPsr (s.psr ||| x))

/-- The processor registers that only Supervisor mode may name (R430). -/
def procPrivileged : ProcReg → Bool
  | .upsr | .fp | .sp | .sb | .mod => false
  | .dcr | .bpc | .dsr | .car | .usp | .cfg | .psr | .intbase => true

/-- The check of LPRi and SPRi (R431, R432). -/
def procCheck (r : ProcReg) (s : State) : Except Stop Unit :=
  if procPrivileged r then privileged s else .ok ()

/-- Loads a processor register with a w-bit value: right-justified, zero-filled, high-order bits
discarded; LPRB PSR loads only the low byte (R431). -/
def loadProc {w : Nat} (s : State) (r : ProcReg) (v : BitVec w) : State :=
  match r with
  | .upsr => s.setUpsr (v.setWidth 8)
  | .psr => if w = 8 then s.setUpsr (v.setWidth 8) else s.setPsr (v.setWidth 16)
  | .mod => { s with mod := v.setWidth 16 }
  | .cfg => s.setCfg (v.setWidth 32)
  | .fp => { s with fp := v.setWidth 32 }
  | .sb => { s with sb := v.setWidth 32 }
  | .intbase => { s with intbase := v.setWidth 32 }
  | .dcr => { s with dcr := v.setWidth 32 }
  | .bpc => { s with bpc := v.setWidth 32 }
  | .dsr => { s with dsr := v.setWidth 32 }
  | .car => { s with car := v.setWidth 32 }
  | .sp => s.setSp (v.setWidth 32)
  | .usp => { s with sp1 := v.setWidth 32 }

/-- The value of a processor register, zero-extended to 32 bits (R432). -/
def storeProc (s : State) : ProcReg → Word
  | .upsr => (s.psr.setWidth 8).setWidth 32
  | .psr => s.psr.setWidth 32
  | .mod => s.mod.setWidth 32
  | .cfg => s.cfg
  | .fp => s.fp
  | .sb => s.sb
  | .intbase => s.intbase
  | .dcr => s.dcr
  | .bpc => s.bpc
  | .dsr => s.dsr
  | .car => s.car
  | .sp => s.sp
  | .usp => s.sp1

/-- LPRi (R431). -/
def lprI (w len : Nat) (r : ProcReg) (g : Gen) (s : State) : Except Stop State := do
  procCheck r s
  source .int w len g s fun x s => .ok (loadProc s r x)

/-- SPRi: the register is read before a push changes the stack pointer (R432). -/
def sprI (w len : Nat) (r : ProcReg) (g : Gen) (s : State) : Except Stop State := do
  procCheck r s
  store .int w len g s fun s => { value := (storeProc s r).setWidth w, state := s }

/-- SETCFG, privileged: the four low bits are loaded, the others cleared but for bits 7:4 (R433). -/
def setcfg (len : Nat) (k : BitVec 4) (s : State) : Except Stop State := do
  privileged s
  .ok ((s.setCfg (k.setWidth 32)).advance len)

/-! ## Miscellaneous -/

/-- NOP (R434). -/
def nop (len : Nat) (s : State) : Except Stop State := .ok (s.advance len)

/-- WAIT: PC advances and the machine waits (R435, D9; log 23). -/
def wait (len : Nat) (s : State) : Except Stop State := .ok { s.advance len with waiting := true }

/-- DIA: a branch to itself (R436). -/
def dia (s : State) : Except Stop State := .ok (s.jump s.pc)

/-- CINV, privileged: the source is read; the caches are not state (R104, R440, D8; log 24). -/
def cinv (len : Nat) (g : Gen) (s : State) : Except Stop State := do
  privileged s
  source .int 32 len g s fun _ s => .ok s

/-! ## The meanings -/

/-- SAVE (R423). -/
def execSave (l : BitVec 8) (s : State) : Host.Outcome State Fault Refusal :=
  conclude s (save (lenOf 1 [] [.imm l]) l s)

/-- RESTORE (R424). -/
def execRestore (l : BitVec 8) (s : State) : Host.Outcome State Fault Refusal :=
  conclude s (restore (lenOf 1 [] [.imm l]) l s)

/-- ENTER (R425). -/
def execEnter (l : BitVec 8) (d : Disp) (s : State) : Host.Outcome State Fault Refusal :=
  conclude s (enter (lenOf 1 [] [.imm l, .disp d]) l d s)

/-- EXIT (R426). -/
def execExit (l : BitVec 8) (s : State) : Host.Outcome State Fault Refusal :=
  conclude s (exit (lenOf 1 [] [.imm l]) l s)

/-- NOP (R434). -/
def execNop (s : State) : Host.Outcome State Fault Refusal :=
  conclude s (nop 1 s)

/-- WAIT (R435). -/
def execWait (s : State) : Host.Outcome State Fault Refusal :=
  conclude s (wait 1 s)

/-- DIA (R436). -/
def execDia (s : State) : Host.Outcome State Fault Refusal :=
  conclude s (dia s)

/-- SPRB (R432). -/
def execSprb (r : ProcReg) (g : Gen) (s : State) : Host.Outcome State Fault Refusal :=
  conclude s (sprI 8 (lenOf 2 [g] []) r g s)

/-- SPRW (R432). -/
def execSprw (r : ProcReg) (g : Gen) (s : State) : Host.Outcome State Fault Refusal :=
  conclude s (sprI 16 (lenOf 2 [g] []) r g s)

/-- SPRD (R432). -/
def execSprd (r : ProcReg) (g : Gen) (s : State) : Host.Outcome State Fault Refusal :=
  conclude s (sprI 32 (lenOf 2 [g] []) r g s)

/-- LPRB (R431). -/
def execLprb (r : ProcReg) (g : Gen) (s : State) : Host.Outcome State Fault Refusal :=
  conclude s (lprI 8 (lenOf 2 [g] []) r g s)

/-- LPRW (R431). -/
def execLprw (r : ProcReg) (g : Gen) (s : State) : Host.Outcome State Fault Refusal :=
  conclude s (lprI 16 (lenOf 2 [g] []) r g s)

/-- LPRD (R431). -/
def execLprd (r : ProcReg) (g : Gen) (s : State) : Host.Outcome State Fault Refusal :=
  conclude s (lprI 32 (lenOf 2 [g] []) r g s)

/-- BICPSRB (R428). -/
def execBicpsrb (g : Gen) (s : State) : Host.Outcome State Fault Refusal :=
  conclude s (bicpsrB (lenOf 2 [g] []) g s)

/-- BICPSRW (R428). -/
def execBicpsrw (g : Gen) (s : State) : Host.Outcome State Fault Refusal :=
  conclude s (bicpsrW (lenOf 2 [g] []) g s)

/-- BISPSRB (R429). -/
def execBispsrb (g : Gen) (s : State) : Host.Outcome State Fault Refusal :=
  conclude s (bispsrB (lenOf 2 [g] []) g s)

/-- BISPSRW (R429). -/
def execBispsrw (g : Gen) (s : State) : Host.Outcome State Fault Refusal :=
  conclude s (bispsrW (lenOf 2 [g] []) g s)

/-- ADJSPB (R427). -/
def execAdjspb (g : Gen) (s : State) : Host.Outcome State Fault Refusal :=
  conclude s (adjspI 8 (lenOf 2 [g] []) g s)

/-- ADJSPW (R427). -/
def execAdjspw (g : Gen) (s : State) : Host.Outcome State Fault Refusal :=
  conclude s (adjspI 16 (lenOf 2 [g] []) g s)

/-- ADJSPD (R427). -/
def execAdjspd (g : Gen) (s : State) : Host.Outcome State Fault Refusal :=
  conclude s (adjspI 32 (lenOf 2 [g] []) g s)

/-- ADDR (R421). -/
def execAddr (a : Gen) (b : Gen) (s : State) : Host.Outcome State Fault Refusal :=
  conclude s (addrI (lenOf 2 [a, b] []) a b s)

/-- SETCFG (R433). -/
def execSetcfg (k : BitVec 4) (s : State) : Host.Outcome State Fault Refusal :=
  conclude s (setcfg 3 k s)

/-- CINV (R440). -/
def execCinv (g : Gen) (s : State) : Host.Outcome State Fault Refusal :=
  conclude s (cinv (lenOf 3 [g] []) g s)

end Sys2Proof.Machine
end

