-- ==== Sys2Proof/Machine/StringBlock.lean ====
section
/-! DEFINITION. String, block and array instructions (`spec/45_string_block_array.md`, R350 to
R372). -/

namespace Sys2Proof.Machine

/-! ## Strings -/

/-- The three string operations (R350). -/
inductive StringKind where
  | movs | cmps | skps
  deriving DecidableEq, Repr

/-- A string instruction terminates: PC passes it (R354). Its basic instruction is the whole of it. -/
def terminate (s : State) (f : Bool) : State := (s.setF f).advance 3

/-- Whether the Until or While condition ends the instruction at an element (R351, R354 step 4). -/
def matchEnds {w : Nat} (u : Until) (x r4 : BitVec w) : Bool :=
  match u with
  | .none => false
  | .untilMatch => x == r4
  | .whileMatch => x != r4

/-- Whether the limit count ends the instruction (R353). With a negative R0 the number of elements
processed is undefined: a free value decides at each element (U20). What R0 and F hold when it ends
the instruction is not stated: the model leaves R0 at its old value less the elements done, not at the
0 of R353's limit row, and clears F. DESIGN CHOICE, unsafe: log 36. -/
def limitReached (s : State) : Bool × State :=
  if s.reg 0 = 0 then (true, s)
  else if (s.reg 0).msb then
    let (v, s) := s.draw 1
    (v == 1, s)
  else (false, s)

/-- Steps 6 and 7 of R354: the addresses move on and the count goes down; PC stays at the instruction
and an interrupt may be accepted before the next element (R352). -/
def nextElement (w : Nat) (kind : StringKind) (back : Bool) (s : State) : State :=
  let n : Word := BitVec.ofNat 32 (w / 8)
  let d := if back then 0 - n else n
  let s := s.setReg 1 (s.reg 1 + d)
  let s := if kind = .skps then s else s.setReg 2 (s.reg 2 + d)
  { s.setReg 0 (s.reg 0 - 1) with boundary := .element }

/-- One element of a string instruction, or its termination (R350 to R354). `t` is the Translation
option. With a negative R0, what is left in R0 and F at the end is the model's choice (log 36). -/
def stringElement (kind : StringKind) (w : Nat) (u : Until) (back t : Bool) (s : State) :
    Except Stop State := do
  let s := if kind = .cmps then s.setZNL true false false else s
  let (ended, s) := limitReached s
  if ended then .ok (terminate s false)
  else
    let x ← s.read w (s.reg 1)
    let x ← if t then s.read w (s.reg 3 + x.setWidth 32) else .ok x
    if matchEnds u x ((s.reg 4).setWidth w) then .ok (terminate s true)
    else
      match kind with
      | .movs =>
        let s ← s.write (s.reg 2) x
        .ok (nextElement w kind back s)
      | .cmps =>
        let y ← s.read w (s.reg 2)
        let s := s.compareFlags x y
        if x == y then .ok (nextElement w kind back s) else .ok (terminate s false)
      | .skps => .ok (nextElement w kind back s)

/-! ## Blocks -/

/-- The number of elements of a block instruction: disp/n + 1. A length that no element count gives
is undefined, and the count is then a free value (R365, U23; log 37). -/
def blockCount (n : Nat) (d : Disp) (s : State) : Nat × State :=
  let v := (dispValue d).toInt
  if 0 ≤ v ∧ v.toNat % n = 0 ∧ v.toNat + n ≤ 16 then (v.toNat / n + 1, s)
  else
    let (c, s) := s.draw 32
    (c.toNat, s)

/-- Whether two blocks of `len` bytes share a byte (R365). -/
def blocksOverlap (a b : Word) (len : Nat) : Bool :=
  decide ((b - a).toNat < len) || decide ((a - b).toNat < len)

/-- Copies elements; where the blocks overlap what is written is a free value (R366, U24;
log 38). -/
def moveElements (w : Nat) (free : Bool) : Nat → Word → Word → State → Except Stop State
  | 0, _, _, s => .ok s
  | k + 1, a1, a2, s => do
    let x ← s.read w a1
    let (x, s) := if free then s.draw w else (x, s)
    let s ← s.write a2 x
    moveElements w free k (a1 + BitVec.ofNat 32 (w / 8)) (a2 + BitVec.ofNat 32 (w / 8)) s

/-- MOVMi (R366). -/
def movmI (w len : Nat) (a b : Gen) (d : Disp) (s : State) : Except Stop State := do
  let spi := s.sp
  let a1 ← genAddr spi s a
  let a2 ← genAddr spi s b
  let (k, s) := blockCount (w / 8) d s
  let s ← moveElements w (blocksOverlap a1 a2 (k * (w / 8))) k a1 a2 s
  .ok (s.advance len)

/-- Compares elements up to the first unequal pair (R367). -/
def compareElements (w : Nat) : Nat → Word → Word → State → Except Stop State
  | 0, _, _, s => .ok (s.setZNL true false false)
  | k + 1, a1, a2, s => do
    let x ← s.read w a1
    let y ← s.read w a2
    if x == y then
      compareElements w k (a1 + BitVec.ofNat 32 (w / 8)) (a2 + BitVec.ofNat 32 (w / 8)) s
    else .ok (s.compareFlags x y)

/-- CMPMi (R367). -/
def cmpmI (w len : Nat) (a b : Gen) (d : Disp) (s : State) : Except Stop State := do
  let spi := s.sp
  let a1 ← genAddr spi s a
  let a2 ← genAddr spi s b
  let (k, s) := blockCount (w / 8) d s
  let s ← compareElements w k a1 a2 s
  .ok (s.advance len)

/-! ## Arrays -/

/-- CHECKi: F is set if the source is out of bounds, and the register is then a free value; in bounds
it becomes the zero-adjusted difference (R371, U25; log 39). The address of the bounds is computed
before the source is read (log 51). -/
def checkI (w len : Nat) (r : Reg) (a b : Gen) (s : State) : Except Stop State := do
  let spi := s.sp
  let ea ← genAddr spi s a
  let (x, s) ← readGen .int w spi b s
  let up ← s.read w ea
  let lo ← s.read w (ea + BitVec.ofNat 32 (w / 8))
  let out := decide (up.toInt < x.toInt) || decide (x.toInt < lo.toInt)
  let s := s.setF out
  if out then
    let (v, s) := s.draw 32
    ovfTrap true ((s.setReg r v).advance len)
  else .ok ((s.setReg r ((x - lo).setWidth 32)).advance len)

/-- INDEXi: accum * (length + 1) + index, modulo 2^32 (R372, D6; log 5). -/
def indexI (w len : Nat) (r : Reg) (a b : Gen) (s : State) : Except Stop State :=
  sources .int .int w w len a b s fun x y s =>
    .ok (s.setReg r (s.reg r * (x.setWidth 32 + 1) + y.setWidth 32))

/-! ## The meanings -/

/-- MOVSB (R355). -/
def execMovsb (u : Until) (bk : Bool) (s : State) : Host.Outcome State Fault Refusal :=
  conclude s (stringElement .movs 8 u bk false s)

/-- MOVSW (R355). -/
def execMovsw (u : Until) (bk : Bool) (s : State) : Host.Outcome State Fault Refusal :=
  conclude s (stringElement .movs 16 u bk false s)

/-- MOVSD (R355). -/
def execMovsd (u : Until) (bk : Bool) (s : State) : Host.Outcome State Fault Refusal :=
  conclude s (stringElement .movs 32 u bk false s)

/-- MOVST (R356). -/
def execMovst (u : Until) (bk : Bool) (s : State) : Host.Outcome State Fault Refusal :=
  conclude s (stringElement .movs 8 u bk true s)

/-- CMPSB (R357). -/
def execCmpsb (u : Until) (bk : Bool) (s : State) : Host.Outcome State Fault Refusal :=
  conclude s (stringElement .cmps 8 u bk false s)

/-- CMPSW (R357). -/
def execCmpsw (u : Until) (bk : Bool) (s : State) : Host.Outcome State Fault Refusal :=
  conclude s (stringElement .cmps 16 u bk false s)

/-- CMPSD (R357). -/
def execCmpsd (u : Until) (bk : Bool) (s : State) : Host.Outcome State Fault Refusal :=
  conclude s (stringElement .cmps 32 u bk false s)

/-- CMPST (R358). -/
def execCmpst (u : Until) (bk : Bool) (s : State) : Host.Outcome State Fault Refusal :=
  conclude s (stringElement .cmps 8 u bk true s)

/-- SKPSB (R359). -/
def execSkpsb (u : Until) (bk : Bool) (s : State) : Host.Outcome State Fault Refusal :=
  conclude s (stringElement .skps 8 u bk false s)

/-- SKPSW (R359). -/
def execSkpsw (u : Until) (bk : Bool) (s : State) : Host.Outcome State Fault Refusal :=
  conclude s (stringElement .skps 16 u bk false s)

/-- SKPSD (R359). -/
def execSkpsd (u : Until) (bk : Bool) (s : State) : Host.Outcome State Fault Refusal :=
  conclude s (stringElement .skps 32 u bk false s)

/-- SKPST (R360). -/
def execSkpst (u : Until) (bk : Bool) (s : State) : Host.Outcome State Fault Refusal :=
  conclude s (stringElement .skps 8 u bk true s)

/-- MOVMB (R366). -/
def execMovmb (a : Gen) (b : Gen) (d : Disp) (s : State) : Host.Outcome State Fault Refusal :=
  conclude s (movmI 8 (lenOf 3 [a, b] [.disp d]) a b d s)

/-- MOVMW (R366). -/
def execMovmw (a : Gen) (b : Gen) (d : Disp) (s : State) : Host.Outcome State Fault Refusal :=
  conclude s (movmI 16 (lenOf 3 [a, b] [.disp d]) a b d s)

/-- MOVMD (R366). -/
def execMovmd (a : Gen) (b : Gen) (d : Disp) (s : State) : Host.Outcome State Fault Refusal :=
  conclude s (movmI 32 (lenOf 3 [a, b] [.disp d]) a b d s)

/-- CMPMB (R367). -/
def execCmpmb (a : Gen) (b : Gen) (d : Disp) (s : State) : Host.Outcome State Fault Refusal :=
  conclude s (cmpmI 8 (lenOf 3 [a, b] [.disp d]) a b d s)

/-- CMPMW (R367). -/
def execCmpmw (a : Gen) (b : Gen) (d : Disp) (s : State) : Host.Outcome State Fault Refusal :=
  conclude s (cmpmI 16 (lenOf 3 [a, b] [.disp d]) a b d s)

/-- CMPMD (R367). -/
def execCmpmd (a : Gen) (b : Gen) (d : Disp) (s : State) : Host.Outcome State Fault Refusal :=
  conclude s (cmpmI 32 (lenOf 3 [a, b] [.disp d]) a b d s)

/-- CHECKB (R371). -/
def execCheckb (r : Reg) (a : Gen) (b : Gen) (s : State) : Host.Outcome State Fault Refusal :=
  conclude s (checkI 8 (lenOf 3 [a, b] []) r a b s)

/-- CHECKW (R371). -/
def execCheckw (r : Reg) (a : Gen) (b : Gen) (s : State) : Host.Outcome State Fault Refusal :=
  conclude s (checkI 16 (lenOf 3 [a, b] []) r a b s)

/-- CHECKD (R371). -/
def execCheckd (r : Reg) (a : Gen) (b : Gen) (s : State) : Host.Outcome State Fault Refusal :=
  conclude s (checkI 32 (lenOf 3 [a, b] []) r a b s)

/-- INDEXB (R372). -/
def execIndexb (r : Reg) (a : Gen) (b : Gen) (s : State) : Host.Outcome State Fault Refusal :=
  conclude s (indexI 8 (lenOf 3 [a, b] []) r a b s)

/-- INDEXW (R372). -/
def execIndexw (r : Reg) (a : Gen) (b : Gen) (s : State) : Host.Outcome State Fault Refusal :=
  conclude s (indexI 16 (lenOf 3 [a, b] []) r a b s)

/-- INDEXD (R372). -/
def execIndexd (r : Reg) (a : Gen) (b : Gen) (s : State) : Host.Outcome State Fault Refusal :=
  conclude s (indexI 32 (lenOf 3 [a, b] []) r a b s)

end Sys2Proof.Machine
end

