-- ==== Sys2Proof/Machine/Dispatch.lean ====
section
/-! DEFINITION. `exec`: one arm per instruction, each one call of its meaning. -/

namespace Sys2Proof.Machine

def exec (i : Instr) (s : State) : Host.Outcome State Fault Refusal :=
  match i with
  | .beq d => Sys2Proof.Machine.execBeq d s
  | .bne d => Sys2Proof.Machine.execBne d s
  | .bcs d => Sys2Proof.Machine.execBcs d s
  | .bcc d => Sys2Proof.Machine.execBcc d s
  | .bhi d => Sys2Proof.Machine.execBhi d s
  | .bls d => Sys2Proof.Machine.execBls d s
  | .bgt d => Sys2Proof.Machine.execBgt d s
  | .ble d => Sys2Proof.Machine.execBle d s
  | .bfs d => Sys2Proof.Machine.execBfs d s
  | .bfc d => Sys2Proof.Machine.execBfc d s
  | .blo d => Sys2Proof.Machine.execBlo d s
  | .bhs d => Sys2Proof.Machine.execBhs d s
  | .blt d => Sys2Proof.Machine.execBlt d s
  | .bge d => Sys2Proof.Machine.execBge d s
  | .br d => Sys2Proof.Machine.execBr d s
  | .bsr d => Sys2Proof.Machine.execBsr d s
  | .ret d => Sys2Proof.Machine.execRet d s
  | .cxp d => Sys2Proof.Machine.execCxp d s
  | .rxp d => Sys2Proof.Machine.execRxp d s
  | .rett d => Sys2Proof.Machine.execRett d s
  | .reti => Sys2Proof.Machine.execReti s
  | .save l => Sys2Proof.Machine.execSave l s
  | .restore l => Sys2Proof.Machine.execRestore l s
  | .enter l d => Sys2Proof.Machine.execEnter l d s
  | .exit l => Sys2Proof.Machine.execExit l s
  | .nop => Sys2Proof.Machine.execNop s
  | .wait => Sys2Proof.Machine.execWait s
  | .dia => Sys2Proof.Machine.execDia s
  | .flag => Sys2Proof.Machine.execFlag s
  | .svc => Sys2Proof.Machine.execSvc s
  | .bpt => Sys2Proof.Machine.execBpt s
  | .addqb q g => Sys2Proof.Machine.execAddqb q g s
  | .addqw q g => Sys2Proof.Machine.execAddqw q g s
  | .addqd q g => Sys2Proof.Machine.execAddqd q g s
  | .cmpqb q g => Sys2Proof.Machine.execCmpqb q g s
  | .cmpqw q g => Sys2Proof.Machine.execCmpqw q g s
  | .cmpqd q g => Sys2Proof.Machine.execCmpqd q g s
  | .sprb r g => Sys2Proof.Machine.execSprb r g s
  | .sprw r g => Sys2Proof.Machine.execSprw r g s
  | .sprd r g => Sys2Proof.Machine.execSprd r g s
  | .seqb g => Sys2Proof.Machine.execSeqb g s
  | .sneb g => Sys2Proof.Machine.execSneb g s
  | .scsb g => Sys2Proof.Machine.execScsb g s
  | .sccb g => Sys2Proof.Machine.execSccb g s
  | .shib g => Sys2Proof.Machine.execShib g s
  | .slsb g => Sys2Proof.Machine.execSlsb g s
  | .sgtb g => Sys2Proof.Machine.execSgtb g s
  | .sleb g => Sys2Proof.Machine.execSleb g s
  | .sfsb g => Sys2Proof.Machine.execSfsb g s
  | .sfcb g => Sys2Proof.Machine.execSfcb g s
  | .slob g => Sys2Proof.Machine.execSlob g s
  | .shsb g => Sys2Proof.Machine.execShsb g s
  | .sltb g => Sys2Proof.Machine.execSltb g s
  | .sgeb g => Sys2Proof.Machine.execSgeb g s
  | .seqw g => Sys2Proof.Machine.execSeqw g s
  | .snew g => Sys2Proof.Machine.execSnew g s
  | .scsw g => Sys2Proof.Machine.execScsw g s
  | .sccw g => Sys2Proof.Machine.execSccw g s
  | .shiw g => Sys2Proof.Machine.execShiw g s
  | .slsw g => Sys2Proof.Machine.execSlsw g s
  | .sgtw g => Sys2Proof.Machine.execSgtw g s
  | .slew g => Sys2Proof.Machine.execSlew g s
  | .sfsw g => Sys2Proof.Machine.execSfsw g s
  | .sfcw g => Sys2Proof.Machine.execSfcw g s
  | .slow g => Sys2Proof.Machine.execSlow g s
  | .shsw g => Sys2Proof.Machine.execShsw g s
  | .sltw g => Sys2Proof.Machine.execSltw g s
  | .sgew g => Sys2Proof.Machine.execSgew g s
  | .seqd g => Sys2Proof.Machine.execSeqd g s
  | .sned g => Sys2Proof.Machine.execSned g s
  | .scsd g => Sys2Proof.Machine.execScsd g s
  | .sccd g => Sys2Proof.Machine.execSccd g s
  | .shid g => Sys2Proof.Machine.execShid g s
  | .slsd g => Sys2Proof.Machine.execSlsd g s
  | .sgtd g => Sys2Proof.Machine.execSgtd g s
  | .sled g => Sys2Proof.Machine.execSled g s
  | .sfsd g => Sys2Proof.Machine.execSfsd g s
  | .sfcd g => Sys2Proof.Machine.execSfcd g s
  | .slod g => Sys2Proof.Machine.execSlod g s
  | .shsd g => Sys2Proof.Machine.execShsd g s
  | .sltd g => Sys2Proof.Machine.execSltd g s
  | .sged g => Sys2Proof.Machine.execSged g s
  | .acbb q g d => Sys2Proof.Machine.execAcbb q g d s
  | .acbw q g d => Sys2Proof.Machine.execAcbw q g d s
  | .acbd q g d => Sys2Proof.Machine.execAcbd q g d s
  | .movqb q g => Sys2Proof.Machine.execMovqb q g s
  | .movqw q g => Sys2Proof.Machine.execMovqw q g s
  | .movqd q g => Sys2Proof.Machine.execMovqd q g s
  | .lprb r g => Sys2Proof.Machine.execLprb r g s
  | .lprw r g => Sys2Proof.Machine.execLprw r g s
  | .lprd r g => Sys2Proof.Machine.execLprd r g s
  | .cxpd g => Sys2Proof.Machine.execCxpd g s
  | .bicpsrb g => Sys2Proof.Machine.execBicpsrb g s
  | .bicpsrw g => Sys2Proof.Machine.execBicpsrw g s
  | .jump g => Sys2Proof.Machine.execJump g s
  | .bispsrb g => Sys2Proof.Machine.execBispsrb g s
  | .bispsrw g => Sys2Proof.Machine.execBispsrw g s
  | .adjspb g => Sys2Proof.Machine.execAdjspb g s
  | .adjspw g => Sys2Proof.Machine.execAdjspw g s
  | .adjspd g => Sys2Proof.Machine.execAdjspd g s
  | .jsr g => Sys2Proof.Machine.execJsr g s
  | .caseb g => Sys2Proof.Machine.execCaseb g s
  | .casew g => Sys2Proof.Machine.execCasew g s
  | .cased g => Sys2Proof.Machine.execCased g s
  | .addb a b => Sys2Proof.Machine.execAddb a b s
  | .addw a b => Sys2Proof.Machine.execAddw a b s
  | .addd a b => Sys2Proof.Machine.execAddd a b s
  | .cmpb a b => Sys2Proof.Machine.execCmpb a b s
  | .cmpw a b => Sys2Proof.Machine.execCmpw a b s
  | .cmpd a b => Sys2Proof.Machine.execCmpd a b s
  | .bicb a b => Sys2Proof.Machine.execBicb a b s
  | .bicw a b => Sys2Proof.Machine.execBicw a b s
  | .bicd a b => Sys2Proof.Machine.execBicd a b s
  | .addcb a b => Sys2Proof.Machine.execAddcb a b s
  | .addcw a b => Sys2Proof.Machine.execAddcw a b s
  | .addcd a b => Sys2Proof.Machine.execAddcd a b s
  | .movb a b => Sys2Proof.Machine.execMovb a b s
  | .movw a b => Sys2Proof.Machine.execMovw a b s
  | .movd a b => Sys2Proof.Machine.execMovd a b s
  | .orb a b => Sys2Proof.Machine.execOrb a b s
  | .orw a b => Sys2Proof.Machine.execOrw a b s
  | .ord a b => Sys2Proof.Machine.execOrd a b s
  | .subb a b => Sys2Proof.Machine.execSubb a b s
  | .subw a b => Sys2Proof.Machine.execSubw a b s
  | .subd a b => Sys2Proof.Machine.execSubd a b s
  | .addr a b => Sys2Proof.Machine.execAddr a b s
  | .andb a b => Sys2Proof.Machine.execAndb a b s
  | .andw a b => Sys2Proof.Machine.execAndw a b s
  | .andd a b => Sys2Proof.Machine.execAndd a b s
  | .subcb a b => Sys2Proof.Machine.execSubcb a b s
  | .subcw a b => Sys2Proof.Machine.execSubcw a b s
  | .subcd a b => Sys2Proof.Machine.execSubcd a b s
  | .tbitb a b => Sys2Proof.Machine.execTbitb a b s
  | .tbitw a b => Sys2Proof.Machine.execTbitw a b s
  | .tbitd a b => Sys2Proof.Machine.execTbitd a b s
  | .xorb a b => Sys2Proof.Machine.execXorb a b s
  | .xorw a b => Sys2Proof.Machine.execXorw a b s
  | .xord a b => Sys2Proof.Machine.execXord a b s
  | .movsb u bk => Sys2Proof.Machine.execMovsb u bk s
  | .movsw u bk => Sys2Proof.Machine.execMovsw u bk s
  | .movsd u bk => Sys2Proof.Machine.execMovsd u bk s
  | .movst u bk => Sys2Proof.Machine.execMovst u bk s
  | .cmpsb u bk => Sys2Proof.Machine.execCmpsb u bk s
  | .cmpsw u bk => Sys2Proof.Machine.execCmpsw u bk s
  | .cmpsd u bk => Sys2Proof.Machine.execCmpsd u bk s
  | .cmpst u bk => Sys2Proof.Machine.execCmpst u bk s
  | .skpsb u bk => Sys2Proof.Machine.execSkpsb u bk s
  | .skpsw u bk => Sys2Proof.Machine.execSkpsw u bk s
  | .skpsd u bk => Sys2Proof.Machine.execSkpsd u bk s
  | .skpst u bk => Sys2Proof.Machine.execSkpst u bk s
  | .setcfg k => Sys2Proof.Machine.execSetcfg k s
  | .rotb a b => Sys2Proof.Machine.execRotb a b s
  | .rotw a b => Sys2Proof.Machine.execRotw a b s
  | .rotd a b => Sys2Proof.Machine.execRotd a b s
  | .ashb a b => Sys2Proof.Machine.execAshb a b s
  | .ashw a b => Sys2Proof.Machine.execAshw a b s
  | .ashd a b => Sys2Proof.Machine.execAshd a b s
  | .cbitb a b => Sys2Proof.Machine.execCbitb a b s
  | .cbitw a b => Sys2Proof.Machine.execCbitw a b s
  | .cbitd a b => Sys2Proof.Machine.execCbitd a b s
  | .cbitib a b => Sys2Proof.Machine.execCbitib a b s
  | .cbitiw a b => Sys2Proof.Machine.execCbitiw a b s
  | .cbitid a b => Sys2Proof.Machine.execCbitid a b s
  | .lshb a b => Sys2Proof.Machine.execLshb a b s
  | .lshw a b => Sys2Proof.Machine.execLshw a b s
  | .lshd a b => Sys2Proof.Machine.execLshd a b s
  | .sbitb a b => Sys2Proof.Machine.execSbitb a b s
  | .sbitw a b => Sys2Proof.Machine.execSbitw a b s
  | .sbitd a b => Sys2Proof.Machine.execSbitd a b s
  | .sbitib a b => Sys2Proof.Machine.execSbitib a b s
  | .sbitiw a b => Sys2Proof.Machine.execSbitiw a b s
  | .sbitid a b => Sys2Proof.Machine.execSbitid a b s
  | .negb a b => Sys2Proof.Machine.execNegb a b s
  | .negw a b => Sys2Proof.Machine.execNegw a b s
  | .negd a b => Sys2Proof.Machine.execNegd a b s
  | .notb a b => Sys2Proof.Machine.execNotb a b s
  | .notw a b => Sys2Proof.Machine.execNotw a b s
  | .notd a b => Sys2Proof.Machine.execNotd a b s
  | .subpb a b => Sys2Proof.Machine.execSubpb a b s
  | .subpw a b => Sys2Proof.Machine.execSubpw a b s
  | .subpd a b => Sys2Proof.Machine.execSubpd a b s
  | .absb a b => Sys2Proof.Machine.execAbsb a b s
  | .absw a b => Sys2Proof.Machine.execAbsw a b s
  | .absd a b => Sys2Proof.Machine.execAbsd a b s
  | .comb a b => Sys2Proof.Machine.execComb a b s
  | .comw a b => Sys2Proof.Machine.execComw a b s
  | .comd a b => Sys2Proof.Machine.execComd a b s
  | .ibitb a b => Sys2Proof.Machine.execIbitb a b s
  | .ibitw a b => Sys2Proof.Machine.execIbitw a b s
  | .ibitd a b => Sys2Proof.Machine.execIbitd a b s
  | .addpb a b => Sys2Proof.Machine.execAddpb a b s
  | .addpw a b => Sys2Proof.Machine.execAddpw a b s
  | .addpd a b => Sys2Proof.Machine.execAddpd a b s
  | .movmb a b d => Sys2Proof.Machine.execMovmb a b d s
  | .movmw a b d => Sys2Proof.Machine.execMovmw a b d s
  | .movmd a b d => Sys2Proof.Machine.execMovmd a b d s
  | .cmpmb a b d => Sys2Proof.Machine.execCmpmb a b d s
  | .cmpmw a b d => Sys2Proof.Machine.execCmpmw a b d s
  | .cmpmd a b d => Sys2Proof.Machine.execCmpmd a b d s
  | .inssb a b im => Sys2Proof.Machine.execInssb a b im s
  | .inssw a b im => Sys2Proof.Machine.execInssw a b im s
  | .inssd a b im => Sys2Proof.Machine.execInssd a b im s
  | .extsb a b im => Sys2Proof.Machine.execExtsb a b im s
  | .extsw a b im => Sys2Proof.Machine.execExtsw a b im s
  | .extsd a b im => Sys2Proof.Machine.execExtsd a b im s
  | .movxbw a b => Sys2Proof.Machine.execMovxbw a b s
  | .movzbw a b => Sys2Proof.Machine.execMovzbw a b s
  | .movzbd a b => Sys2Proof.Machine.execMovzbd a b s
  | .movzwd a b => Sys2Proof.Machine.execMovzwd a b s
  | .movxbd a b => Sys2Proof.Machine.execMovxbd a b s
  | .movxwd a b => Sys2Proof.Machine.execMovxwd a b s
  | .mulb a b => Sys2Proof.Machine.execMulb a b s
  | .mulw a b => Sys2Proof.Machine.execMulw a b s
  | .muld a b => Sys2Proof.Machine.execMuld a b s
  | .meib a b => Sys2Proof.Machine.execMeib a b s
  | .meiw a b => Sys2Proof.Machine.execMeiw a b s
  | .meid a b => Sys2Proof.Machine.execMeid a b s
  | .deib a b => Sys2Proof.Machine.execDeib a b s
  | .deiw a b => Sys2Proof.Machine.execDeiw a b s
  | .deid a b => Sys2Proof.Machine.execDeid a b s
  | .quob a b => Sys2Proof.Machine.execQuob a b s
  | .quow a b => Sys2Proof.Machine.execQuow a b s
  | .quod a b => Sys2Proof.Machine.execQuod a b s
  | .remb a b => Sys2Proof.Machine.execRemb a b s
  | .remw a b => Sys2Proof.Machine.execRemw a b s
  | .remd a b => Sys2Proof.Machine.execRemd a b s
  | .modb a b => Sys2Proof.Machine.execModb a b s
  | .modw a b => Sys2Proof.Machine.execModw a b s
  | .modd a b => Sys2Proof.Machine.execModd a b s
  | .divb a b => Sys2Proof.Machine.execDivb a b s
  | .divw a b => Sys2Proof.Machine.execDivw a b s
  | .divd a b => Sys2Proof.Machine.execDivd a b s
  | .extb r a b d => Sys2Proof.Machine.execExtb r a b d s
  | .extw r a b d => Sys2Proof.Machine.execExtw r a b d s
  | .extd r a b d => Sys2Proof.Machine.execExtd r a b d s
  | .cvtp r a b => Sys2Proof.Machine.execCvtp r a b s
  | .insb r a b d => Sys2Proof.Machine.execInsb r a b d s
  | .insw r a b d => Sys2Proof.Machine.execInsw r a b d s
  | .insd r a b d => Sys2Proof.Machine.execInsd r a b d s
  | .checkb r a b => Sys2Proof.Machine.execCheckb r a b s
  | .checkw r a b => Sys2Proof.Machine.execCheckw r a b s
  | .checkd r a b => Sys2Proof.Machine.execCheckd r a b s
  | .indexb r a b => Sys2Proof.Machine.execIndexb r a b s
  | .indexw r a b => Sys2Proof.Machine.execIndexw r a b s
  | .indexd r a b => Sys2Proof.Machine.execIndexd r a b s
  | .ffsb a b => Sys2Proof.Machine.execFfsb a b s
  | .ffsw a b => Sys2Proof.Machine.execFfsw a b s
  | .ffsd a b => Sys2Proof.Machine.execFfsd a b s
  | .movsub a b => Sys2Proof.Machine.execMovsub a b s
  | .movsuw a b => Sys2Proof.Machine.execMovsuw a b s
  | .movsud a b => Sys2Proof.Machine.execMovsud a b s
  | .movusb a b => Sys2Proof.Machine.execMovusb a b s
  | .movusw a b => Sys2Proof.Machine.execMovusw a b s
  | .movusd a b => Sys2Proof.Machine.execMovusd a b s
  | .movbf a b => Sys2Proof.Machine.execMovbf a b s
  | .movwf a b => Sys2Proof.Machine.execMovwf a b s
  | .movdf a b => Sys2Proof.Machine.execMovdf a b s
  | .movbl a b => Sys2Proof.Machine.execMovbl a b s
  | .movwl a b => Sys2Proof.Machine.execMovwl a b s
  | .movdl a b => Sys2Proof.Machine.execMovdl a b s
  | .lfsr g => Sys2Proof.Machine.execLfsr g s
  | .movlf a b => Sys2Proof.Machine.execMovlf a b s
  | .movfl a b => Sys2Proof.Machine.execMovfl a b s
  | .roundfb a b => Sys2Proof.Machine.execRoundfb a b s
  | .roundfw a b => Sys2Proof.Machine.execRoundfw a b s
  | .roundfd a b => Sys2Proof.Machine.execRoundfd a b s
  | .roundlb a b => Sys2Proof.Machine.execRoundlb a b s
  | .roundlw a b => Sys2Proof.Machine.execRoundlw a b s
  | .roundld a b => Sys2Proof.Machine.execRoundld a b s
  | .truncfb a b => Sys2Proof.Machine.execTruncfb a b s
  | .truncfw a b => Sys2Proof.Machine.execTruncfw a b s
  | .truncfd a b => Sys2Proof.Machine.execTruncfd a b s
  | .trunclb a b => Sys2Proof.Machine.execTrunclb a b s
  | .trunclw a b => Sys2Proof.Machine.execTrunclw a b s
  | .truncld a b => Sys2Proof.Machine.execTruncld a b s
  | .floorfb a b => Sys2Proof.Machine.execFloorfb a b s
  | .floorfw a b => Sys2Proof.Machine.execFloorfw a b s
  | .floorfd a b => Sys2Proof.Machine.execFloorfd a b s
  | .floorlb a b => Sys2Proof.Machine.execFloorlb a b s
  | .floorlw a b => Sys2Proof.Machine.execFloorlw a b s
  | .floorld a b => Sys2Proof.Machine.execFloorld a b s
  | .sfsr g => Sys2Proof.Machine.execSfsr g s
  | .addf a b => Sys2Proof.Machine.execAddf a b s
  | .addl a b => Sys2Proof.Machine.execAddl a b s
  | .movf a b => Sys2Proof.Machine.execMovf a b s
  | .movl a b => Sys2Proof.Machine.execMovl a b s
  | .cmpf a b => Sys2Proof.Machine.execCmpf a b s
  | .cmpl a b => Sys2Proof.Machine.execCmpl a b s
  | .subf a b => Sys2Proof.Machine.execSubf a b s
  | .subl a b => Sys2Proof.Machine.execSubl a b s
  | .negf a b => Sys2Proof.Machine.execNegf a b s
  | .negl a b => Sys2Proof.Machine.execNegl a b s
  | .divf a b => Sys2Proof.Machine.execDivf a b s
  | .divl a b => Sys2Proof.Machine.execDivl a b s
  | .mulf a b => Sys2Proof.Machine.execMulf a b s
  | .mull a b => Sys2Proof.Machine.execMull a b s
  | .absf a b => Sys2Proof.Machine.execAbsf a b s
  | .absl a b => Sys2Proof.Machine.execAbsl a b s
  | .polyf a b => Sys2Proof.Machine.execPolyf a b s
  | .polyl a b => Sys2Proof.Machine.execPolyl a b s
  | .dotf a b => Sys2Proof.Machine.execDotf a b s
  | .dotl a b => Sys2Proof.Machine.execDotl a b s
  | .scalbf a b => Sys2Proof.Machine.execScalbf a b s
  | .scalbl a b => Sys2Proof.Machine.execScalbl a b s
  | .logbf a b => Sys2Proof.Machine.execLogbf a b s
  | .logbl a b => Sys2Proof.Machine.execLogbl a b s
  | .illegalFp0011 _ _ _ => Sys2Proof.Machine.execIllegalFp0011 s
  | .illegalFp1001 _ _ _ => Sys2Proof.Machine.execIllegalFp1001 s
  | .rdval g => Sys2Proof.Machine.execRdval g s
  | .wrval g => Sys2Proof.Machine.execWrval g s
  | .lmr r g => Sys2Proof.Machine.execLmr r g s
  | .smr r g => Sys2Proof.Machine.execSmr r g s
  | .cinv _ _ _ g => Sys2Proof.Machine.execCinv g s
  | .custom16 => Sys2Proof.Machine.execCustom16 s
  | .custom36 => Sys2Proof.Machine.execCustom36 s
  | .customB6 => Sys2Proof.Machine.execCustomB6 s

end Sys2Proof.Machine
end

