-- ==== Sys2Proof/Machine/Fetch.lean ====
section
/-! DEFINITION. Fetching an instruction, accepting interrupts, and what happens between instructions:
everything of a step but `exec` itself (R99, R504, R520 to R530). -/

namespace Sys2Proof.Machine

/-! ## Fetching -/

/-- The bytes that a fetch of `n` bytes delivers before translation refuses one, and the address it
refuses, if any (R85, R99). -/
def fetchBytes (s : State) : Nat → Word → List Byte × Option Word
  | 0, _ => ([], none)
  | n + 1, a =>
    match s.readByte .fetch s.flagU a with
    | .error _ => ([], some a)
    | .ok b =>
      let r := fetchBytes s n (a + 1)
      (b :: r.1, r.2)

/-- Whether the bytes fetched are those of no instruction, whatever bytes come after them. `b` is the
next byte; zeros after it complete every index byte, displacement and immediate (R143 to R148). -/
noncomputable def undefinedWhatever (bs : List Byte) : Bool :=
  (List.range 256).all fun b =>
    match decode (bs ++ BitVec.ofNat 8 b :: List.replicate maxLength 0) with
    | .ok _ => false
    | .error _ => true

/-- Whether the opcode bytes are those of an instruction that User mode may not execute: RETT, LPRi and
SPRi of a protected register, BICPSRW and BISPSRW, SETCFG, CINV, the memory-management instructions,
MOVSUi and MOVUSi (R503; log 19). RETI and 0x16 have no bytes after these. -/
def privilegedOpcode (bs : List Byte) : Bool :=
  let b0 := (bs.head?.getD 0).toNat
  let b1 := ((bs[1]?).getD 0).toNat
  let w := b0 + 256 * b1
  let op := b1 / 4 % 16
  b0 == 0x42 || decide (2 ≤ bs.length) &&
    (decide (w % 16 / 4 = 3 ∧ w % 4 ≠ 2 ∧ (w / 16 % 8 = 2 ∨ w / 16 % 8 = 6) ∧
        w / 128 % 16 ∈ [1, 2, 3, 4, 11, 12, 13, 14]) ||
      decide (w / 4 % 32 = 31 ∧ w % 4 = 1 ∧ (w / 128 % 16 = 2 ∨ w / 128 % 16 = 6)) ||
      b0 == 0x0E && op == 2 ||
      b0 == 0x1E && decide (op ∈ [0, 1, 2, 3, 9]) ||
      b0 == 0xAE && op % 2 == 1)

/-- The trap that the opcode bytes alone call for, where a byte after them cannot be fetched: Illegal
Operation before Undefined Instruction, and both before Abort (R503, R504, R524). Where a byte that the
spec's checks do not need is missing, which trap comes first is the model's. DESIGN CHOICE, unsafe:
log 19. -/
noncomputable def opcodeStop (s : State) (bs : List Byte) : Option Stop :=
  let b0 := (bs.head?.getD 0).toNat
  let op := ((bs[1]?).getD 0).toNat / 4 % 16
  if undefinedWhatever bs then some undefinedStop
  else if s.flagU && privilegedOpcode bs then some (.trap .ill)
  else if (b0 == 0x3E || b0 == 0xBE || b0 == 0xFE) && !s.cfgF then some (.trap .und)
  else if b0 == 0x1E && decide (2 ≤ bs.length ∧ op < 4) && !s.cfgM then some (.trap .und)
  else none

/-- The instruction at PC, or why there is none: an undefined encoding comes to what
`UndefinedEncoding` says (D12, log 18), and an instruction that runs into a byte whose fetch is refused
aborts there, unless its opcode bytes call for a trap (R505, R524; log 19). -/
noncomputable def fetchDecode (s : State) : Except Stop Instr :=
  let r := fetchBytes s maxLength s.pc
  match decode r.1 with
  | .ok (i, _) => .ok i
  | .error .truncated =>
    match opcodeStop s r.1, r.2 with
    | some e, _ => .error e
    | none, some va => .error (.abort va)
    | none, none => .error undefinedStop
  | .error _ => .error undefinedStop

/-! ## Between instructions -/

/-- Non-Maskable interrupt entry: a byte is read at 0xFFFFFF00 and not used (R522). Where translation
refuses the read the machine is in EntryFault, and the request is still pending (R513; log 13). -/
def takeNmi (s : State) (image : BitVec 16) : Host.Outcome State Fault Refusal :=
  match s.readByte .read false 0xFFFFFF00 with
  | .error _ => .next s.failEntry
  | .ok _ => takeException { s with nmiPending := false } Config.vecNmi s.pc true image

/-- Maskable interrupt entry: a byte is read at 0xFFFFFE00, and is the dispatch entry if CFG.I = 1
(R521). Where translation refuses the read the machine is in EntryFault (R513; log 13). -/
def takeInt (s : State) (image : BitVec 16) : Host.Outcome State Fault Refusal :=
  match s.readByte .read false 0xFFFFFE00 with
  | .error _ => .next s.failEntry
  | .ok b => takeException s (if s.cfgI then b.toNat else Config.vecNvi) s.pc true image

/-- Accepts a pending interrupt, NMI first (R524 lines 4 and 5), or goes on as `otherwise` says. -/
def acceptInterrupt (s : State) (image : BitVec 16)
    (otherwise : Host.Outcome State Fault Refusal) : Host.Outcome State Fault Refusal :=
  if s.nmiPending then takeNmi s image
  else if s.intRequest && s.flagI then takeInt s image
  else otherwise

/-- What the boundary after an execution takes (R523, R524, R530; log 16, log 17): nothing after a
trap; interrupts, with an image whose P is cleared, after a string element; interrupts and then the
trace trap after a completed instruction. -/
def atBoundary (s : State) : Host.Outcome State Fault Refusal :=
  match s.boundary with
  | .trapped => .next s
  | .element => acceptInterrupt s (imageNoP s.psr) (.next s)
  | .done =>
    acceptInterrupt s s.psr
      (if s.flagP then takeException s Config.vecTrc s.pc false (imageNoP s.psr) else .next s)

/-- PSR.P is loaded from PSR.T at the start of an instruction (R530; log 16). -/
def latchTrace (s : State) : State := s.setFlag 10 s.flagT

/-- A step while Waiting: an interrupt is accepted, or nothing happens (R435, R523 c). -/
def idle (s : State) : Host.Outcome State Fault Refusal := acceptInterrupt s s.psr (.next s)

/-- The Reset event (R560): the state after reset, keeping memory and what belongs to the host
(log 49). -/
def resetEvent (s : State) : State :=
  { State.reset with
    mem := s.mem, xlate := s.xlate, intRequest := s.intRequest, eoiEvents := s.eoiEvents
    freeCount := s.freeCount }

/-- Writes bytes into memory where fetches at consecutive addresses find them; a byte whose fetch
translation refuses stays as it was. -/
def placeBytes : List Byte → Word → State → State
  | [], _, s => s
  | b :: bs, a, s =>
    placeBytes bs (a + 1)
      (match s.translate .fetch s.flagU a with
      | some pa => { s with mem := s.mem.set pa.toNat b }
      | none => s)

end Sys2Proof.Machine
end

