-- ==== Sys2Proof/Machine/Step.lean ====
section
/-! DEFINITION. One step of the machine, and where a program's next instruction is placed. -/

namespace Sys2Proof.Machine

/-- What an execution is followed by: the boundary of R523 and R524, unless the machine stopped. -/
def settle : Host.Outcome State Fault Refusal → Host.Outcome State Fault Refusal
  | .next s => atBoundary s
  | .fault r => .fault r
  | .refused r => .refused r

/-- One step: a Reset that is asserted, a wait, or one instruction (one element of a string
instruction) followed by what its boundary takes (R352, R435, R523, R560). In EntryFault there is no
step but Reset (R513, R560; log 13). -/
noncomputable def step (s : State) : Host.Outcome State Fault Refusal :=
  if s.resetRequest then .next (resetEvent s)
  else if s.waiting then idle s
  else if s.entryFault then .fault .entryFault
  else
    let s := latchTrace s
    settle (match fetchDecode s with
      | .ok i => exec i s
      | .error e => conclude s (.error e))

/-- The state with the instruction whose bits are `w` stored at PC, where the next step fetches it;
bits above `nbits` are zero. The machine is neither waiting nor in EntryFault nor being reset, so that
the next step runs it. -/
def State.withFetchWord (s : State) (nbits w : Nat) : State :=
  placeBytes (leBytes maxLength (w % 2 ^ nbits)) s.pc
    { s with waiting := false, entryFault := false, resetRequest := false }

end Sys2Proof.Machine
end

