-- ==== Sys2Proof/WellFormed.lean ====
section
/-! DEFINITION. Which terms of `Instr` are instructions: every operand is one its encoding admits
(`spec/30_encoding.md` R131 to R135, R143, R146, R155, R161, R162). -/

namespace Sys2Proof

/-- A displacement is not the reserved four-byte form whose first byte is 0xE0 (R143). -/
def Disp.wellFormed : Disp → Bool
  | .d7 _ => true
  | .d14 _ => true
  | .d30 v => decide (v.toNat / 16777216 ≠ 32)

/-- A mode's displacements are well-formed, and an immediate value stands only where `imm` admits one,
of that size (R146, R155). -/
def Mode.wellFormed (imm : Option Size) : Mode → Bool
  | .reg _ => true
  | .tos => true
  | .regRel _ d => d.wellFormed
  | .abs d => d.wellFormed
  | .frame d => d.wellFormed
  | .stack d => d.wellFormed
  | .static d => d.wellFormed
  | .prog d => d.wellFormed
  | .frameRel d1 d2 => d1.wellFormed && d2.wellFormed
  | .stackRel d1 d2 => d1.wellFormed && d2.wellFormed
  | .staticRel d1 d2 => d1.wellFormed && d2.wellFormed
  | .ext d1 d2 => d1.wellFormed && d2.wellFormed
  | .imm v => imm == some v.size

/-- An operand fits its attribute; a base mode is never Immediate (R162). -/
def Gen.wellFormed (t : Attr) : Gen → Bool
  | .plain m => m.wellFormed t.immSize
  | .indexed _ m _ => m.wellFormed none

/-- An implied operand is well-formed. -/
def Tail.wellFormed : Tail → Bool
  | .imm _ => true
  | .disp d => d.wellFormed

/-- Every operand of the instruction is one that its encoding admits. -/
def Instr.wellFormed (i : Instr) : Bool :=
  ((layout i).operands.all fun o => o.2.wellFormed o.1) && (layout i).tail.all Tail.wellFormed

end Sys2Proof
end

