-- ==== Sys2Proof/Safety.lean ====
section
/-! DEFINITION. The terms in which the statements about this machine are written: what every state must
satisfy, when an instruction completes with a result, and what it leaves alone. -/

namespace Sys2Proof.Machine

/-! ## States -/

/-- Every access is translated, so that none aborts. With the default `Translate`, which is identity
(R99), it is so. -/
def State.accessible (s : State) : Prop :=
  ∀ (k : Access) (user : Bool) (va : Word), s.translate k user va ≠ none

/-- The invariant that every step keeps: memory is in canonical form, and the bits of PSR, CFG and FSR
that are not state read as the manual and log 6 say (R33, R48, R56, R60). -/
def State.Inv (s : State) : Prop :=
  s.mem.wf = true ∧ s.psr &&& ~~~psrMask = 0 ∧ s.cfg &&& 0xFFFFC0F0 = 0x000000F0 ∧
    s.fsr &&& ~~~fsrMask = 0

/-! ## Completion

Each predicate says that an instruction evaluates its operands in the order of R150, and that where
`out` gives a result for their values the instruction completes: the result is written and PC passes
the instruction. `out` gives none where the instruction traps instead. -/

/-- A source of class read and a destination of class rmw. -/
def CompletesRmw (i : Instr) (fa fb : File) (wa wb : Nat) (a b : Gen) (s : State)
    (out : BitVec wa → BitVec wb → State → Option (BitVec wb × State)) : Prop :=
  ∃ x s₁ l y s₂, readGen fa wa s.sp a s = .ok (x, s₁) ∧ rmwLoc fb s.sp b s₁ = .ok l ∧
    readAt wb l s₁ = .ok (y, s₂) ∧
    ∀ v s₃, out x y s₂ = some (v, s₃) →
      ∃ t, writeAt l v s₃ = .ok t ∧ exec i s = .next (t.advance i.length)

/-- A destination of class rmw alone. -/
def CompletesModify (i : Instr) (fb : File) (wb : Nat) (b : Gen) (s : State)
    (out : BitVec wb → State → Option (BitVec wb × State)) : Prop :=
  ∃ l y s₂, rmwLoc fb s.sp b s = .ok l ∧ readAt wb l s = .ok (y, s₂) ∧
    ∀ v s₃, out y s₂ = some (v, s₃) →
      ∃ t, writeAt l v s₃ = .ok t ∧ exec i s = .next (t.advance i.length)

/-- A source of class read and a destination of class write. -/
def CompletesWrite (i : Instr) (fa fb : File) (wa wb : Nat) (a b : Gen) (s : State)
    (out : BitVec wa → State → Option (BitVec wb × State)) : Prop :=
  ∃ x s₁ l, readGen fa wa s.sp a s = .ok (x, s₁) ∧ writeLoc fb s.sp b s₁ = .ok l ∧
    ∀ v s₃, out x s₁ = some (v, s₃) →
      ∃ t, writeAt l v s₃ = .ok t ∧ exec i s = .next (t.advance i.length)

/-- A destination of class write alone. -/
def CompletesStore (i : Instr) (w : Nat) (b : Gen) (s : State) (v : BitVec w) (s₁ : State) : Prop :=
  ∃ l t, writeLoc .int s.sp b s = .ok l ∧ writeAt l v s₁ = .ok t ∧
    exec i s = .next (t.advance i.length)

/-- Two sources of class read; `out` gives the state that the instruction leaves, before PC advances. -/
def CompletesCompare (i : Instr) (f : File) (w : Nat) (a b : Gen) (s : State)
    (out : BitVec w → BitVec w → State → Option State) : Prop :=
  ∃ x s₁ y s₂, readGen f w s.sp a s = .ok (x, s₁) ∧ readGen f w s.sp b s₁ = .ok (y, s₂) ∧
    ∀ t, out x y s₂ = some t → exec i s = .next (t.advance i.length)

/-- One source of class read. -/
def CompletesRead (i : Instr) (w : Nat) (a : Gen) (s : State) (out : BitVec w → State → State) :
    Prop :=
  ∃ x s₁, readGen .int w s.sp a s = .ok (x, s₁) ∧
    exec i s = .next ((out x s₁).advance i.length)

/-- A result, unless it overflows and PSR.V enables the trap (R203). -/
def unlessTrapped {α : Type} (s : State) (ovf : Bool) (r : α) : Option α :=
  if s.flagV && ovf then none else some r

/-! ## Traps taken instead

Each predicate says what an instruction does where `out` or `fails` gives a value for the operands that
it reads in the order of R150. -/

/-- An instruction completes as the state `u` and then takes Trap(OVF), which returns to `u`'s PC with
PSR as it is in `u` (R203, R501, R506; D14; logs 10, 15, 16). -/
def overflowsTo (i : Instr) (s u : State) : Prop :=
  exec i s = takeException u 13 u.pc false u.psr

/-- A source of class read and a destination of class rmw, with PSR.V = 1: where `out` gives a result it
is written, PC passes the instruction, and Trap(OVF) is taken. -/
def OverflowsRmw (i : Instr) (fb : File) (wa wb : Nat) (a b : Gen) (s : State)
    (out : BitVec wa → BitVec wb → State → Option (BitVec wb × State)) : Prop :=
  ∀ x s₁ l y s₂ v s₃ t, readGen .int wa s.sp a s = .ok (x, s₁) → rmwLoc fb s.sp b s₁ = .ok l →
    readAt wb l s₁ = .ok (y, s₂) → s₂.flagV = true → out x y s₂ = some (v, s₃) →
    writeAt l v s₃ = .ok t → overflowsTo i s (t.advance i.length)

/-- The same with a destination of class rmw alone. -/
def OverflowsModify (i : Instr) (w : Nat) (b : Gen) (s : State)
    (out : BitVec w → State → Option (BitVec w × State)) : Prop :=
  ∀ l y s₂ v s₃ t, rmwLoc .int s.sp b s = .ok l → readAt w l s = .ok (y, s₂) → s₂.flagV = true →
    out y s₂ = some (v, s₃) → writeAt l v s₃ = .ok t → overflowsTo i s (t.advance i.length)

/-- The same with a source of class read and a destination of class write. -/
def OverflowsWrite (i : Instr) (w : Nat) (a b : Gen) (s : State)
    (out : BitVec w → State → Option (BitVec w × State)) : Prop :=
  ∀ x s₁ l v s₃ t, readGen .int w s.sp a s = .ok (x, s₁) → writeLoc .int s.sp b s₁ = .ok l →
    s₁.flagV = true → out x s₁ = some (v, s₃) → writeAt l v s₃ = .ok t →
    overflowsTo i s (t.advance i.length)

/-- A result that is delivered before Trap(OVF), where the instruction overflows (R203). -/
def whereOverflow {α : Type} (ovf : Bool) (r : α) : Option α := if ovf then some r else none

/-- FSR as Trap(FPU) leaves it, where the operands are reserved (TT = 101) or the delivery of the result
traps (R253, R257, R258). -/
def floatFailure {α : Type} (fsr : Word) (reserved : Bool) (r : Except Stop α) : Option Word :=
  if reserved then some ((fsr &&& 0xFFFFFFF8) ||| 5)
  else match r with
    | .error (.fpu f) => some f
    | _ => none

/-- A floating-point instruction with a source of class read and a destination of class rmw: where
`fails` gives FSR, Trap(FPU) is taken and nothing else is done (R258). -/
def FloatTrapsRmw (i : Instr) (w : Nat) (a b : Gen) (s : State)
    (fails : BitVec w → BitVec w → Option Word) : Prop :=
  ∀ x s₁ l y s₂ f, readGen .float w s.sp a s = .ok (x, s₁) → rmwLoc .float s.sp b s₁ = .ok l →
    readAt w l s₁ = .ok (y, s₂) → fails x y = some f →
    exec i s = takeException { s with fsr := f } 3 s.pc false (s.psr &&& 0xFBFF)

/-- The same with two sources of class read. -/
def FloatTrapsCompare (i : Instr) (w : Nat) (a b : Gen) (s : State)
    (fails : BitVec w → BitVec w → Option Word) : Prop :=
  ∀ x s₁ y s₂ f, readGen .float w s.sp a s = .ok (x, s₁) →
    readGen .float w s.sp b s₁ = .ok (y, s₂) → fails x y = some f →
    exec i s = takeException { s with fsr := f } 3 s.pc false (s.psr &&& 0xFBFF)

/-- The same with a source of class read and a destination of class write. -/
def FloatTrapsWrite (i : Instr) (fa fb : File) (w : Nat) (a b : Gen) (s : State)
    (fails : BitVec w → Option Word) : Prop :=
  ∀ x s₁ l f, readGen fa w s.sp a s = .ok (x, s₁) → writeLoc fb s.sp b s₁ = .ok l →
    fails x = some f → exec i s = takeException { s with fsr := f } 3 s.pc false (s.psr &&& 0xFBFF)

/-- The first byte that translation refuses of the n bytes from an address (R99, R505). -/
def State.refuses (s : State) (k : Access) (user : Bool) (va : Word) (n : Nat) (bad : Word) : Prop :=
  ∃ j, j < n ∧ bad = va + BitVec.ofNat 32 j ∧ s.translate k user bad = none ∧
    ∀ i, i < j → s.translate k user (va + BitVec.ofNat 32 i) ≠ none

/-! ## Frames -/

/-- Everything but the general and the floating-point registers, PC, PSR, FSR, the stack pointers,
memory, and the model's own `freeCount` and `boundary`, is equal. -/
def State.sameSystem (s t : State) : Prop :=
  t.fp = s.fp ∧ t.sb = s.sb ∧ t.intbase = s.intbase ∧ t.mod = s.mod ∧ t.cfg = s.cfg ∧
    t.ptb0 = s.ptb0 ∧ t.ptb1 = s.ptb1 ∧ t.tear = s.tear ∧ t.mcr = s.mcr ∧ t.msr = s.msr ∧
    t.dcr = s.dcr ∧ t.dsr = s.dsr ∧ t.car = s.car ∧ t.bpc = s.bpc ∧ t.waiting = s.waiting ∧
    t.entryFault = s.entryFault ∧ t.nmiPending = s.nmiPending ∧ t.intRequest = s.intRequest ∧
    t.resetRequest = s.resetRequest ∧ t.eoiEvents = s.eoiEvents ∧ t.xlate = s.xlate

/-- The memory-management and debug registers and what belongs to the host, but `eoiEvents`, are equal
(R69, R71, R520, R99). -/
def State.sameUnits (s t : State) : Prop :=
  t.ptb0 = s.ptb0 ∧ t.ptb1 = s.ptb1 ∧ t.tear = s.tear ∧ t.mcr = s.mcr ∧ t.msr = s.msr ∧
    t.dcr = s.dcr ∧ t.dsr = s.dsr ∧ t.car = s.car ∧ t.bpc = s.bpc ∧ t.nmiPending = s.nmiPending ∧
    t.intRequest = s.intRequest ∧ t.resetRequest = s.resetRequest ∧ t.xlate = s.xlate ∧
    t.entryFault = s.entryFault ∧ t.freeCount = s.freeCount

/-- The general registers that a write to a location changes. A pair that an odd register names
changes all (U8; log 28). -/
def Loc.touchesReg : Loc → Reg → Prop
  | .reg r, q => q = r
  | .pair r, q => r.val % 2 = 1 ∨ q = r ∨ q = pairHigh r
  | _, _ => False

/-- The 64-bit floating-point register that a write of w bits to a location changes (R58). -/
def Loc.touchesFloat (w : Nat) : Loc → Reg → Prop
  | .freg r, q => q = if w = 32 then evenOf r else r
  | _, _ => False

/-- The physical addresses of the bytes that a write of w bits to a location stores to, made in state
`s`: w/8 consecutive bytes at the location's address, or below the stack pointer for a push. -/
def Loc.stores (w : Nat) (s : State) : Loc → Nat → Prop
  | .mem a k, pa =>
    ∃ j q, j < w / 8 ∧ s.translate k s.flagU (a + BitVec.ofNat 32 j) = some q ∧ pa = q.toNat
  | .push, pa =>
    ∃ j q, j < w / 8 ∧ s.translate .write s.flagU
      (s.sp - BitVec.ofNat 32 (w / 8) + BitVec.ofNat 32 j) = some q ∧ pa = q.toNat
  | _, _ => False

/-- An operand is Top of Stack, without Scaled Indexing. -/
def operandIsTos : Gen → Bool
  | .plain .tos => true
  | _ => false

/-- What an instruction with a destination operand reads and writes. -/
structure Dest where
  /-- its source operand of class read, if it has one -/
  source : Option (File × Nat × Gen)
  /-- the destination is read before it is written -/
  rmw : Bool
  /-- the registers that Register mode names -/
  file : File
  /-- the width of the destination -/
  width : Nat
  /-- the destination operand -/
  gen : Gen
  /-- the bits of PSR it may change -/
  flags : BitVec 16
  /-- it may change FSR -/
  float : Bool
  deriving DecidableEq, Repr

/-- The state after the source operand is read. -/
def Dest.afterSource (d : Dest) (s : State) : Except Stop State :=
  match d.source with
  | none => .ok s
  | some (f, w, a) => do
    let (_, s) ← readGen f w s.sp a s
    .ok s

/-- The location of the destination, found in the state `s₁` after the source is read. -/
def Dest.locate (d : Dest) (s s₁ : State) : Except Stop Loc :=
  if d.rmw then rmwLoc d.file s.sp d.gen s₁ else writeLoc d.file s.sp d.gen s₁

/-- Whether the instruction pops or pushes: its source, or a destination of class write, is Top of
Stack (R131 to R133, R158). -/
def Dest.usesTos (d : Dest) : Bool :=
  (!d.rmw && operandIsTos d.gen) || (match d.source with
    | none => false
    | some (_, _, a) => operandIsTos a)

/-- The instructions that deliver one result to a destination of class write or rmw. -/
def destination : Instr → Option Dest
  | .addqb _ g => some ⟨none, true, .int, 8, g, 0x21, false⟩
  | .addqw _ g => some ⟨none, true, .int, 16, g, 0x21, false⟩
  | .addqd _ g => some ⟨none, true, .int, 32, g, 0x21, false⟩
  | .sprb _ g => some ⟨none, false, .int, 8, g, 0x00, false⟩
  | .sprw _ g => some ⟨none, false, .int, 16, g, 0x00, false⟩
  | .sprd _ g => some ⟨none, false, .int, 32, g, 0x00, false⟩
  | .seqb g => some ⟨none, false, .int, 8, g, 0x00, false⟩
  | .sneb g => some ⟨none, false, .int, 8, g, 0x00, false⟩
  | .scsb g => some ⟨none, false, .int, 8, g, 0x00, false⟩
  | .sccb g => some ⟨none, false, .int, 8, g, 0x00, false⟩
  | .shib g => some ⟨none, false, .int, 8, g, 0x00, false⟩
  | .slsb g => some ⟨none, false, .int, 8, g, 0x00, false⟩
  | .sgtb g => some ⟨none, false, .int, 8, g, 0x00, false⟩
  | .sleb g => some ⟨none, false, .int, 8, g, 0x00, false⟩
  | .sfsb g => some ⟨none, false, .int, 8, g, 0x00, false⟩
  | .sfcb g => some ⟨none, false, .int, 8, g, 0x00, false⟩
  | .slob g => some ⟨none, false, .int, 8, g, 0x00, false⟩
  | .shsb g => some ⟨none, false, .int, 8, g, 0x00, false⟩
  | .sltb g => some ⟨none, false, .int, 8, g, 0x00, false⟩
  | .sgeb g => some ⟨none, false, .int, 8, g, 0x00, false⟩
  | .seqw g => some ⟨none, false, .int, 16, g, 0x00, false⟩
  | .snew g => some ⟨none, false, .int, 16, g, 0x00, false⟩
  | .scsw g => some ⟨none, false, .int, 16, g, 0x00, false⟩
  | .sccw g => some ⟨none, false, .int, 16, g, 0x00, false⟩
  | .shiw g => some ⟨none, false, .int, 16, g, 0x00, false⟩
  | .slsw g => some ⟨none, false, .int, 16, g, 0x00, false⟩
  | .sgtw g => some ⟨none, false, .int, 16, g, 0x00, false⟩
  | .slew g => some ⟨none, false, .int, 16, g, 0x00, false⟩
  | .sfsw g => some ⟨none, false, .int, 16, g, 0x00, false⟩
  | .sfcw g => some ⟨none, false, .int, 16, g, 0x00, false⟩
  | .slow g => some ⟨none, false, .int, 16, g, 0x00, false⟩
  | .shsw g => some ⟨none, false, .int, 16, g, 0x00, false⟩
  | .sltw g => some ⟨none, false, .int, 16, g, 0x00, false⟩
  | .sgew g => some ⟨none, false, .int, 16, g, 0x00, false⟩
  | .seqd g => some ⟨none, false, .int, 32, g, 0x00, false⟩
  | .sned g => some ⟨none, false, .int, 32, g, 0x00, false⟩
  | .scsd g => some ⟨none, false, .int, 32, g, 0x00, false⟩
  | .sccd g => some ⟨none, false, .int, 32, g, 0x00, false⟩
  | .shid g => some ⟨none, false, .int, 32, g, 0x00, false⟩
  | .slsd g => some ⟨none, false, .int, 32, g, 0x00, false⟩
  | .sgtd g => some ⟨none, false, .int, 32, g, 0x00, false⟩
  | .sled g => some ⟨none, false, .int, 32, g, 0x00, false⟩
  | .sfsd g => some ⟨none, false, .int, 32, g, 0x00, false⟩
  | .sfcd g => some ⟨none, false, .int, 32, g, 0x00, false⟩
  | .slod g => some ⟨none, false, .int, 32, g, 0x00, false⟩
  | .shsd g => some ⟨none, false, .int, 32, g, 0x00, false⟩
  | .sltd g => some ⟨none, false, .int, 32, g, 0x00, false⟩
  | .sged g => some ⟨none, false, .int, 32, g, 0x00, false⟩
  | .acbb _ g _ => some ⟨none, true, .int, 8, g, 0x00, false⟩
  | .acbw _ g _ => some ⟨none, true, .int, 16, g, 0x00, false⟩
  | .acbd _ g _ => some ⟨none, true, .int, 32, g, 0x00, false⟩
  | .movqb _ g => some ⟨none, false, .int, 8, g, 0x00, false⟩
  | .movqw _ g => some ⟨none, false, .int, 16, g, 0x00, false⟩
  | .movqd _ g => some ⟨none, false, .int, 32, g, 0x00, false⟩
  | .addb a b => some ⟨(some (.int, 8, a)), true, .int, 8, b, 0x21, false⟩
  | .addw a b => some ⟨(some (.int, 16, a)), true, .int, 16, b, 0x21, false⟩
  | .addd a b => some ⟨(some (.int, 32, a)), true, .int, 32, b, 0x21, false⟩
  | .bicb a b => some ⟨(some (.int, 8, a)), true, .int, 8, b, 0x00, false⟩
  | .bicw a b => some ⟨(some (.int, 16, a)), true, .int, 16, b, 0x00, false⟩
  | .bicd a b => some ⟨(some (.int, 32, a)), true, .int, 32, b, 0x00, false⟩
  | .addcb a b => some ⟨(some (.int, 8, a)), true, .int, 8, b, 0x21, false⟩
  | .addcw a b => some ⟨(some (.int, 16, a)), true, .int, 16, b, 0x21, false⟩
  | .addcd a b => some ⟨(some (.int, 32, a)), true, .int, 32, b, 0x21, false⟩
  | .movb a b => some ⟨(some (.int, 8, a)), false, .int, 8, b, 0x00, false⟩
  | .movw a b => some ⟨(some (.int, 16, a)), false, .int, 16, b, 0x00, false⟩
  | .movd a b => some ⟨(some (.int, 32, a)), false, .int, 32, b, 0x00, false⟩
  | .orb a b => some ⟨(some (.int, 8, a)), true, .int, 8, b, 0x00, false⟩
  | .orw a b => some ⟨(some (.int, 16, a)), true, .int, 16, b, 0x00, false⟩
  | .ord a b => some ⟨(some (.int, 32, a)), true, .int, 32, b, 0x00, false⟩
  | .subb a b => some ⟨(some (.int, 8, a)), true, .int, 8, b, 0x21, false⟩
  | .subw a b => some ⟨(some (.int, 16, a)), true, .int, 16, b, 0x21, false⟩
  | .subd a b => some ⟨(some (.int, 32, a)), true, .int, 32, b, 0x21, false⟩
  | .addr _ b => some ⟨none, false, .int, 32, b, 0x00, false⟩
  | .andb a b => some ⟨(some (.int, 8, a)), true, .int, 8, b, 0x00, false⟩
  | .andw a b => some ⟨(some (.int, 16, a)), true, .int, 16, b, 0x00, false⟩
  | .andd a b => some ⟨(some (.int, 32, a)), true, .int, 32, b, 0x00, false⟩
  | .subcb a b => some ⟨(some (.int, 8, a)), true, .int, 8, b, 0x21, false⟩
  | .subcw a b => some ⟨(some (.int, 16, a)), true, .int, 16, b, 0x21, false⟩
  | .subcd a b => some ⟨(some (.int, 32, a)), true, .int, 32, b, 0x21, false⟩
  | .xorb a b => some ⟨(some (.int, 8, a)), true, .int, 8, b, 0x00, false⟩
  | .xorw a b => some ⟨(some (.int, 16, a)), true, .int, 16, b, 0x00, false⟩
  | .xord a b => some ⟨(some (.int, 32, a)), true, .int, 32, b, 0x00, false⟩
  | .rotb a b => some ⟨(some (.int, 8, a)), true, .int, 8, b, 0x00, false⟩
  | .rotw a b => some ⟨(some (.int, 8, a)), true, .int, 16, b, 0x00, false⟩
  | .rotd a b => some ⟨(some (.int, 8, a)), true, .int, 32, b, 0x00, false⟩
  | .ashb a b => some ⟨(some (.int, 8, a)), true, .int, 8, b, 0x00, false⟩
  | .ashw a b => some ⟨(some (.int, 8, a)), true, .int, 16, b, 0x00, false⟩
  | .ashd a b => some ⟨(some (.int, 8, a)), true, .int, 32, b, 0x00, false⟩
  | .lshb a b => some ⟨(some (.int, 8, a)), true, .int, 8, b, 0x00, false⟩
  | .lshw a b => some ⟨(some (.int, 8, a)), true, .int, 16, b, 0x00, false⟩
  | .lshd a b => some ⟨(some (.int, 8, a)), true, .int, 32, b, 0x00, false⟩
  | .negb a b => some ⟨(some (.int, 8, a)), false, .int, 8, b, 0x21, false⟩
  | .negw a b => some ⟨(some (.int, 16, a)), false, .int, 16, b, 0x21, false⟩
  | .negd a b => some ⟨(some (.int, 32, a)), false, .int, 32, b, 0x21, false⟩
  | .notb a b => some ⟨(some (.int, 8, a)), false, .int, 8, b, 0x00, false⟩
  | .notw a b => some ⟨(some (.int, 16, a)), false, .int, 16, b, 0x00, false⟩
  | .notd a b => some ⟨(some (.int, 32, a)), false, .int, 32, b, 0x00, false⟩
  | .subpb a b => some ⟨(some (.int, 8, a)), true, .int, 8, b, 0x21, false⟩
  | .subpw a b => some ⟨(some (.int, 16, a)), true, .int, 16, b, 0x21, false⟩
  | .subpd a b => some ⟨(some (.int, 32, a)), true, .int, 32, b, 0x21, false⟩
  | .absb a b => some ⟨(some (.int, 8, a)), false, .int, 8, b, 0x20, false⟩
  | .absw a b => some ⟨(some (.int, 16, a)), false, .int, 16, b, 0x20, false⟩
  | .absd a b => some ⟨(some (.int, 32, a)), false, .int, 32, b, 0x20, false⟩
  | .comb a b => some ⟨(some (.int, 8, a)), false, .int, 8, b, 0x00, false⟩
  | .comw a b => some ⟨(some (.int, 16, a)), false, .int, 16, b, 0x00, false⟩
  | .comd a b => some ⟨(some (.int, 32, a)), false, .int, 32, b, 0x00, false⟩
  | .addpb a b => some ⟨(some (.int, 8, a)), true, .int, 8, b, 0x21, false⟩
  | .addpw a b => some ⟨(some (.int, 16, a)), true, .int, 16, b, 0x21, false⟩
  | .addpd a b => some ⟨(some (.int, 32, a)), true, .int, 32, b, 0x21, false⟩
  | .extsb _ b _ => some ⟨none, false, .int, 8, b, 0x00, false⟩
  | .extsw _ b _ => some ⟨none, false, .int, 16, b, 0x00, false⟩
  | .extsd _ b _ => some ⟨none, false, .int, 32, b, 0x00, false⟩
  | .movxbw a b => some ⟨(some (.int, 8, a)), false, .int, 16, b, 0x00, false⟩
  | .movzbw a b => some ⟨(some (.int, 8, a)), false, .int, 16, b, 0x00, false⟩
  | .movzbd a b => some ⟨(some (.int, 8, a)), false, .int, 32, b, 0x00, false⟩
  | .movzwd a b => some ⟨(some (.int, 16, a)), false, .int, 32, b, 0x00, false⟩
  | .movxbd a b => some ⟨(some (.int, 8, a)), false, .int, 32, b, 0x00, false⟩
  | .movxwd a b => some ⟨(some (.int, 16, a)), false, .int, 32, b, 0x00, false⟩
  | .mulb a b => some ⟨(some (.int, 8, a)), true, .int, 8, b, 0x00, false⟩
  | .mulw a b => some ⟨(some (.int, 16, a)), true, .int, 16, b, 0x00, false⟩
  | .muld a b => some ⟨(some (.int, 32, a)), true, .int, 32, b, 0x00, false⟩
  | .meib a b => some ⟨(some (.int, 8, a)), true, .pair, 16, b, 0x00, false⟩
  | .meiw a b => some ⟨(some (.int, 16, a)), true, .pair, 32, b, 0x00, false⟩
  | .meid a b => some ⟨(some (.int, 32, a)), true, .pair, 64, b, 0x00, false⟩
  | .deib a b => some ⟨(some (.int, 8, a)), true, .pair, 16, b, 0x00, false⟩
  | .deiw a b => some ⟨(some (.int, 16, a)), true, .pair, 32, b, 0x00, false⟩
  | .deid a b => some ⟨(some (.int, 32, a)), true, .pair, 64, b, 0x00, false⟩
  | .quob a b => some ⟨(some (.int, 8, a)), true, .int, 8, b, 0x00, false⟩
  | .quow a b => some ⟨(some (.int, 16, a)), true, .int, 16, b, 0x00, false⟩
  | .quod a b => some ⟨(some (.int, 32, a)), true, .int, 32, b, 0x00, false⟩
  | .remb a b => some ⟨(some (.int, 8, a)), true, .int, 8, b, 0x00, false⟩
  | .remw a b => some ⟨(some (.int, 16, a)), true, .int, 16, b, 0x00, false⟩
  | .remd a b => some ⟨(some (.int, 32, a)), true, .int, 32, b, 0x00, false⟩
  | .modb a b => some ⟨(some (.int, 8, a)), true, .int, 8, b, 0x00, false⟩
  | .modw a b => some ⟨(some (.int, 16, a)), true, .int, 16, b, 0x00, false⟩
  | .modd a b => some ⟨(some (.int, 32, a)), true, .int, 32, b, 0x00, false⟩
  | .divb a b => some ⟨(some (.int, 8, a)), true, .int, 8, b, 0x00, false⟩
  | .divw a b => some ⟨(some (.int, 16, a)), true, .int, 16, b, 0x00, false⟩
  | .divd a b => some ⟨(some (.int, 32, a)), true, .int, 32, b, 0x00, false⟩
  | .extb _ _ b _ => some ⟨none, false, .int, 8, b, 0x00, false⟩
  | .extw _ _ b _ => some ⟨none, false, .int, 16, b, 0x00, false⟩
  | .extd _ _ b _ => some ⟨none, false, .int, 32, b, 0x00, false⟩
  | .cvtp _ _ b => some ⟨none, false, .int, 32, b, 0x00, false⟩
  | .ffsb a b => some ⟨(some (.int, 8, a)), true, .int, 8, b, 0x20, false⟩
  | .ffsw a b => some ⟨(some (.int, 16, a)), true, .int, 8, b, 0x20, false⟩
  | .ffsd a b => some ⟨(some (.int, 32, a)), true, .int, 8, b, 0x20, false⟩
  | .movbf a b => some ⟨(some (.int, 8, a)), false, .float, 32, b, 0x00, true⟩
  | .movwf a b => some ⟨(some (.int, 16, a)), false, .float, 32, b, 0x00, true⟩
  | .movdf a b => some ⟨(some (.int, 32, a)), false, .float, 32, b, 0x00, true⟩
  | .movbl a b => some ⟨(some (.int, 8, a)), false, .float, 64, b, 0x00, true⟩
  | .movwl a b => some ⟨(some (.int, 16, a)), false, .float, 64, b, 0x00, true⟩
  | .movdl a b => some ⟨(some (.int, 32, a)), false, .float, 64, b, 0x00, true⟩
  | .movlf a b => some ⟨(some (.float, 64, a)), false, .float, 32, b, 0x00, true⟩
  | .movfl a b => some ⟨(some (.float, 32, a)), false, .float, 64, b, 0x00, true⟩
  | .roundfb a b => some ⟨(some (.float, 32, a)), false, .int, 8, b, 0x00, true⟩
  | .roundfw a b => some ⟨(some (.float, 32, a)), false, .int, 16, b, 0x00, true⟩
  | .roundfd a b => some ⟨(some (.float, 32, a)), false, .int, 32, b, 0x00, true⟩
  | .roundlb a b => some ⟨(some (.float, 64, a)), false, .int, 8, b, 0x00, true⟩
  | .roundlw a b => some ⟨(some (.float, 64, a)), false, .int, 16, b, 0x00, true⟩
  | .roundld a b => some ⟨(some (.float, 64, a)), false, .int, 32, b, 0x00, true⟩
  | .truncfb a b => some ⟨(some (.float, 32, a)), false, .int, 8, b, 0x00, true⟩
  | .truncfw a b => some ⟨(some (.float, 32, a)), false, .int, 16, b, 0x00, true⟩
  | .truncfd a b => some ⟨(some (.float, 32, a)), false, .int, 32, b, 0x00, true⟩
  | .trunclb a b => some ⟨(some (.float, 64, a)), false, .int, 8, b, 0x00, true⟩
  | .trunclw a b => some ⟨(some (.float, 64, a)), false, .int, 16, b, 0x00, true⟩
  | .truncld a b => some ⟨(some (.float, 64, a)), false, .int, 32, b, 0x00, true⟩
  | .floorfb a b => some ⟨(some (.float, 32, a)), false, .int, 8, b, 0x00, true⟩
  | .floorfw a b => some ⟨(some (.float, 32, a)), false, .int, 16, b, 0x00, true⟩
  | .floorfd a b => some ⟨(some (.float, 32, a)), false, .int, 32, b, 0x00, true⟩
  | .floorlb a b => some ⟨(some (.float, 64, a)), false, .int, 8, b, 0x00, true⟩
  | .floorlw a b => some ⟨(some (.float, 64, a)), false, .int, 16, b, 0x00, true⟩
  | .floorld a b => some ⟨(some (.float, 64, a)), false, .int, 32, b, 0x00, true⟩
  | .sfsr g => some ⟨none, false, .int, 32, g, 0x00, false⟩
  | .addf a b => some ⟨(some (.float, 32, a)), true, .float, 32, b, 0x00, true⟩
  | .addl a b => some ⟨(some (.float, 64, a)), true, .float, 64, b, 0x00, true⟩
  | .movf a b => some ⟨(some (.float, 32, a)), false, .float, 32, b, 0x00, true⟩
  | .movl a b => some ⟨(some (.float, 64, a)), false, .float, 64, b, 0x00, true⟩
  | .subf a b => some ⟨(some (.float, 32, a)), true, .float, 32, b, 0x00, true⟩
  | .subl a b => some ⟨(some (.float, 64, a)), true, .float, 64, b, 0x00, true⟩
  | .negf a b => some ⟨(some (.float, 32, a)), false, .float, 32, b, 0x00, true⟩
  | .negl a b => some ⟨(some (.float, 64, a)), false, .float, 64, b, 0x00, true⟩
  | .divf a b => some ⟨(some (.float, 32, a)), true, .float, 32, b, 0x00, true⟩
  | .divl a b => some ⟨(some (.float, 64, a)), true, .float, 64, b, 0x00, true⟩
  | .mulf a b => some ⟨(some (.float, 32, a)), true, .float, 32, b, 0x00, true⟩
  | .mull a b => some ⟨(some (.float, 64, a)), true, .float, 64, b, 0x00, true⟩
  | .absf a b => some ⟨(some (.float, 32, a)), false, .float, 32, b, 0x00, true⟩
  | .absl a b => some ⟨(some (.float, 64, a)), false, .float, 64, b, 0x00, true⟩
  | .scalbf a b => some ⟨(some (.float, 32, a)), true, .float, 32, b, 0x00, true⟩
  | .scalbl a b => some ⟨(some (.float, 64, a)), true, .float, 64, b, 0x00, true⟩
  | .logbf a b => some ⟨(some (.float, 32, a)), false, .float, 32, b, 0x00, true⟩
  | .logbl a b => some ⟨(some (.float, 64, a)), false, .float, 64, b, 0x00, true⟩
  | .smr _ g => some ⟨none, false, .int, 32, g, 0x00, false⟩
  | _ => none

/-- What such an instruction leaves alone, when it takes state `s` to `t`, with its source read in
`s₁` and its destination at `l`. -/
def Dest.frame (d : Dest) (s s₁ t : State) (l : Loc) : Prop :=
  (∀ r, ¬ l.touchesReg r → t.reg r = s.reg r) ∧
  (∀ r : Reg, ¬ l.touchesFloat d.width r → t.fd[r] = s.fd[r]) ∧
  (t.psr ^^^ s.psr) &&& ~~~d.flags = 0 ∧
  (d.float = false → t.fsr = s.fsr) ∧
  (d.usesTos = false → t.sp0 = s.sp0 ∧ t.sp1 = s.sp1) ∧
  (if s.flagS then t.sp0 = s.sp0 else t.sp1 = s.sp1) ∧
  s.sameSystem t ∧
  ∀ pa, ¬ l.stores d.width s₁ pa → t.mem.get pa = s.mem.get pa

/-! ## Results as the rules give them -/

/-- Whether an integer lies outside the signed range of w bits (R200). -/
def outOfRange (w : Nat) (n : Int) : Bool :=
  decide (n < -(2 : Int) ^ (w - 1)) || decide ((2 : Int) ^ (w - 1) ≤ n)

/-- The sum of two operands and a carry, with C and F (R201, R205). -/
def sumResult {w : Nat} (x y : BitVec w) (c : Bool) (s : State) : Option (BitVec w × State) :=
  let n := x.toNat + y.toNat + c.toNat
  let ovf := outOfRange w (x.toInt + y.toInt + c.toNat)
  unlessTrapped s ovf (BitVec.ofNat w n, (s.setC (decide (2 ^ w ≤ n))).setF ovf)

/-- The difference y - x - c, with C and F (R201, R208). -/
def differenceResult {w : Nat} (x y : BitVec w) (c : Bool) (s : State) :
    Option (BitVec w × State) :=
  let n : Int := (y.toNat : Int) - x.toNat - c.toNat
  let ovf := outOfRange w (y.toInt - x.toInt - c.toNat)
  unlessTrapped s ovf (BitVec.ofInt w n, (s.setC (decide (n < 0))).setF ovf)

/-- A signed division of y by x, delivered unless x is zero or it overflows with the trap enabled
(R202, R214 to R217). -/
def divisionResult {w : Nat} (x y : BitVec w) (f : Int → Int → Int) (overflows : Bool) (s : State) :
    Option (BitVec w × State) :=
  if x.toInt = 0 then none
  else unlessTrapped s (overflows && decide (y.toInt = -(2 : Int) ^ (w - 1) ∧ x.toInt = -1))
    (BitVec.ofInt w (f y.toInt x.toInt), s)

/-- A result with no flag and no trap. -/
def plainResult {w : Nat} (v : BitVec w) (s : State) : Option (BitVec w × State) := some (v, s)

/-- A shift by a signed count: a free value where the count's magnitude is the length or more (R301,
U14), else what `left` and `right` give. -/
def shiftResult {w : Nat} (count : BitVec 8) (y : BitVec w) (left right : BitVec w → Nat → BitVec w)
    (ovf : Nat → Bool) (s : State) : Option (BitVec w × State) :=
  let n := count.toInt
  if (w : Int) ≤ n ∨ (w : Int) ≤ -n then some (s.draw w)
  else if 0 ≤ n then unlessTrapped s (ovf n.toNat) (left y n.toNat, s)
  else some (right y (-n).toNat, s)

/-- A packed decimal result: the packing of `n` modulo 10^k for k digits, with C, F cleared; free
values where a digit is illegal (R240 to R244, U10). -/
def decimalResult {w : Nat} (x y : BitVec w) (n : Int) (c : Bool) (s : State) :
    Option (BitVec w × State) :=
  let k := w / 4
  if bcdLegal k x.toNat ∧ bcdLegal k y.toNat then
    some (BitVec.ofNat w (bcdPack k (n % 10 ^ k).toNat), (s.setC c).setF false)
  else
    let (v, s) := s.draw w
    let (c, s) := s.draw 1
    some (v, (s.setC (c == 1)).setF false)

/-- A floating-point result: none where an operand is reserved or the operation traps (R253, R257). -/
def floatResult {w : Nat} (reserved : Bool) (r : Except Stop (BitVec w × Word)) (s : State) :
    Option (BitVec w × State) :=
  if reserved then none
  else match r with
    | .ok (v, f) => some (v, { s with fsr := f })
    | .error _ => none

/-- A string instruction has ended: F says whether a match ended it, and PC passes the three bytes
(R354). -/
def stringEnd (s : State) (f : Bool) : State := (s.setF f).advance 3

/-- One element of w bits is done: R1, and R2 where the instruction uses it, move on by the element's
length, R0 counts down, and PC stays (R352, R354). -/
def stringNext (w : Nat) (back two : Bool) (s : State) : State :=
  let d : Word := if back then -BitVec.ofNat 32 (w / 8) else BitVec.ofNat 32 (w / 8)
  let s := s.setReg 1 (s.reg 1 + d)
  let s := if two then s.setReg 2 (s.reg 2 + d) else s
  { s.setReg 0 (s.reg 0 - 1) with boundary := .element }

/-- One element of a string instruction, or its end (R350 to R354): `t` is the Translation option. -/
def StringStep (i : Instr) (kind : StringKind) (w : Nat) (u : Until) (back t : Bool) (s : State) :
    Prop :=
  let s₀ := if kind = .cmps then s.setZNL true false false else s
  (s.reg 0 = 0 → exec i s = .next (stringEnd s₀ false)) ∧
  (s.reg 0 ≠ 0 → (s.reg 0).msb = false →
    ∃ x y : BitVec w, s.read w (s.reg 1) = .ok x ∧
      (if t then s.read w (s.reg 3 + x.setWidth 32) = .ok y else y = x) ∧
      ((u = .untilMatch ∧ y = (s.reg 4).setWidth w ∨ u = .whileMatch ∧ y ≠ (s.reg 4).setWidth w) →
        exec i s = .next (stringEnd s₀ true)) ∧
      ((u = .none ∨ u = .untilMatch ∧ y ≠ (s.reg 4).setWidth w ∨
          u = .whileMatch ∧ y = (s.reg 4).setWidth w) →
        match kind with
        | .movs => ∃ m, s.write (s.reg 2) y = .ok m ∧ exec i s = .next (stringNext w back true m)
        | .skps => exec i s = .next (stringNext w back false s)
        | .cmps => ∃ z : BitVec w, s.read w (s.reg 2) = .ok z ∧
            (y = z → exec i s = .next (stringNext w back true (s₀.setZNL true false false))) ∧
            (y ≠ z → exec i s = .next (stringEnd (s₀.setZNL false (decide (z.toInt < y.toInt))
              (decide (z.toNat < y.toNat))) false))))

/-- The registers that a list names, in the order in which SAVE pushes them: bit k names Rk, and R0
is first (R422, R423). -/
def savedRegs (l : BitVec 8) : List Reg := (List.finRange 8).filter fun r => l.getLsbD r.val

/-- Pushes registers one after another. -/
def pushRegs : List Reg → State → Except Stop State
  | [], s => .ok s
  | r :: rs, s =>
    match s.push (s.reg r) with
    | .ok s => pushRegs rs s
    | .error e => .error e

/-- The registers that a list names, in the order in which RESTORE pops them: bit k names R(7-k), and
R7 is first (R422, R424). -/
def restoredRegs (l : BitVec 8) : List Reg :=
  (List.finRange 8).reverse.filter fun r => l.getLsbD (7 - r.val)

/-- Pops registers one after another. -/
def popRegs : List Reg → State → Except Stop State
  | [], s => .ok s
  | r :: rs, s =>
    match s.pop 32 with
    | .ok (v, s) => popRegs rs (s.setReg r v)
    | .error e => .error e

/-- An instruction is n bytes that hold a number, the least significant byte first, then the index
bytes and the addressing extensions of its general operands in order, then its implied operands
(R122). -/
def encodedAs (i : Instr) (n word : Nat) (gs : List Gen) (implied : List Byte) : Prop :=
  encode i = leBytes n word ++ gs.flatMap Gen.indexBytes ++ gs.flatMap Gen.extension ++ implied

/-- The first byte of an instruction's encoding. -/
def firstByte (i : Instr) : Nat := (layout i).word % 256

/-- The floating-point instructions, by their first byte (R504). -/
def isFloat (i : Instr) : Prop := firstByte i = 0x3E ∨ firstByte i = 0xBE ∨ firstByte i = 0xFE

/-- The custom instructions, by their first byte (R470). -/
def isCustom (i : Instr) : Prop := firstByte i = 0x16 ∨ firstByte i = 0x36 ∨ firstByte i = 0xB6

/-- The privileged instructions (Table 2-1 in R503, and R473). -/
def isPrivileged : Instr → Prop
  | .lprb r _ | .lprw r _ | .lprd r _ | .sprb r _ | .sprw r _ | .sprd r _ =>
    r = .intbase ∨ r = .psr ∨ r = .usp ∨ r = .cfg ∨ r = .dcr ∨ r = .dsr ∨ r = .car ∨ r = .bpc
  | .bicpsrw _ | .bispsrw _ | .setcfg _ | .rett _ | .reti | .lmr _ _ | .smr _ _
  | .movsub _ _ | .movsuw _ _ | .movsud _ _ | .movusb _ _ | .movusw _ _ | .movusd _ _
  | .rdval _ | .wrval _ | .cinv _ _ _ _ | .custom16 => True
  | _ => False

/-- The instructions that CFG.M enables (R451). -/
def needsMmu : Instr → Prop
  | .lmr _ _ | .smr _ _ | .rdval _ | .wrval _ => True
  | _ => False

/-- The instructions with no destination in memory that push nothing. -/
def storesNothing : Instr → Prop
  | .reti | .nop | .wait | .dia | .flag | .ret _ | .rxp _ | .rett _ | .restore _ | .exit _
  | .bicpsrb _ | .bicpsrw _ | .bispsrb _ | .bispsrw _ | .jump _ | .adjspb _ | .adjspw _
  | .adjspd _ | .caseb _ | .casew _ | .cased _ | .setcfg _ | .lfsr _ | .rdval _ | .wrval _
  | .beq _ | .bne _ | .bcs _ | .bcc _ | .bhi _ | .bls _ | .bgt _ | .ble _ | .bfs _ | .bfc _
  | .blo _ | .bhs _ | .blt _ | .bge _ | .br _ | .cmpqb _ _ | .cmpqw _ _ | .cmpqd _ _ | .lprb _ _
  | .lprw _ _ | .lprd _ _ | .lmr _ _ | .cmpb _ _ | .cmpw _ _ | .cmpd _ _ | .tbitb _ _
  | .tbitw _ _ | .tbitd _ _ | .cmpsb _ _ | .cmpsw _ _ | .cmpsd _ _ | .cmpst _ _ | .skpsb _ _
  | .skpsw _ _ | .skpsd _ _ | .skpst _ _ | .cmpf _ _ | .cmpl _ _ | .polyf _ _ | .polyl _ _
  | .dotf _ _ | .dotl _ _ | .cmpmb _ _ _ | .cmpmw _ _ _ | .cmpmd _ _ _ | .checkb _ _ _
  | .checkw _ _ _ | .checkd _ _ _ | .indexb _ _ _ | .indexw _ _ _ | .indexd _ _ _ | .cinv _ _ _ _ => True
  | _ => False

/-- A trap taken from a state, with the address of the instruction as the return address and P clear
in the image (R506, R530). -/
def trapped (s : State) (v : Nat) : Host.Outcome State Fault Refusal :=
  takeException s v s.pc false (s.psr &&& 0xFBFF)

/-- A bit instruction on a register (R320): F receives the bit and `post` gives the state from the
state after the offset is read, the bit's number and its value. An offset outside 0 to 31 leaves F, and
the register where `post` would write it, free values (U15). -/
def BitInRegister (i : Instr) (w : Nat) (a : Gen) (r : Reg) (s : State)
    (post : State → Nat → Bool → State) : Prop :=
  ∃ (x : BitVec w) (s₁ : State), readGen .int w s.sp a s = .ok (x, s₁) ∧
    (0 ≤ x.toInt ∧ x.toInt < 32 →
      let old := (s₁.reg r).getLsbD x.toInt.toNat
      exec i s = .next (((post s₁ x.toInt.toNat old).setF old).advance i.length)) ∧
    (x.toInt < 0 ∨ 32 ≤ x.toInt → ∃ t, exec i s = .next (t.advance i.length) ∧
      (∀ q, q ≠ r → t.reg q = s₁.reg q) ∧ (t.psr ^^^ s₁.psr) &&& 0xFFDF = 0 ∧ t.mem = s₁.mem ∧
      t.sp0 = s₁.sp0 ∧ t.sp1 = s₁.sp1 ∧ t.fd = s₁.fd ∧ t.fsr = s₁.fsr ∧ s₁.sameSystem t)

/-- A bit instruction in memory (R321): the byte and the number of the bit as the rule defines them;
`change` says what the bit becomes, if the byte is written. -/
def BitInMemory (i : Instr) (w : Nat) (a b : Gen) (s : State) (change : Option (Bool → Bool)) : Prop :=
  ∃ (x : BitVec w) (s₁ : State) (ea : Word) (v : Byte), readGen .int w s.sp a s = .ok (x, s₁) ∧
    genAddr s.sp s₁ b = .ok ea ∧
    let at_ := ea + BitVec.ofInt 32 (x.toInt / 8)
    let k := (x.toInt % 8).toNat
    match change with
    | none => s₁.read 8 at_ = .ok v ∧
        exec i s = .next ((s₁.setF (v.getLsbD k)).advance i.length)
    | some f => s₁.read 8 at_ .rmw = .ok v ∧
        ∃ (u : Byte) (t : State), (∀ j, j < 8 → u.getLsbD j = if j = k then f (v.getLsbD k) else v.getLsbD j) ∧
          s₁.write at_ u .rmw = .ok t ∧ exec i s = .next ((t.setF (v.getLsbD k)).advance i.length)

/-- The field that EXT or INS names: the double-word that holds it, where it starts there, and the
address it was read at, if it lies in memory (R330, R331, R335). -/
def fieldPlace (k : Access) (spi : Word) (s : State) (base : Gen) (off : Int) (d : Word) (start : Int)
    (at_ : Option Word) : Prop :=
  (∃ r, base = .plain (.reg r) ∧ d = s.reg r ∧ start = off ∧ at_ = none) ∨
  ((∀ r, base ≠ .plain (.reg r)) ∧ ∃ ea, genAddr spi s base = .ok ea ∧
    s.read 32 (ea + BitVec.ofInt 32 (off / 8)) k = .ok d ∧ start = off % 8 ∧
    at_ = some (ea + BitVec.ofInt 32 (off / 8)))

/-- A field of n bits from `start` lies in a double-word and has a length the manual defines (R330,
R332, R335). -/
def fieldDefined (start n : Int) : Prop := 0 ≤ start ∧ 1 ≤ n ∧ n ≤ 32 ∧ start + n ≤ 32

/-- EXTi and EXTSi complete (R336, R337). -/
def ExtractCompletes (i : Instr) (w : Nat) (a b : Gen) (s : State) (off n : Int) : Prop :=
  ∃ d start at_ l, fieldPlace .read s.sp s a off d start at_ ∧ writeLoc .int s.sp b s = .ok l ∧
    (fieldDefined start n → ∃ t,
      writeAt l (BitVec.ofNat w (d.toNat / 2 ^ start.toNat % 2 ^ n.toNat)) s = .ok t ∧
      exec i s = .next (t.advance i.length)) ∧
    (¬ fieldDefined start n → ∃ t, writeAt l (s.draw w).1 (s.draw w).2 = .ok t ∧
      exec i s = .next (t.advance i.length))

/-- INSi and INSSi complete (R338, R339). -/
def InsertCompletes (i : Instr) (w : Nat) (a b : Gen) (s : State) (off n : Int) : Prop :=
  ∃ (x : BitVec w) (s₁ : State) (d : Word) (start : Int) (at_ : Option Word),
    readGen .int w s.sp a s = .ok (x, s₁) ∧ fieldPlace .rmw s.sp s₁ b off d start at_ ∧
    ∃ (v : Word) (s₂ : State),
      (fieldDefined start n → s₂ = s₁ ∧ ∀ j, j < 32 → v.getLsbD j =
        if start.toNat ≤ j ∧ j < start.toNat + n.toNat then x.getLsbD (j - start.toNat)
        else d.getLsbD j) ∧
      (¬ fieldDefined start n → (v, s₂) = s₁.draw 32) ∧
      (∀ r, b = .plain (.reg r) → exec i s = .next ((s₂.setReg r v).advance i.length)) ∧
      ∀ p, at_ = some p → ∃ t, s₂.write p v .rmw = .ok t ∧ exec i s = .next (t.advance i.length)

/-- What FFS delivers for an offset less than the length (R328): the least set bit from it on with
F = 0, or 0 with F = 1. -/
def firstSetResult {w : Nat} (x : BitVec w) (y : BitVec 8) (s : State) : BitVec 8 × State :=
  match ((List.range w).filter fun j => decide (y.toNat ≤ j) && x.getLsbD j).head? with
  | some j => (BitVec.ofNat 8 j, s.setF false)
  | none => (0, s.setF true)

/-- The number of elements of a block (R365), where the length displacement gives one. -/
def blockElements (w : Nat) (d : Disp) : Option Nat :=
  let v := (dispValue d).toInt
  let n : Nat := w / 8
  if 0 ≤ v ∧ v + n ≤ 16 ∧ v % n = 0 then some (v.toNat / n + 1) else none

/-- Copies k elements in turn, each read after the one before was written (R366). -/
def copyElements (w : Nat) : Nat → Word → Word → State → Except Stop State
  | 0, _, _, s => .ok s
  | k + 1, p, q, s =>
    match s.read w p with
    | .error e => .error e
    | .ok x =>
      match s.write q x with
      | .error e => .error e
      | .ok s => copyElements w k (p + BitVec.ofNat 32 (w / 8)) (q + BitVec.ofNat 32 (w / 8)) s

/-- Two blocks of k elements of w bits share no byte (R365). -/
def blocksApart (w k : Nat) (p q : Word) : Prop :=
  ∀ i j : Nat, i < k * (w / 8) → j < k * (w / 8) → p + BitVec.ofNat 32 i ≠ q + BitVec.ofNat 32 j

/-- The number of elements that a block instruction processes, and the state after it is found: a free
value where the length displacement gives none (R365, U23; log 37). -/
def openCount (w : Nat) (d : Disp) (s : State) : Nat × State :=
  match blockElements w d with
  | some k => (k, s)
  | none => ((s.draw 32).1.toNat, (s.draw 32).2)

/-- Writes free values, one after another, to k elements (R365, U24; log 38). -/
def freeElements (w : Nat) : Nat → Word → State → Except Stop State
  | 0, _, s => .ok s
  | k + 1, q, s =>
    match (s.draw w).2.write q (s.draw w).1 with
    | .error e => .error e
    | .ok s => freeElements w k (q + BitVec.ofNat 32 (w / 8)) s

/-- MOVMi completes: it copies the elements where the blocks share no byte, and leaves free values
where they do; it changes no register, no flag and no byte outside the destination (R365, R366, U23,
U24; logs 37, 38). -/
def MoveBlockCompletes (i : Instr) (w : Nat) (a b : Gen) (d : Disp) (s : State) : Prop :=
  ∃ p q t, genAddr s.sp s a = .ok p ∧ genAddr s.sp s b = .ok q ∧ exec i s = .next (t.advance i.length) ∧
    let k := (openCount w d s).1
    let s₁ := (openCount w d s).2
    (blocksApart w k p q → copyElements w k p q s₁ = .ok t) ∧
    (¬ blocksApart w k p q → freeElements w k q s₁ = .ok t) ∧
    t.regs = s.regs ∧ t.psr = s.psr ∧ t.sp0 = s.sp0 ∧ t.sp1 = s.sp1 ∧ t.fd = s.fd ∧ t.fsr = s.fsr ∧
    s.sameSystem t ∧
    ∀ pa, (∀ j x, j < k * (w / 8) → s.translate .write s.flagU (q + BitVec.ofNat 32 j) = some x →
      pa ≠ x.toNat) → t.mem.get pa = s.mem.get pa

/-- CMPMi completes: it compares pairs of elements up to the first that differ, and changes Z, N and L
alone (R367, U23; log 37). -/
def CompareBlockCompletes (i : Instr) (w : Nat) (a b : Gen) (d : Disp) (s : State) : Prop :=
  ∃ p q, genAddr s.sp s a = .ok p ∧ genAddr s.sp s b = .ok q ∧
    let k := (openCount w d s).1
    let s₁ := (openCount w d s).2
    ((∀ j, j < k → s.read w (p + BitVec.ofNat 32 (j * (w / 8))) =
        s.read w (q + BitVec.ofNat 32 (j * (w / 8)))) →
      exec i s = .next ((s₁.setZNL true false false).advance i.length)) ∧
    (∀ j (x y : BitVec w), j < k →
      (∀ m, m < j → s.read w (p + BitVec.ofNat 32 (m * (w / 8))) =
        s.read w (q + BitVec.ofNat 32 (m * (w / 8)))) →
      s.read w (p + BitVec.ofNat 32 (j * (w / 8))) = .ok x →
      s.read w (q + BitVec.ofNat 32 (j * (w / 8))) = .ok y → x ≠ y →
      exec i s = .next ((s₁.setZNL false (decide (y.toInt < x.toInt))
        (decide (y.toNat < x.toNat))).advance i.length)) ∧
    ∃ z n l, exec i s = .next ((s₁.setZNL z n l).advance i.length)

/-- One element of a string instruction, or its end, where R0 is negative: a free value decides whether
the instruction ends here, with R0 as it is and F = 0; else the element is processed as R354 says (R350,
U20; log 36). -/
def StringOpenCount (i : Instr) (kind : StringKind) (w : Nat) (u : Until) (back t : Bool)
    (s : State) : Prop :=
  let s₀ := if kind = .cmps then s.setZNL true false false else s
  let m := (s₀.draw 1).2
  (s.reg 0).msb = true →
    ((s₀.draw 1).1 = 1 → exec i s = .next (stringEnd m false)) ∧
    ((s₀.draw 1).1 ≠ 1 → ∃ x y : BitVec w, m.read w (m.reg 1) = .ok x ∧
      (if t then m.read w (m.reg 3 + x.setWidth 32) = .ok y else y = x) ∧
      ((u = .untilMatch ∧ y = (m.reg 4).setWidth w ∨ u = .whileMatch ∧ y ≠ (m.reg 4).setWidth w) →
        exec i s = .next (stringEnd m true)) ∧
      ((u = .none ∨ u = .untilMatch ∧ y ≠ (m.reg 4).setWidth w ∨
          u = .whileMatch ∧ y = (m.reg 4).setWidth w) →
        match kind with
        | .movs => ∃ n, m.write (m.reg 2) y = .ok n ∧ exec i s = .next (stringNext w back true n)
        | .skps => exec i s = .next (stringNext w back false m)
        | .cmps => ∃ z : BitVec w, m.read w (m.reg 2) = .ok z ∧
            (y = z → exec i s = .next (stringNext w back true (m.setZNL true false false))) ∧
            (y ≠ z → exec i s = .next (stringEnd (m.setZNL false (decide (z.toInt < y.toInt))
              (decide (z.toNat < y.toNat))) false))))

/-- F0 receives the result of DOTf or POLYf (R265, R266). -/
def accumulated {w : Nat} (s : State) (reserved : Bool) (r : Except Stop (BitVec w × Word)) :
    Option State :=
  if reserved then none
  else match r with
    | .ok (v, f) => some (State.setFreg { s with fsr := f } 0 v)
    | .error _ => none

/-- The state with a processor register loaded from a w-bit value (R431; D10, log 6). -/
def loaded {w : Nat} (s : State) (r : ProcReg) (x : BitVec w) : State :=
  let v : Word := x.setWidth 32
  match r with
  | .upsr => { s with psr := ((s.psr &&& 0xFF00) ||| (x.setWidth 8).setWidth 16) &&& 0x0FF7 }
  | .psr =>
    if w = 8 then { s with psr := ((s.psr &&& 0xFF00) ||| (x.setWidth 8).setWidth 16) &&& 0x0FF7 }
    else { s with psr := x.setWidth 16 &&& 0x0FF7 }
  | .dcr => { s with dcr := v }
  | .bpc => { s with bpc := v }
  | .dsr => { s with dsr := v }
  | .car => { s with car := v }
  | .fp => { s with fp := v }
  | .sp => if s.flagS then { s with sp1 := v } else { s with sp0 := v }
  | .sb => { s with sb := v }
  | .usp => { s with sp1 := v }
  | .cfg => { s with cfg := (v &&& 0x00003F0F) ||| 0x000000F0 }
  | .intbase => { s with intbase := v }
  | .mod => { s with mod := x.setWidth 16 }

/-- The value of a processor register as 32 bits (R432). -/
def stored (s : State) : ProcReg → Word
  | .upsr => s.psr.setWidth 32 &&& 0xFF
  | .psr => s.psr.setWidth 32
  | .dcr => s.dcr
  | .bpc => s.bpc
  | .dsr => s.dsr
  | .car => s.car
  | .fp => s.fp
  | .sp => if s.flagS then s.sp1 else s.sp0
  | .sb => s.sb
  | .usp => s.sp1
  | .cfg => s.cfg
  | .intbase => s.intbase
  | .mod => s.mod.setWidth 32

/-! ## Floating-point values as numbers -/

/-- The rational number that an exact value is (R251). -/
def Exact.val (x : Exact) : ℚ := (if x.neg then -1 else 1) * x.mant * (2 : ℚ) ^ x.exp

/-- m is q rounded to p significant bits in a rounding mode (R61, R256): where 2^(e + p - 1) ≤ |q| <
2^(e + p), m is a multiple of 2^e of at most p bits (or 2^p of them) less than one unit from q, and
the nearest one (of two, the even one), or the one toward zero, above or below. -/
def RoundsTo (p : Nat) (rm : BitVec 2) (q m : ℚ) : Prop :=
  ∀ e : ℤ, (2 : ℚ) ^ (e + p - 1) ≤ |q| → |q| < (2 : ℚ) ^ (e + p) →
    ∃ k : ℤ, m = k * (2 : ℚ) ^ e ∧ k.natAbs ≤ 2 ^ p ∧ |m - q| < (2 : ℚ) ^ e ∧
      (rm = 0 → 2 * |m - q| ≤ (2 : ℚ) ^ e ∧ (2 * |m - q| = (2 : ℚ) ^ e → k % 2 = 0)) ∧
      (rm = 1 → |m| ≤ |q| ∧ 0 ≤ m * q) ∧ (rm = 2 → q ≤ m) ∧ (rm = 3 → m ≤ q)

/-- FSR with TT replaced, and UF or IF set (R64 to R66, R257). -/
def fsrAfter (fsr : Word) (tt : Word) (sticky : Word) : Word := (fsr &&& 0xFFFFFFF8) ||| tt ||| sticky

/-- An inexact result: TT = 110 and IF, and the trap where IEN asks for it (R257). -/
def deliveredInexact {α : Type} (fsr : Word) (v : α) (r : Except Stop (α × Word)) : Prop :=
  r = if fsr.getLsbD 5 then .error (.fpu (fsrAfter fsr 6 0x40)) else .ok (v, fsrAfter fsr 6 0x40)

end Sys2Proof.Machine
end

