-- ==== Sys2Proof/Certificates/Slice0/Obligations.lean ====
section
/-! DEFINITION. The statements about this machine, for the provers. Each docstring cites the rules of
spec/ that it formalises; a log number marks what is the model's choice. -/

open Sys2Proof Sys2Proof.Machine

/-! ## Encoding -/

/-- Decode and encode agree (R120 to R128, R143 to R177). -/
def Obligations.DecodeReadsWhatEncodeWrites : Prop :=
  ∀ (i : Instr) (rest : List Byte), i.wellFormed = true → decode (encode i ++ rest) = .ok (i, rest)

/-- Eight byte strings that the source prints (R186 and the examples of the instruction entries). -/
def Obligations.SampleWordsDecode : Prop :=
  decode [0x40, 0x00] = .ok (.addb (.plain (.reg 0)) (.plain (.reg 1)), []) ∧
  decode [0x03, 0xD6, 0x04, 0x7C] =
    .ok (.addd (.plain (.static (.d7 4))) (.plain (.frame (.d7 0x7C))), []) ∧
  decode [0x0C, 0x04] = .ok (.addqb 8 (.plain (.reg 0)), []) ∧
  decode [0xCE, 0xA3, 0x86, 0x7C, 0x04, 0x03] =
    .ok (.muld (.plain (.frameRel (.d7 0x7C) (.d7 4))) (.plain (.static (.d7 3))), []) ∧
  decode [0x2E, 0x00, 0xD7, 0xD1, 0x0A, 0x00, 0x05] =
    .ok (.extb 0 (.plain (.static (.d7 10))) (.indexed .b (.static (.d7 0)) 1) (.d7 5), []) ∧
  decode [0xBE, 0xC1, 0x01] = .ok (.addf (.plain (.reg 0)) (.plain (.reg 7)), []) ∧
  decode [0x62, 0x85] = .ok (.save 0x85, []) ∧
  decode [0x03, 0xB6, 0x08, 0x80, 0x50, 0x7C] =
    .ok (.addd (.plain (.ext (.d7 8) (.d14 80))) (.plain (.frame (.d7 0x7C))), [])

/-! ## The machine -/

/-- The state after Reset (R74, R561): only what the spec gives. -/
def Obligations.ResetValues : Prop :=
  State.reset.pc = 0 ∧ State.reset.psr = 0 ∧ State.reset.fsr &&& 0x00010057 = 0 ∧
    State.reset.cfg &&& 0x000000F0 = 0x000000F0

/-- The invariant that every step keeps holds at reset. -/
def Obligations.InvariantAtReset : Prop :=
  State.reset.Inv

/-- An invariant of every step (R33, R48, R56, R60; D10, log 6). -/
def Obligations.StepKeepsInvariant : Prop :=
  ∀ s t : State, s.Inv → step s = .next t → t.Inv

/-- A step runs the decoded instruction (R24, R120, R523, R530; log 16). -/
def Obligations.StepRunsTheDecodedInstruction : Prop :=
  ∀ (s : State) (i : Instr) (rest : List Byte), s.resetRequest = false → s.waiting = false →
    s.entryFault = false → i.wellFormed = true → decode (fetchBytes s maxLength s.pc).1 = .ok (i, rest) →
    step s = settle (exec i (s.setFlag 10 s.flagT)) ∧
    (∀ t, exec i (s.setFlag 10 s.flagT) = .next t →
      (t.boundary = .trapped → step s = .next t) ∧
      (t.nmiPending = false → t.intRequest = false → t.boundary = .element → step s = .next t) ∧
      (t.nmiPending = false → t.intRequest = false → t.boundary = .done → t.flagP = false →
        step s = .next t))

/-- What the boundary of an instruction takes (R520 to R524, R530; logs 10, 16, 17). -/
def Obligations.InterruptsAndTraceAtTheBoundary : Prop :=
  ∀ t : State, t.boundary = .done →
    (t.nmiPending = true → ∀ b, t.readByte .read false 0xFFFFFF00 = .ok b →
      settle (.next t) = takeException { t with nmiPending := false } 1 t.pc true t.psr) ∧
    (t.nmiPending = false → t.intRequest = true → t.flagI = true →
      ∀ b, t.readByte .read false 0xFFFFFE00 = .ok b →
      settle (.next t) = takeException t (if t.cfgI then b.toNat else 0) t.pc true t.psr) ∧
    (t.nmiPending = false → (t.intRequest = false ∨ t.flagI = false) → t.flagP = true →
      settle (.next t) = takeException t 9 t.pc false (t.psr &&& 0xFBFF)) ∧
    (t.nmiPending = false → (t.intRequest = false ∨ t.flagI = false) → t.flagP = false →
      settle (.next t) = .next t)

/-- Mode changes (R580): to Supervisor mode only by an exception, to User mode only by a load of PSR. -/
def Obligations.SupervisorModeIsEnteredOnlyByException : Prop :=
  (∀ s t : State, s.flagU = true → s.resetRequest = false → step s = .next t →
      t.flagU = false → t.boundary = .trapped) ∧
  (∀ (i : Instr) (s t : State), s.flagU = false → exec i s = .next t → t.flagU = true →
      (∃ d, i = .rett d) ∨ i = .reti ∨ (∃ g, i = .lprw .psr g) ∨ (∃ g, i = .lprd .psr g) ∨
        ∃ g, i = .bispsrw g)

/-- Privilege (R503, R430): what no User-mode instruction changes. -/
def Obligations.UserModeCannotReachProtectedState : Prop :=
  ∀ (i : Instr) (s t : State), s.flagU = true → exec i s = .next t → t.boundary ≠ .trapped →
    t.intbase = s.intbase ∧ t.cfg = s.cfg ∧ t.ptb0 = s.ptb0 ∧ t.ptb1 = s.ptb1 ∧
    t.tear = s.tear ∧ t.mcr = s.mcr ∧ t.msr = s.msr ∧ t.dcr = s.dcr ∧ t.dsr = s.dsr ∧
    t.car = s.car ∧ t.bpc = s.bpc ∧ (if s.flagS then t.sp0 = s.sp0 else t.sp1 = s.sp1) ∧
    (t.psr ^^^ s.psr) &&& 0x0F00 = 0

/-- Memory protection in User mode (R99, R505; D7, log 8). -/
def Obligations.UserModeStoresOnlyWhereItMay : Prop :=
  ∀ (i : Instr) (s t : State) (pa : Nat), s.flagU = true → exec i s = .next t →
    t.boundary ≠ .trapped → t.mem.get pa ≠ s.mem.get pa →
    ∃ (k : Access) (va q : Word), (k = .write ∨ k = .rmw) ∧ s.translate k true va = some q ∧
      pa = q.toNat

/-- No instruction is stuck (R510, R513; D23, log 21). -/
def Obligations.EveryInstructionGoesOn : Prop :=
  ∀ (i : Instr) (s : State), i.wellFormed = true → s.accessible → (¬ isCustom i ∨ s.cfgC = false) →
    ∃ t, exec i s = .next t

/-! ## Memory, registers and operands -/

/-- Little-endian memory (R81, R82). -/
def Obligations.MemoryReadAfterWrite : Prop :=
  ∀ (s : State) (va : Word) (n : Nat) (v : BitVec (8 * n)), n = 1 ∨ n = 2 ∨ n = 4 ∨ n = 8 →
    s.xlate = [] → s.mem.wf = true →
    ∃ t, s.write va v = .ok t ∧ t.read (8 * n) va = .ok v ∧
      (∀ j, j < n → t.mem.get (va + BitVec.ofNat 32 j).toNat = v.extractLsb' (8 * j) 8) ∧
      ∀ pa, (∀ j, j < n → pa ≠ (va + BitVec.ofNat 32 j).toNat) → t.mem.get pa = s.mem.get pa

/-- Trap(OVF) (R203, R206 to R218, R308, R371, R386; D14, logs 10, 15, 16) and Trap(FPU) (R253, R257, R258,
R278; logs 10, 16, 42). -/
def Obligations.OverflowAndFloatTraps : Prop :=
  ∀ (s : State) (q : BitVec 4) (r : Reg) (a b : Gen) (d : Disp),
    OverflowsRmw (.addcb a b) .int 8 8 a b s (fun x y s =>
      whereOverflow (outOfRange 8 (x.toInt + y.toInt + s.flagC.toNat))
        (BitVec.ofNat 8 (x.toNat + y.toNat + s.flagC.toNat),
          (s.setC (decide (2 ^ 8 ≤ x.toNat + y.toNat + s.flagC.toNat))).setF true)) ∧
    OverflowsModify (.addqb q b) 8 b s (fun y s =>
      whereOverflow (outOfRange 8 (y.toInt + q.toInt))
        (BitVec.ofInt 8 (y.toInt + q.toInt),
          (s.setC (decide (2 ^ 8 ≤ y.toNat + (q.signExtend 8).toNat))).setF true)) ∧
    OverflowsRmw (.subcb a b) .int 8 8 a b s (fun x y s =>
      whereOverflow (outOfRange 8 (y.toInt - x.toInt - s.flagC.toNat))
        (BitVec.ofInt 8 ((y.toNat : Int) - x.toNat - s.flagC.toNat),
          (s.setC (decide (y.toNat < x.toNat + s.flagC.toNat))).setF true)) ∧
    OverflowsWrite (.negb a b) 8 a b s (fun x s =>
      whereOverflow (decide (x.toInt = -2 ^ (8 - 1))) (x, (s.setC true).setF true)) ∧
    OverflowsWrite (.absb a b) 8 a b s (fun x s =>
      whereOverflow (decide (x.toInt = -2 ^ (8 - 1))) (x, s.setF true)) ∧
    OverflowsRmw (.mulb a b) .int 8 8 a b s (fun x y s =>
      whereOverflow (outOfRange 8 (x.toInt * y.toInt)) (BitVec.ofInt 8 (x.toInt * y.toInt), s)) ∧
    OverflowsRmw (.divb a b) .int 8 8 a b s (fun x y s =>
      whereOverflow (decide (y.toInt = -2 ^ (8 - 1) ∧ x.toInt = -1)) (y, s)) ∧
    OverflowsRmw (.quob a b) .int 8 8 a b s (fun x y s =>
      whereOverflow (decide (y.toInt = -2 ^ (8 - 1) ∧ x.toInt = -1)) (y, s)) ∧
    OverflowsRmw (.deib a b) .pair 8 16 a b s (fun x y s =>
      whereOverflow (decide (x.toNat ≠ 0 ∧ 2 ^ 8 ≤ y.toNat / x.toNat)) (s.draw 16)) ∧
    OverflowsRmw (.ashb a b) .int 8 8 a b s (fun c y s =>
      whereOverflow (decide (0 ≤ c.toInt ∧ c.toInt < 8) && outOfRange 8 (y.toInt * 2 ^ c.toInt.toNat))
        (BitVec.ofInt 8 (y.toInt * 2 ^ c.toInt.toNat), s)) ∧
    (∀ (ea : Word) (x : BitVec 8) (s₁ : State) (up lo : BitVec 8), genAddr s.sp s a = .ok ea →
      readGen .int 8 s.sp b s = .ok (x, s₁) → s₁.read 8 ea = .ok up →
      s₁.read 8 (ea + 1) = .ok lo → (x.toInt < lo.toInt ∨ up.toInt < x.toInt) → s₁.flagV = true →
      overflowsTo (.checkb r a b) s ((((s₁.setF true).draw 32).2.setReg r
        ((s₁.setF true).draw 32).1).advance (Instr.checkb r a b).length)) ∧
    (∀ (l : Loc) (y : BitVec 8) (s₁ t : State), rmwLoc .int s.sp b s = .ok l →
      readAt 8 l s = .ok (y, s₁) → writeAt l (y + BitVec.ofInt 8 q.toInt) s₁ = .ok t →
      s.flagV = true → outOfRange 8 (y.toInt + q.toInt) = true →
      overflowsTo (.acbb q b d) s (t.jump (s.pc + dispValue d))) ∧
    OverflowsRmw (.addcw a b) .int 16 16 a b s (fun x y s =>
      whereOverflow (outOfRange 16 (x.toInt + y.toInt + s.flagC.toNat))
        (BitVec.ofNat 16 (x.toNat + y.toNat + s.flagC.toNat),
          (s.setC (decide (2 ^ 16 ≤ x.toNat + y.toNat + s.flagC.toNat))).setF true)) ∧
    OverflowsModify (.addqw q b) 16 b s (fun y s =>
      whereOverflow (outOfRange 16 (y.toInt + q.toInt))
        (BitVec.ofInt 16 (y.toInt + q.toInt),
          (s.setC (decide (2 ^ 16 ≤ y.toNat + (q.signExtend 16).toNat))).setF true)) ∧
    OverflowsRmw (.subcw a b) .int 16 16 a b s (fun x y s =>
      whereOverflow (outOfRange 16 (y.toInt - x.toInt - s.flagC.toNat))
        (BitVec.ofInt 16 ((y.toNat : Int) - x.toNat - s.flagC.toNat),
          (s.setC (decide (y.toNat < x.toNat + s.flagC.toNat))).setF true)) ∧
    OverflowsWrite (.negw a b) 16 a b s (fun x s =>
      whereOverflow (decide (x.toInt = -2 ^ (16 - 1))) (x, (s.setC true).setF true)) ∧
    OverflowsWrite (.absw a b) 16 a b s (fun x s =>
      whereOverflow (decide (x.toInt = -2 ^ (16 - 1))) (x, s.setF true)) ∧
    OverflowsRmw (.mulw a b) .int 16 16 a b s (fun x y s =>
      whereOverflow (outOfRange 16 (x.toInt * y.toInt)) (BitVec.ofInt 16 (x.toInt * y.toInt), s)) ∧
    OverflowsRmw (.divw a b) .int 16 16 a b s (fun x y s =>
      whereOverflow (decide (y.toInt = -2 ^ (16 - 1) ∧ x.toInt = -1)) (y, s)) ∧
    OverflowsRmw (.quow a b) .int 16 16 a b s (fun x y s =>
      whereOverflow (decide (y.toInt = -2 ^ (16 - 1) ∧ x.toInt = -1)) (y, s)) ∧
    OverflowsRmw (.deiw a b) .pair 16 32 a b s (fun x y s =>
      whereOverflow (decide (x.toNat ≠ 0 ∧ 2 ^ 16 ≤ y.toNat / x.toNat)) (s.draw 32)) ∧
    OverflowsRmw (.ashw a b) .int 8 16 a b s (fun c y s =>
      whereOverflow (decide (0 ≤ c.toInt ∧ c.toInt < 16) && outOfRange 16 (y.toInt * 2 ^ c.toInt.toNat))
        (BitVec.ofInt 16 (y.toInt * 2 ^ c.toInt.toNat), s)) ∧
    (∀ (ea : Word) (x : BitVec 16) (s₁ : State) (up lo : BitVec 16), genAddr s.sp s a = .ok ea →
      readGen .int 16 s.sp b s = .ok (x, s₁) → s₁.read 16 ea = .ok up →
      s₁.read 16 (ea + 2) = .ok lo → (x.toInt < lo.toInt ∨ up.toInt < x.toInt) → s₁.flagV = true →
      overflowsTo (.checkw r a b) s ((((s₁.setF true).draw 32).2.setReg r
        ((s₁.setF true).draw 32).1).advance (Instr.checkw r a b).length)) ∧
    (∀ (l : Loc) (y : BitVec 16) (s₁ t : State), rmwLoc .int s.sp b s = .ok l →
      readAt 16 l s = .ok (y, s₁) → writeAt l (y + BitVec.ofInt 16 q.toInt) s₁ = .ok t →
      s.flagV = true → outOfRange 16 (y.toInt + q.toInt) = true →
      overflowsTo (.acbw q b d) s (t.jump (s.pc + dispValue d))) ∧
    OverflowsRmw (.addcd a b) .int 32 32 a b s (fun x y s =>
      whereOverflow (outOfRange 32 (x.toInt + y.toInt + s.flagC.toNat))
        (BitVec.ofNat 32 (x.toNat + y.toNat + s.flagC.toNat),
          (s.setC (decide (2 ^ 32 ≤ x.toNat + y.toNat + s.flagC.toNat))).setF true)) ∧
    OverflowsModify (.addqd q b) 32 b s (fun y s =>
      whereOverflow (outOfRange 32 (y.toInt + q.toInt))
        (BitVec.ofInt 32 (y.toInt + q.toInt),
          (s.setC (decide (2 ^ 32 ≤ y.toNat + (q.signExtend 32).toNat))).setF true)) ∧
    OverflowsRmw (.subcd a b) .int 32 32 a b s (fun x y s =>
      whereOverflow (outOfRange 32 (y.toInt - x.toInt - s.flagC.toNat))
        (BitVec.ofInt 32 ((y.toNat : Int) - x.toNat - s.flagC.toNat),
          (s.setC (decide (y.toNat < x.toNat + s.flagC.toNat))).setF true)) ∧
    OverflowsWrite (.negd a b) 32 a b s (fun x s =>
      whereOverflow (decide (x.toInt = -2 ^ (32 - 1))) (x, (s.setC true).setF true)) ∧
    OverflowsWrite (.absd a b) 32 a b s (fun x s =>
      whereOverflow (decide (x.toInt = -2 ^ (32 - 1))) (x, s.setF true)) ∧
    OverflowsRmw (.muld a b) .int 32 32 a b s (fun x y s =>
      whereOverflow (outOfRange 32 (x.toInt * y.toInt)) (BitVec.ofInt 32 (x.toInt * y.toInt), s)) ∧
    OverflowsRmw (.divd a b) .int 32 32 a b s (fun x y s =>
      whereOverflow (decide (y.toInt = -2 ^ (32 - 1) ∧ x.toInt = -1)) (y, s)) ∧
    OverflowsRmw (.quod a b) .int 32 32 a b s (fun x y s =>
      whereOverflow (decide (y.toInt = -2 ^ (32 - 1) ∧ x.toInt = -1)) (y, s)) ∧
    OverflowsRmw (.deid a b) .pair 32 64 a b s (fun x y s =>
      whereOverflow (decide (x.toNat ≠ 0 ∧ 2 ^ 32 ≤ y.toNat / x.toNat)) (s.draw 64)) ∧
    OverflowsRmw (.ashd a b) .int 8 32 a b s (fun c y s =>
      whereOverflow (decide (0 ≤ c.toInt ∧ c.toInt < 32) && outOfRange 32 (y.toInt * 2 ^ c.toInt.toNat))
        (BitVec.ofInt 32 (y.toInt * 2 ^ c.toInt.toNat), s)) ∧
    (∀ (ea : Word) (x : BitVec 32) (s₁ : State) (up lo : BitVec 32), genAddr s.sp s a = .ok ea →
      readGen .int 32 s.sp b s = .ok (x, s₁) → s₁.read 32 ea = .ok up →
      s₁.read 32 (ea + 4) = .ok lo → (x.toInt < lo.toInt ∨ up.toInt < x.toInt) → s₁.flagV = true →
      overflowsTo (.checkd r a b) s ((((s₁.setF true).draw 32).2.setReg r
        ((s₁.setF true).draw 32).1).advance (Instr.checkd r a b).length)) ∧
    (∀ (l : Loc) (y : BitVec 32) (s₁ t : State), rmwLoc .int s.sp b s = .ok l →
      readAt 32 l s = .ok (y, s₁) → writeAt l (y + BitVec.ofInt 32 q.toInt) s₁ = .ok t →
      s.flagV = true → outOfRange 32 (y.toInt + q.toInt) = true →
      overflowsTo (.acbd q b d) s (t.jump (s.pc + dispValue d))) ∧
    (s.cfgF = true →
    FloatTrapsRmw (.addf a b) 32 a b s (fun x y =>
      floatFailure s.fsr (fpReserved x || fpReserved y) (fpAdd 32 s.fsr (fpValue x) (fpValue y))) ∧
    FloatTrapsRmw (.subf a b) 32 a b s (fun x y =>
      floatFailure s.fsr (fpReserved x || fpReserved y) (fpAdd 32 s.fsr (fpValue x).negate (fpValue y))) ∧
    FloatTrapsRmw (.mulf a b) 32 a b s (fun x y =>
      floatFailure s.fsr (fpReserved x || fpReserved y) (fpDeliver 32 s.fsr ((fpValue x).mul (fpValue y)) (fpSign x ^^ fpSign y))) ∧
    FloatTrapsRmw (.divf a b) 32 a b s (fun x y =>
      if fpIsZero x || fpIsZero y then none
      else floatFailure s.fsr (fpReserved x || fpReserved y) (fpDeliver 32 s.fsr ((fpValue y).div 24 (fpValue x)) false)) ∧
    FloatTrapsRmw (.scalbf a b) 32 a b s (fun x y =>
      if fpIsZero y then none
      else floatFailure s.fsr (fpReserved x || fpReserved y) (fpDeliver 32 s.fsr
        { fpValue y with exp := (fpValue y).exp + (fpValue x).toInteger .trunc } false)) ∧
    FloatTrapsCompare (.cmpf a b) 32 a b s (fun x y =>
      floatFailure s.fsr (fpReserved x || fpReserved y) (.ok ())) ∧
    FloatTrapsCompare (.dotf a b) 32 a b s (fun x y =>
      floatFailure s.fsr (fpReserved x || fpReserved y || fpReserved (s.freg 32 0))
        (mulAdd 32 s.fsr (fpValue x) (fpValue y) (fpValue (s.freg 32 0)))) ∧
    FloatTrapsCompare (.polyf a b) 32 a b s (fun x y =>
      floatFailure s.fsr (fpReserved x || fpReserved y || fpReserved (s.freg 32 0))
        (mulAdd 32 s.fsr (fpValue (s.freg 32 0)) (fpValue x) (fpValue y))) ∧
    FloatTrapsWrite (.negf a b) .float .float 32 a b s (fun x =>
      floatFailure s.fsr (fpReserved x) (.ok ())) ∧
    FloatTrapsWrite (.absf a b) .float .float 32 a b s (fun x =>
      floatFailure s.fsr (fpReserved x) (.ok ())) ∧
    FloatTrapsWrite (.logbf a b) .float .float 32 a b s (fun x =>
      floatFailure s.fsr (fpReserved x) (.ok ())) ∧
    FloatTrapsRmw (.addl a b) 64 a b s (fun x y =>
      floatFailure s.fsr (fpReserved x || fpReserved y) (fpAdd 64 s.fsr (fpValue x) (fpValue y))) ∧
    FloatTrapsRmw (.subl a b) 64 a b s (fun x y =>
      floatFailure s.fsr (fpReserved x || fpReserved y) (fpAdd 64 s.fsr (fpValue x).negate (fpValue y))) ∧
    FloatTrapsRmw (.mull a b) 64 a b s (fun x y =>
      floatFailure s.fsr (fpReserved x || fpReserved y) (fpDeliver 64 s.fsr ((fpValue x).mul (fpValue y)) (fpSign x ^^ fpSign y))) ∧
    FloatTrapsRmw (.divl a b) 64 a b s (fun x y =>
      if fpIsZero x || fpIsZero y then none
      else floatFailure s.fsr (fpReserved x || fpReserved y) (fpDeliver 64 s.fsr ((fpValue y).div 53 (fpValue x)) false)) ∧
    FloatTrapsRmw (.scalbl a b) 64 a b s (fun x y =>
      if fpIsZero y then none
      else floatFailure s.fsr (fpReserved x || fpReserved y) (fpDeliver 64 s.fsr
        { fpValue y with exp := (fpValue y).exp + (fpValue x).toInteger .trunc } false)) ∧
    FloatTrapsCompare (.cmpl a b) 64 a b s (fun x y =>
      floatFailure s.fsr (fpReserved x || fpReserved y) (.ok ())) ∧
    FloatTrapsCompare (.dotl a b) 64 a b s (fun x y =>
      floatFailure s.fsr (fpReserved x || fpReserved y || fpReserved (s.freg 64 0))
        (mulAdd 64 s.fsr (fpValue x) (fpValue y) (fpValue (s.freg 64 0)))) ∧
    FloatTrapsCompare (.polyl a b) 64 a b s (fun x y =>
      floatFailure s.fsr (fpReserved x || fpReserved y || fpReserved (s.freg 64 0))
        (mulAdd 64 s.fsr (fpValue (s.freg 64 0)) (fpValue x) (fpValue y))) ∧
    FloatTrapsWrite (.negl a b) .float .float 64 a b s (fun x =>
      floatFailure s.fsr (fpReserved x) (.ok ())) ∧
    FloatTrapsWrite (.absl a b) .float .float 64 a b s (fun x =>
      floatFailure s.fsr (fpReserved x) (.ok ())) ∧
    FloatTrapsWrite (.logbl a b) .float .float 64 a b s (fun x =>
      floatFailure s.fsr (fpReserved x) (.ok ())) ∧
    FloatTrapsWrite (.movdf a b) .int .float 32 a b s (fun x =>
      floatFailure s.fsr false (fpDeliver 32 s.fsr (exactOf x.toInt 0) false)) ∧
    FloatTrapsWrite (.movlf a b) .float .float 64 a b s (fun x =>
      floatFailure s.fsr (fpReserved x) (fpDeliver 32 s.fsr (fpValue x) (fpSign x))) ∧
    FloatTrapsWrite (.movfl a b) .float .float 32 a b s (fun x =>
      floatFailure s.fsr (fpReserved x) (fpDeliver 64 s.fsr (fpValue x) (fpSign x))) ∧
    FloatTrapsWrite (.roundfb a b) .float .int 32 a b s (fun x =>
      floatFailure s.fsr (fpReserved x) (fpToInt 8 s.fsr (fpValue x) .round)) ∧
    FloatTrapsWrite (.roundfw a b) .float .int 32 a b s (fun x =>
      floatFailure s.fsr (fpReserved x) (fpToInt 16 s.fsr (fpValue x) .round)) ∧
    FloatTrapsWrite (.roundfd a b) .float .int 32 a b s (fun x =>
      floatFailure s.fsr (fpReserved x) (fpToInt 32 s.fsr (fpValue x) .round)) ∧
    FloatTrapsWrite (.roundlb a b) .float .int 64 a b s (fun x =>
      floatFailure s.fsr (fpReserved x) (fpToInt 8 s.fsr (fpValue x) .round)) ∧
    FloatTrapsWrite (.roundlw a b) .float .int 64 a b s (fun x =>
      floatFailure s.fsr (fpReserved x) (fpToInt 16 s.fsr (fpValue x) .round)) ∧
    FloatTrapsWrite (.roundld a b) .float .int 64 a b s (fun x =>
      floatFailure s.fsr (fpReserved x) (fpToInt 32 s.fsr (fpValue x) .round)) ∧
    FloatTrapsWrite (.truncfb a b) .float .int 32 a b s (fun x =>
      floatFailure s.fsr (fpReserved x) (fpToInt 8 s.fsr (fpValue x) .trunc)) ∧
    FloatTrapsWrite (.truncfw a b) .float .int 32 a b s (fun x =>
      floatFailure s.fsr (fpReserved x) (fpToInt 16 s.fsr (fpValue x) .trunc)) ∧
    FloatTrapsWrite (.truncfd a b) .float .int 32 a b s (fun x =>
      floatFailure s.fsr (fpReserved x) (fpToInt 32 s.fsr (fpValue x) .trunc)) ∧
    FloatTrapsWrite (.trunclb a b) .float .int 64 a b s (fun x =>
      floatFailure s.fsr (fpReserved x) (fpToInt 8 s.fsr (fpValue x) .trunc)) ∧
    FloatTrapsWrite (.trunclw a b) .float .int 64 a b s (fun x =>
      floatFailure s.fsr (fpReserved x) (fpToInt 16 s.fsr (fpValue x) .trunc)) ∧
    FloatTrapsWrite (.truncld a b) .float .int 64 a b s (fun x =>
      floatFailure s.fsr (fpReserved x) (fpToInt 32 s.fsr (fpValue x) .trunc)) ∧
    FloatTrapsWrite (.floorfb a b) .float .int 32 a b s (fun x =>
      floatFailure s.fsr (fpReserved x) (fpToInt 8 s.fsr (fpValue x) .floor)) ∧
    FloatTrapsWrite (.floorfw a b) .float .int 32 a b s (fun x =>
      floatFailure s.fsr (fpReserved x) (fpToInt 16 s.fsr (fpValue x) .floor)) ∧
    FloatTrapsWrite (.floorfd a b) .float .int 32 a b s (fun x =>
      floatFailure s.fsr (fpReserved x) (fpToInt 32 s.fsr (fpValue x) .floor)) ∧
    FloatTrapsWrite (.floorlb a b) .float .int 64 a b s (fun x =>
      floatFailure s.fsr (fpReserved x) (fpToInt 8 s.fsr (fpValue x) .floor)) ∧
    FloatTrapsWrite (.floorlw a b) .float .int 64 a b s (fun x =>
      floatFailure s.fsr (fpReserved x) (fpToInt 16 s.fsr (fpValue x) .floor)) ∧
    FloatTrapsWrite (.floorld a b) .float .int 64 a b s (fun x =>
      floatFailure s.fsr (fpReserved x) (fpToInt 32 s.fsr (fpValue x) .floor)))

/-- Effective addresses (R143, R151 to R160, R162). -/
def Obligations.AddressesOfTheModes : Prop :=
  ∀ (s : State) (spi : Word) (n r : Reg) (d d1 d2 : Disp) (sc : Size) (m : Mode), s.accessible →
    modeAddr spi s (.reg n) = .ok (s.reg n) ∧
    modeAddr spi s (.regRel n d) = .ok (s.reg n + dispValue d) ∧
    (∃ p, s.read 32 (s.fp + dispValue d1) = .ok p ∧
      modeAddr spi s (.frameRel d1 d2) = .ok (p + dispValue d2)) ∧
    (∃ p, s.read 32 (spi + dispValue d1) = .ok p ∧
      modeAddr spi s (.stackRel d1 d2) = .ok (p + dispValue d2)) ∧
    (∃ p, s.read 32 (s.sb + dispValue d1) = .ok p ∧
      modeAddr spi s (.staticRel d1 d2) = .ok (p + dispValue d2)) ∧
    modeAddr spi s (.abs d) = .ok (dispValue d) ∧
    (∃ lb p, s.read 32 (s.mod.setWidth 32 + 4) = .ok lb ∧
      s.read 32 (lb + 4 * dispValue d1) = .ok p ∧
      modeAddr spi s (.ext d1 d2) = .ok (p + dispValue d2)) ∧
    modeAddr spi s .tos = .ok s.sp ∧
    modeAddr spi s (.frame d) = .ok (s.fp + dispValue d) ∧
    modeAddr spi s (.stack d) = .ok (spi + dispValue d) ∧
    modeAddr spi s (.static d) = .ok (s.sb + dispValue d) ∧
    modeAddr spi s (.prog d) = .ok (s.pc + dispValue d) ∧
    (∀ a, modeAddr spi s m = .ok a →
      genAddr spi s (.indexed sc m r) = .ok (a + s.reg r * BitVec.ofNat 32 sc.bytes)) ∧
    (∀ v : BitVec 7, (dispValue (.d7 v)).toInt = v.toInt) ∧
    (∀ v : BitVec 14, (dispValue (.d14 v)).toInt = v.toInt) ∧
    (∀ v : BitVec 30, (dispValue (.d30 v)).toInt = v.toInt)

/-- Access classes (R131 to R133, R151, R152, R155, R158, R162), the stack (R27, R90), sub-width registers
(R21) and the single and double views (R58, R67; D1, log 7; U8, log 28). -/
def Obligations.OperandsAreReadAndWritten : Prop :=
  (∀ (f : File) (w : Nat) (spi : Word) (s : State) (r rx : Reg) (iv : ImmVal) (m : Mode) (sc : Size)
      (k : Access) (ea : Word),
    readGen .int w spi (.plain (.reg r)) s = .ok ((s.reg r).setWidth w, s) ∧
    readGen .float w spi (.plain (.reg r)) s = .ok (s.freg w r, s) ∧
    (r.val % 2 = 0 → readGen .pair (2 * w) spi (.plain (.reg r)) s =
      .ok (((s.reg (r + 1)).setWidth w ++ (s.reg r).setWidth w).setWidth (2 * w), s)) ∧
    readGen f w spi (.plain (.imm iv)) s = .ok (immBits w iv, s) ∧
    (∀ v, s.read w s.sp = .ok v → readGen f w spi (.plain .tos) s =
      .ok (v, s.setSp (s.sp + BitVec.ofNat 32 (w / 8)))) ∧
    ((∀ n, m ≠ .reg n) → m ≠ .tos → (∀ v, m ≠ .imm v) → ∀ a v, modeAddr spi s m = .ok a →
      s.read w a = .ok v → readGen f w spi (.plain m) s = .ok (v, s) ∧
        writeLoc f spi (.plain m) s = .ok (.mem a .write) ∧
        rmwLoc f spi (.plain m) s = .ok (.mem a .rmw)) ∧
    (∀ a v, modeAddr spi s m = .ok a → s.read w (a + s.reg rx * BitVec.ofNat 32 sc.bytes) = .ok v →
      readGen f w spi (.indexed sc m rx) s = .ok (v, s) ∧
      writeLoc f spi (.indexed sc m rx) s =
        .ok (.mem (a + s.reg rx * BitVec.ofNat 32 sc.bytes) .write) ∧
      rmwLoc f spi (.indexed sc m rx) s =
        .ok (.mem (a + s.reg rx * BitVec.ofNat 32 sc.bytes) .rmw)) ∧
    writeLoc .int spi (.plain (.reg r)) s = .ok (.reg r) ∧
    writeLoc .float spi (.plain (.reg r)) s = .ok (.freg r) ∧
    rmwLoc .int spi (.plain (.reg r)) s = .ok (.reg r) ∧
    rmwLoc .pair spi (.plain (.reg r)) s = .ok (.pair r) ∧
    rmwLoc .float spi (.plain (.reg r)) s = .ok (.freg r) ∧
    writeLoc f spi (.plain .tos) s = .ok .push ∧
    rmwLoc f spi (.plain .tos) s = .ok (.mem s.sp .rmw) ∧
    readAt w (.reg r) s = .ok ((s.reg r).setWidth w, s) ∧
    readAt w (.freg r) s = .ok (s.freg w r, s) ∧
    (r.val % 2 = 0 → readAt (2 * w) (.pair r) s =
      .ok (((s.reg (r + 1)).setWidth w ++ (s.reg r).setWidth w).setWidth (2 * w), s)) ∧
    (r.val % 2 = 1 → readAt w (.pair r) s = .ok (s.draw w)) ∧
    (∀ v, s.read w ea k s.flagU = .ok v → readAt w (.mem ea k) s = .ok (v, s)) ∧
    (∀ v : BitVec w, writeAt (.mem ea k) v s = s.write ea v k s.flagU) ∧
    (∀ v : BitVec w, writeAt .push v s =
      (s.setSp (s.sp - BitVec.ofNat 32 (w / 8))).write (s.sp - BitVec.ofNat 32 (w / 8)) v .write
        s.flagU) ∧
    (∀ v : BitVec w, r.val % 2 = 1 → ∃ regs n, writeAt (.pair r) v s =
      .ok { s with regs := regs, freeCount := n }) ∧
    (s.setSp spi).sp = spi ∧ (s.flagS = true → s.sp = s.sp1) ∧ (s.flagS = false → s.sp = s.sp0)) ∧
  (∀ (s : State) (r q : Reg) (w : Nat) (v : BitVec w) (u : BitVec (2 * w)), w = 8 ∨ w = 16 ∨ w = 32 →
    (∃ t, writeAt (.reg r) v s = .ok t ∧ t = { s with regs := t.regs } ∧
      (t.reg r).toNat = v.toNat + (s.reg r).toNat / 2 ^ w * 2 ^ w ∧ (q ≠ r → t.reg q = s.reg q) ∧
      readAt w (.reg r) t = .ok (v, t)) ∧
    (r.val % 2 = 0 → ∃ t, writeAt (.pair r) u s = .ok t ∧ t = { s with regs := t.regs } ∧
      (t.reg r).toNat = u.toNat % 2 ^ w + (s.reg r).toNat / 2 ^ w * 2 ^ w ∧
      (t.reg (r + 1)).toNat = u.toNat / 2 ^ w + (s.reg (r + 1)).toNat / 2 ^ w * 2 ^ w ∧
      (q ≠ r → q ≠ r + 1 → t.reg q = s.reg q) ∧ readAt (2 * w) (.pair r) t = .ok (u, t))) ∧
  ∀ (s : State) (r q : Reg) (x : BitVec 32) (d : BitVec 64),
    (∃ t, writeAt (.freg r) x s = .ok t ∧ t = { s with fd := t.fd, fsr := s.fsr ||| 0x00010000 } ∧
      t.freg 32 r = x ∧ (q ≠ r → t.freg 32 q = s.freg 32 q) ∧
      (r.val % 2 = 0 → t.freg 64 r = (s.freg 64 r).extractLsb' 32 32 ++ x) ∧
      (q.val + 1 = r.val → r.val % 2 = 1 → t.freg 64 q = x ++ (s.freg 64 q).extractLsb' 0 32)) ∧
    ∃ t, writeAt (.freg r) d s = .ok t ∧ t = { s with fd := t.fd, fsr := s.fsr ||| 0x00010000 } ∧
      t.freg 64 r = d ∧ (q ≠ r → t.freg 64 q = s.freg 64 q) ∧
      (r.val % 2 = 0 → t.freg 32 r = d.extractLsb' 0 32 ∧ t.freg 32 (r + 1) = d.extractLsb' 32 32)

/-- The frame of every instruction that delivers one result (R150). -/
def Obligations.DestinationFrame : Prop :=
  ∀ (i : Instr) (d : Dest) (s t s₁ : State) (l : Loc), destination i = some d →
    exec i s = .next t → t.boundary = .done →
    d.afterSource s = .ok s₁ → d.locate s s₁ = .ok l → d.frame s s₁ t l

/-- The frame of the instructions that store nothing. -/
def Obligations.OtherInstructionsStoreNothing : Prop :=
  ∀ (i : Instr) (s t : State), storesNothing i → exec i s = .next t → t.boundary ≠ .trapped →
    t.mem = s.mem ∧
    ((∀ k, i ≠ .setcfg k) → (∀ g, i ≠ .lprb .cfg g ∧ i ≠ .lprw .cfg g ∧ i ≠ .lprd .cfg g) →
      t.cfg = s.cfg) ∧
    ((∀ a b, i ≠ .dotf a b ∧ i ≠ .dotl a b ∧ i ≠ .polyf a b ∧ i ≠ .polyl a b) → t.fd = s.fd)

/-! ## Integer and decimal instructions -/

/-- ADDi, ADDQi, ADDCi, SUBi, SUBCi (R201, R203, R205 to R209; log 15). -/
def Obligations.AdditionsAndSubtractions : Prop :=
  ∀ (s : State) (q : BitVec 4) (a b : Gen), s.accessible →
    ((Instr.addb a b).wellFormed = true → CompletesRmw (.addb a b) .int .int 8 8 a b s
        fun x y s => sumResult x y false s) ∧
    ((Instr.addw a b).wellFormed = true → CompletesRmw (.addw a b) .int .int 16 16 a b s
        fun x y s => sumResult x y false s) ∧
    ((Instr.addd a b).wellFormed = true → CompletesRmw (.addd a b) .int .int 32 32 a b s
        fun x y s => sumResult x y false s) ∧
    ((Instr.addcb a b).wellFormed = true → CompletesRmw (.addcb a b) .int .int 8 8 a b s
        fun x y s => sumResult x y s.flagC s) ∧
    ((Instr.addcw a b).wellFormed = true → CompletesRmw (.addcw a b) .int .int 16 16 a b s
        fun x y s => sumResult x y s.flagC s) ∧
    ((Instr.addcd a b).wellFormed = true → CompletesRmw (.addcd a b) .int .int 32 32 a b s
        fun x y s => sumResult x y s.flagC s) ∧
    ((Instr.subb a b).wellFormed = true → CompletesRmw (.subb a b) .int .int 8 8 a b s
        fun x y s => differenceResult x y false s) ∧
    ((Instr.subw a b).wellFormed = true → CompletesRmw (.subw a b) .int .int 16 16 a b s
        fun x y s => differenceResult x y false s) ∧
    ((Instr.subd a b).wellFormed = true → CompletesRmw (.subd a b) .int .int 32 32 a b s
        fun x y s => differenceResult x y false s) ∧
    ((Instr.subcb a b).wellFormed = true → CompletesRmw (.subcb a b) .int .int 8 8 a b s
        fun x y s => differenceResult x y s.flagC s) ∧
    ((Instr.subcw a b).wellFormed = true → CompletesRmw (.subcw a b) .int .int 16 16 a b s
        fun x y s => differenceResult x y s.flagC s) ∧
    ((Instr.subcd a b).wellFormed = true → CompletesRmw (.subcd a b) .int .int 32 32 a b s
        fun x y s => differenceResult x y s.flagC s) ∧
    ((Instr.addqb q b).wellFormed = true → CompletesModify (.addqb q b) .int 8 b s
        fun y s => sumResult (q.signExtend 8) y false s) ∧
    ((Instr.addqw q b).wellFormed = true → CompletesModify (.addqw q b) .int 16 b s
        fun y s => sumResult (q.signExtend 16) y false s) ∧
    ((Instr.addqd q b).wellFormed = true → CompletesModify (.addqd q b) .int 32 b s
        fun y s => sumResult (q.signExtend 32) y false s)

/-- NEGi, ABSi, MULi, MEIi (R210 to R213; log 15). -/
def Obligations.NegationAbsoluteValueAndProduct : Prop :=
  ∀ (s : State) (a b : Gen), s.accessible →
    ((Instr.negb a b).wellFormed = true → CompletesWrite (.negb a b) .int .int 8 8 a b s
        fun x s => differenceResult x 0 false s) ∧
    ((Instr.negw a b).wellFormed = true → CompletesWrite (.negw a b) .int .int 16 16 a b s
        fun x s => differenceResult x 0 false s) ∧
    ((Instr.negd a b).wellFormed = true → CompletesWrite (.negd a b) .int .int 32 32 a b s
        fun x s => differenceResult x 0 false s) ∧
    ((Instr.absb a b).wellFormed = true → CompletesWrite (.absb a b) .int .int 8 8 a b s fun x s =>
        let ovf := decide (x.toInt = -(2 : Int) ^ (8 - 1))
        unlessTrapped s ovf (BitVec.ofInt 8 x.toInt.natAbs, s.setF ovf)) ∧
    ((Instr.absw a b).wellFormed = true → CompletesWrite (.absw a b) .int .int 16 16 a b s fun x s =>
        let ovf := decide (x.toInt = -(2 : Int) ^ (16 - 1))
        unlessTrapped s ovf (BitVec.ofInt 16 x.toInt.natAbs, s.setF ovf)) ∧
    ((Instr.absd a b).wellFormed = true → CompletesWrite (.absd a b) .int .int 32 32 a b s fun x s =>
        let ovf := decide (x.toInt = -(2 : Int) ^ (32 - 1))
        unlessTrapped s ovf (BitVec.ofInt 32 x.toInt.natAbs, s.setF ovf)) ∧
    ((Instr.mulb a b).wellFormed = true → CompletesRmw (.mulb a b) .int .int 8 8 a b s fun x y s =>
        unlessTrapped s (outOfRange 8 (x.toInt * y.toInt)) (BitVec.ofNat 8 (x.toNat * y.toNat), s)) ∧
    ((Instr.mulw a b).wellFormed = true → CompletesRmw (.mulw a b) .int .int 16 16 a b s fun x y s =>
        unlessTrapped s (outOfRange 16 (x.toInt * y.toInt)) (BitVec.ofNat 16 (x.toNat * y.toNat), s)) ∧
    ((Instr.muld a b).wellFormed = true → CompletesRmw (.muld a b) .int .int 32 32 a b s fun x y s =>
        unlessTrapped s (outOfRange 32 (x.toInt * y.toInt)) (BitVec.ofNat 32 (x.toNat * y.toNat), s)) ∧
    ((Instr.meib a b).wellFormed = true → CompletesRmw (.meib a b) .int .pair 8 16 a b s fun x y s =>
        plainResult (BitVec.ofNat 16 (x.toNat * (y.toNat % 2 ^ 8))) s) ∧
    ((Instr.meiw a b).wellFormed = true → CompletesRmw (.meiw a b) .int .pair 16 32 a b s fun x y s =>
        plainResult (BitVec.ofNat 32 (x.toNat * (y.toNat % 2 ^ 16))) s) ∧
    ((Instr.meid a b).wellFormed = true → CompletesRmw (.meid a b) .int .pair 32 64 a b s fun x y s =>
        plainResult (BitVec.ofNat 64 (x.toNat * (y.toNat % 2 ^ 32))) s)

/-- DIVi, MODi, QUOi, REMi, DEIi (R202, R214 to R218; U12, log 30; D14, log 15). -/
def Obligations.Divisions : Prop :=
  ∀ (s : State) (a b : Gen), s.accessible →
    ((Instr.divb a b).wellFormed = true → CompletesRmw (.divb a b) .int .int 8 8 a b s
        fun x y s => divisionResult x y Int.fdiv true s) ∧
    ((Instr.divw a b).wellFormed = true → CompletesRmw (.divw a b) .int .int 16 16 a b s
        fun x y s => divisionResult x y Int.fdiv true s) ∧
    ((Instr.divd a b).wellFormed = true → CompletesRmw (.divd a b) .int .int 32 32 a b s
        fun x y s => divisionResult x y Int.fdiv true s) ∧
    ((Instr.modb a b).wellFormed = true → CompletesRmw (.modb a b) .int .int 8 8 a b s
        fun x y s => divisionResult x y Int.fmod false s) ∧
    ((Instr.modw a b).wellFormed = true → CompletesRmw (.modw a b) .int .int 16 16 a b s
        fun x y s => divisionResult x y Int.fmod false s) ∧
    ((Instr.modd a b).wellFormed = true → CompletesRmw (.modd a b) .int .int 32 32 a b s
        fun x y s => divisionResult x y Int.fmod false s) ∧
    ((Instr.quob a b).wellFormed = true → CompletesRmw (.quob a b) .int .int 8 8 a b s
        fun x y s => divisionResult x y Int.tdiv true s) ∧
    ((Instr.quow a b).wellFormed = true → CompletesRmw (.quow a b) .int .int 16 16 a b s
        fun x y s => divisionResult x y Int.tdiv true s) ∧
    ((Instr.quod a b).wellFormed = true → CompletesRmw (.quod a b) .int .int 32 32 a b s
        fun x y s => divisionResult x y Int.tdiv true s) ∧
    ((Instr.remb a b).wellFormed = true → CompletesRmw (.remb a b) .int .int 8 8 a b s
        fun x y s => divisionResult x y Int.tmod false s) ∧
    ((Instr.remw a b).wellFormed = true → CompletesRmw (.remw a b) .int .int 16 16 a b s
        fun x y s => divisionResult x y Int.tmod false s) ∧
    ((Instr.remd a b).wellFormed = true → CompletesRmw (.remd a b) .int .int 32 32 a b s
        fun x y s => divisionResult x y Int.tmod false s) ∧
    ((Instr.deib a b).wellFormed = true → CompletesRmw (.deib a b) .int .pair 8 16 a b s fun x y s =>
        if x.toNat = 0 then none
        else if y.toNat / x.toNat < 2 ^ 8 then
          plainResult (BitVec.ofNat 16 (y.toNat / x.toNat * 2 ^ 8 + y.toNat % x.toNat)) s
        else unlessTrapped s true (s.draw 16)) ∧
    ((Instr.deiw a b).wellFormed = true → CompletesRmw (.deiw a b) .int .pair 16 32 a b s fun x y s =>
        if x.toNat = 0 then none
        else if y.toNat / x.toNat < 2 ^ 16 then
          plainResult (BitVec.ofNat 32 (y.toNat / x.toNat * 2 ^ 16 + y.toNat % x.toNat)) s
        else unlessTrapped s true (s.draw 32)) ∧
    ((Instr.deid a b).wellFormed = true → CompletesRmw (.deid a b) .int .pair 32 64 a b s fun x y s =>
        if x.toNat = 0 then none
        else if y.toNat / x.toNat < 2 ^ 32 then
          plainResult (BitVec.ofNat 64 (y.toNat / x.toNat * 2 ^ 32 + y.toNat % x.toNat)) s
        else unlessTrapped s true (s.draw 64))

/-- MOVi, MOVQi, MOVXii, MOVZii (R219 to R226). -/
def Obligations.Moves : Prop :=
  ∀ (s : State) (q : BitVec 4) (a b : Gen), s.accessible →
    encodedAs (.movb a b) 2 (0x14 + 64 * b.code + 2048 * a.code) [a, b] [] ∧
    encodedAs (.movw a b) 2 (0x15 + 64 * b.code + 2048 * a.code) [a, b] [] ∧
    encodedAs (.movd a b) 2 (0x17 + 64 * b.code + 2048 * a.code) [a, b] [] ∧
    encodedAs (.movxbw a b) 3 (0x10CE + 16384 * b.code + 524288 * a.code) [a, b] [] ∧
    encodedAs (.movxbd a b) 3 (0x1CCE + 16384 * b.code + 524288 * a.code) [a, b] [] ∧
    encodedAs (.movxwd a b) 3 (0x1DCE + 16384 * b.code + 524288 * a.code) [a, b] [] ∧
    encodedAs (.movzbw a b) 3 (0x14CE + 16384 * b.code + 524288 * a.code) [a, b] [] ∧
    encodedAs (.movzbd a b) 3 (0x18CE + 16384 * b.code + 524288 * a.code) [a, b] [] ∧
    encodedAs (.movzwd a b) 3 (0x19CE + 16384 * b.code + 524288 * a.code) [a, b] [] ∧
    encodedAs (.movqb q b) 2 (0x5C + 128 * q.toNat + 2048 * b.code) [b] [] ∧
    encodedAs (.movqw q b) 2 (0x5D + 128 * q.toNat + 2048 * b.code) [b] [] ∧
    encodedAs (.movqd q b) 2 (0x5F + 128 * q.toNat + 2048 * b.code) [b] [] ∧
    ((Instr.movb a b).wellFormed = true → CompletesWrite (.movb a b) .int .int 8 8 a b s fun x s => plainResult x s) ∧
    ((Instr.movw a b).wellFormed = true → CompletesWrite (.movw a b) .int .int 16 16 a b s fun x s => plainResult x s) ∧
    ((Instr.movd a b).wellFormed = true → CompletesWrite (.movd a b) .int .int 32 32 a b s fun x s => plainResult x s) ∧
    ((Instr.movqb q b).wellFormed = true → CompletesStore (.movqb q b) 8 b s (BitVec.ofInt 8 q.toInt) s) ∧
    ((Instr.movqw q b).wellFormed = true → CompletesStore (.movqw q b) 16 b s (BitVec.ofInt 16 q.toInt) s) ∧
    ((Instr.movqd q b).wellFormed = true → CompletesStore (.movqd q b) 32 b s (BitVec.ofInt 32 q.toInt) s) ∧
    ((Instr.movxbw a b).wellFormed = true → CompletesWrite (.movxbw a b) .int .int 8 16 a b s
        fun x s => plainResult (BitVec.ofInt 16 x.toInt) s) ∧
    ((Instr.movxbd a b).wellFormed = true → CompletesWrite (.movxbd a b) .int .int 8 32 a b s
        fun x s => plainResult (BitVec.ofInt 32 x.toInt) s) ∧
    ((Instr.movxwd a b).wellFormed = true → CompletesWrite (.movxwd a b) .int .int 16 32 a b s
        fun x s => plainResult (BitVec.ofInt 32 x.toInt) s) ∧
    ((Instr.movzbw a b).wellFormed = true → CompletesWrite (.movzbw a b) .int .int 8 16 a b s
        fun x s => plainResult (BitVec.ofNat 16 x.toNat) s) ∧
    ((Instr.movzbd a b).wellFormed = true → CompletesWrite (.movzbd a b) .int .int 8 32 a b s
        fun x s => plainResult (BitVec.ofNat 32 x.toNat) s) ∧
    ((Instr.movzwd a b).wellFormed = true → CompletesWrite (.movzwd a b) .int .int 16 32 a b s
        fun x s => plainResult (BitVec.ofNat 32 x.toNat) s)

/-- CMPi and CMPQi (R227, R228). -/
def Obligations.Comparisons : Prop :=
  ∀ (s : State) (q : BitVec 4) (a b : Gen), s.accessible →
    encodedAs (.cmpb a b) 2 (0x4 + 64 * b.code + 2048 * a.code) [a, b] [] ∧
    encodedAs (.cmpw a b) 2 (0x5 + 64 * b.code + 2048 * a.code) [a, b] [] ∧
    encodedAs (.cmpd a b) 2 (0x7 + 64 * b.code + 2048 * a.code) [a, b] [] ∧
    encodedAs (.cmpqb q b) 2 (0x1C + 128 * q.toNat + 2048 * b.code) [b] [] ∧
    encodedAs (.cmpqw q b) 2 (0x1D + 128 * q.toNat + 2048 * b.code) [b] [] ∧
    encodedAs (.cmpqd q b) 2 (0x1F + 128 * q.toNat + 2048 * b.code) [b] [] ∧
    ((Instr.cmpb a b).wellFormed = true → CompletesCompare (.cmpb a b) .int 8 a b s fun x y s =>
        some (((s.setFlag 6 (decide (x = y))).setFlag 7 (decide (y.toInt < x.toInt))).setFlag 2
          (decide (y.toNat < x.toNat)))) ∧
    ((Instr.cmpw a b).wellFormed = true → CompletesCompare (.cmpw a b) .int 16 a b s fun x y s =>
        some (((s.setFlag 6 (decide (x = y))).setFlag 7 (decide (y.toInt < x.toInt))).setFlag 2
          (decide (y.toNat < x.toNat)))) ∧
    ((Instr.cmpd a b).wellFormed = true → CompletesCompare (.cmpd a b) .int 32 a b s fun x y s =>
        some (((s.setFlag 6 (decide (x = y))).setFlag 7 (decide (y.toInt < x.toInt))).setFlag 2
          (decide (y.toNat < x.toNat)))) ∧
    ((Instr.cmpqb q b).wellFormed = true → CompletesRead (.cmpqb q b) 8 b s fun y s =>
        let x := BitVec.ofInt 8 q.toInt
        ((s.setFlag 6 (decide (x = y))).setFlag 7 (decide (y.toInt < x.toInt))).setFlag 2
          (decide (y.toNat < x.toNat))) ∧
    ((Instr.cmpqw q b).wellFormed = true → CompletesRead (.cmpqw q b) 16 b s fun y s =>
        let x := BitVec.ofInt 16 q.toInt
        ((s.setFlag 6 (decide (x = y))).setFlag 7 (decide (y.toInt < x.toInt))).setFlag 2
          (decide (y.toNat < x.toNat))) ∧
    ((Instr.cmpqd q b).wellFormed = true → CompletesRead (.cmpqd q b) 32 b s fun y s =>
        let x := BitVec.ofInt 32 q.toInt
        ((s.setFlag 6 (decide (x = y))).setFlag 7 (decide (y.toInt < x.toInt))).setFlag 2
          (decide (y.toNat < x.toNat)))

/-- ADDPi and SUBPi (R240 to R244; U10, log 29). -/
def Obligations.PackedDecimal : Prop :=
  (∀ k n : Nat, bcdLegal k (bcdPack k n) = true ∧ bcdValue k (bcdPack k n) = n % 10 ^ k ∧
      bcdPack k n < 16 ^ k) ∧
  ∀ (s : State) (a b : Gen), s.accessible →
    ((Instr.addpb a b).wellFormed = true → CompletesRmw (.addpb a b) .int .int 8 8 a b s fun x y s =>
        let n : Nat := bcdValue 2 x.toNat + bcdValue 2 y.toNat + s.flagC.toNat
        decimalResult x y n (decide (10 ^ 2 ≤ n)) s) ∧
    ((Instr.addpw a b).wellFormed = true → CompletesRmw (.addpw a b) .int .int 16 16 a b s fun x y s =>
        let n : Nat := bcdValue 4 x.toNat + bcdValue 4 y.toNat + s.flagC.toNat
        decimalResult x y n (decide (10 ^ 4 ≤ n)) s) ∧
    ((Instr.addpd a b).wellFormed = true → CompletesRmw (.addpd a b) .int .int 32 32 a b s fun x y s =>
        let n : Nat := bcdValue 8 x.toNat + bcdValue 8 y.toNat + s.flagC.toNat
        decimalResult x y n (decide (10 ^ 8 ≤ n)) s) ∧
    ((Instr.subpb a b).wellFormed = true → CompletesRmw (.subpb a b) .int .int 8 8 a b s fun x y s =>
        let n : Int := (bcdValue 2 y.toNat : Int) - bcdValue 2 x.toNat - s.flagC.toNat
        decimalResult x y n (decide (n < 0)) s) ∧
    ((Instr.subpw a b).wellFormed = true → CompletesRmw (.subpw a b) .int .int 16 16 a b s fun x y s =>
        let n : Int := (bcdValue 4 y.toNat : Int) - bcdValue 4 x.toNat - s.flagC.toNat
        decimalResult x y n (decide (n < 0)) s) ∧
    ((Instr.subpd a b).wellFormed = true → CompletesRmw (.subpd a b) .int .int 32 32 a b s fun x y s =>
        let n : Int := (bcdValue 8 y.toNat : Int) - bcdValue 8 x.toNat - s.flagC.toNat
        decimalResult x y n (decide (n < 0)) s)

/-! ## Logical instructions -/

/-- ANDi, ORi, BICi, XORi, COMi, NOTi (R302 to R307). -/
def Obligations.BitwiseLogic : Prop :=
  ∀ (s : State) (a b : Gen), s.accessible →
    encodedAs (.andb a b) 2 (0x28 + 64 * b.code + 2048 * a.code) [a, b] [] ∧
    encodedAs (.andw a b) 2 (0x29 + 64 * b.code + 2048 * a.code) [a, b] [] ∧
    encodedAs (.andd a b) 2 (0x2B + 64 * b.code + 2048 * a.code) [a, b] [] ∧
    encodedAs (.orb a b) 2 (0x18 + 64 * b.code + 2048 * a.code) [a, b] [] ∧
    encodedAs (.orw a b) 2 (0x19 + 64 * b.code + 2048 * a.code) [a, b] [] ∧
    encodedAs (.ord a b) 2 (0x1B + 64 * b.code + 2048 * a.code) [a, b] [] ∧
    encodedAs (.bicb a b) 2 (0x8 + 64 * b.code + 2048 * a.code) [a, b] [] ∧
    encodedAs (.bicw a b) 2 (0x9 + 64 * b.code + 2048 * a.code) [a, b] [] ∧
    encodedAs (.bicd a b) 2 (0xB + 64 * b.code + 2048 * a.code) [a, b] [] ∧
    encodedAs (.xorb a b) 2 (0x38 + 64 * b.code + 2048 * a.code) [a, b] [] ∧
    encodedAs (.xorw a b) 2 (0x39 + 64 * b.code + 2048 * a.code) [a, b] [] ∧
    encodedAs (.xord a b) 2 (0x3B + 64 * b.code + 2048 * a.code) [a, b] [] ∧
    encodedAs (.comb a b) 3 (0x344E + 16384 * b.code + 524288 * a.code) [a, b] [] ∧
    encodedAs (.comw a b) 3 (0x354E + 16384 * b.code + 524288 * a.code) [a, b] [] ∧
    encodedAs (.comd a b) 3 (0x374E + 16384 * b.code + 524288 * a.code) [a, b] [] ∧
    encodedAs (.notb a b) 3 (0x244E + 16384 * b.code + 524288 * a.code) [a, b] [] ∧
    encodedAs (.notw a b) 3 (0x254E + 16384 * b.code + 524288 * a.code) [a, b] [] ∧
    encodedAs (.notd a b) 3 (0x274E + 16384 * b.code + 524288 * a.code) [a, b] [] ∧
    ((Instr.andb a b).wellFormed = true → CompletesRmw (.andb a b) .int .int 8 8 a b s
        fun x y s => plainResult (x &&& y) s) ∧
    ((Instr.andw a b).wellFormed = true → CompletesRmw (.andw a b) .int .int 16 16 a b s
        fun x y s => plainResult (x &&& y) s) ∧
    ((Instr.andd a b).wellFormed = true → CompletesRmw (.andd a b) .int .int 32 32 a b s
        fun x y s => plainResult (x &&& y) s) ∧
    ((Instr.orb a b).wellFormed = true → CompletesRmw (.orb a b) .int .int 8 8 a b s
        fun x y s => plainResult (x ||| y) s) ∧
    ((Instr.orw a b).wellFormed = true → CompletesRmw (.orw a b) .int .int 16 16 a b s
        fun x y s => plainResult (x ||| y) s) ∧
    ((Instr.ord a b).wellFormed = true → CompletesRmw (.ord a b) .int .int 32 32 a b s
        fun x y s => plainResult (x ||| y) s) ∧
    ((Instr.bicb a b).wellFormed = true → CompletesRmw (.bicb a b) .int .int 8 8 a b s
        fun x y s => plainResult (y &&& ~~~x) s) ∧
    ((Instr.bicw a b).wellFormed = true → CompletesRmw (.bicw a b) .int .int 16 16 a b s
        fun x y s => plainResult (y &&& ~~~x) s) ∧
    ((Instr.bicd a b).wellFormed = true → CompletesRmw (.bicd a b) .int .int 32 32 a b s
        fun x y s => plainResult (y &&& ~~~x) s) ∧
    ((Instr.xorb a b).wellFormed = true → CompletesRmw (.xorb a b) .int .int 8 8 a b s
        fun x y s => plainResult (x ^^^ y) s) ∧
    ((Instr.xorw a b).wellFormed = true → CompletesRmw (.xorw a b) .int .int 16 16 a b s
        fun x y s => plainResult (x ^^^ y) s) ∧
    ((Instr.xord a b).wellFormed = true → CompletesRmw (.xord a b) .int .int 32 32 a b s
        fun x y s => plainResult (x ^^^ y) s) ∧
    ((Instr.comb a b).wellFormed = true → CompletesWrite (.comb a b) .int .int 8 8 a b s
        fun x s => plainResult (~~~x) s) ∧
    ((Instr.comw a b).wellFormed = true → CompletesWrite (.comw a b) .int .int 16 16 a b s
        fun x s => plainResult (~~~x) s) ∧
    ((Instr.comd a b).wellFormed = true → CompletesWrite (.comd a b) .int .int 32 32 a b s
        fun x s => plainResult (~~~x) s) ∧
    ((Instr.notb a b).wellFormed = true → CompletesWrite (.notb a b) .int .int 8 8 a b s
        fun x s => plainResult (x ^^^ 1) s) ∧
    ((Instr.notw a b).wellFormed = true → CompletesWrite (.notw a b) .int .int 16 16 a b s
        fun x s => plainResult (x ^^^ 1) s) ∧
    ((Instr.notd a b).wellFormed = true → CompletesWrite (.notd a b) .int .int 32 32 a b s
        fun x s => plainResult (x ^^^ 1) s)

/-- ASHi, LSHi, ROTi (R301, R308 to R310; U14, log 32). -/
def Obligations.Shifts : Prop :=
  ∀ (s : State) (a b : Gen), s.accessible →
    ((Instr.ashb a b).wellFormed = true → CompletesRmw (.ashb a b) .int .int 8 8 a b s fun x y s =>
        shiftResult x y (fun y n => BitVec.ofInt 8 (y.toInt * 2 ^ n))
          (fun y n => BitVec.ofInt 8 (y.toInt / 2 ^ n)) (fun n => outOfRange 8 (y.toInt * 2 ^ n)) s) ∧
    ((Instr.ashw a b).wellFormed = true → CompletesRmw (.ashw a b) .int .int 8 16 a b s fun x y s =>
        shiftResult x y (fun y n => BitVec.ofInt 16 (y.toInt * 2 ^ n))
          (fun y n => BitVec.ofInt 16 (y.toInt / 2 ^ n)) (fun n => outOfRange 16 (y.toInt * 2 ^ n)) s) ∧
    ((Instr.ashd a b).wellFormed = true → CompletesRmw (.ashd a b) .int .int 8 32 a b s fun x y s =>
        shiftResult x y (fun y n => BitVec.ofInt 32 (y.toInt * 2 ^ n))
          (fun y n => BitVec.ofInt 32 (y.toInt / 2 ^ n)) (fun n => outOfRange 32 (y.toInt * 2 ^ n)) s) ∧
    ((Instr.lshb a b).wellFormed = true → CompletesRmw (.lshb a b) .int .int 8 8 a b s fun x y s =>
        shiftResult x y (fun y n => BitVec.ofNat 8 (y.toNat * 2 ^ n))
          (fun y n => BitVec.ofNat 8 (y.toNat / 2 ^ n)) (fun _ => false) s) ∧
    ((Instr.lshw a b).wellFormed = true → CompletesRmw (.lshw a b) .int .int 8 16 a b s fun x y s =>
        shiftResult x y (fun y n => BitVec.ofNat 16 (y.toNat * 2 ^ n))
          (fun y n => BitVec.ofNat 16 (y.toNat / 2 ^ n)) (fun _ => false) s) ∧
    ((Instr.lshd a b).wellFormed = true → CompletesRmw (.lshd a b) .int .int 8 32 a b s fun x y s =>
        shiftResult x y (fun y n => BitVec.ofNat 32 (y.toNat * 2 ^ n))
          (fun y n => BitVec.ofNat 32 (y.toNat / 2 ^ n)) (fun _ => false) s) ∧
    ((Instr.rotb a b).wellFormed = true → CompletesRmw (.rotb a b) .int .int 8 8 a b s fun x y s =>
        shiftResult x y (fun y n => (y <<< n) ||| (y >>> (8 - n)))
          (fun y n => (y >>> n) ||| (y <<< (8 - n))) (fun _ => false) s) ∧
    ((Instr.rotw a b).wellFormed = true → CompletesRmw (.rotw a b) .int .int 8 16 a b s fun x y s =>
        shiftResult x y (fun y n => (y <<< n) ||| (y >>> (16 - n)))
          (fun y n => (y >>> n) ||| (y <<< (16 - n))) (fun _ => false) s) ∧
    ((Instr.rotd a b).wellFormed = true → CompletesRmw (.rotd a b) .int .int 8 32 a b s fun x y s =>
        shiftResult x y (fun y n => (y <<< n) ||| (y >>> (32 - n)))
          (fun y n => (y >>> n) ||| (y <<< (32 - n))) (fun _ => false) s)

/-- Scondi (R311, R381). -/
def Obligations.SaveCondition : Prop :=
  ∀ (s : State) (b : Gen), s.accessible →
    encodedAs (.seqb b) 2 (0x3C + 2048 * b.code) [b] [] ∧
    encodedAs (.seqw b) 2 (0x3D + 2048 * b.code) [b] [] ∧
    encodedAs (.seqd b) 2 (0x3F + 2048 * b.code) [b] [] ∧
    encodedAs (.sneb b) 2 (0xBC + 2048 * b.code) [b] [] ∧
    encodedAs (.snew b) 2 (0xBD + 2048 * b.code) [b] [] ∧
    encodedAs (.sned b) 2 (0xBF + 2048 * b.code) [b] [] ∧
    encodedAs (.scsb b) 2 (0x13C + 2048 * b.code) [b] [] ∧
    encodedAs (.scsw b) 2 (0x13D + 2048 * b.code) [b] [] ∧
    encodedAs (.scsd b) 2 (0x13F + 2048 * b.code) [b] [] ∧
    encodedAs (.sccb b) 2 (0x1BC + 2048 * b.code) [b] [] ∧
    encodedAs (.sccw b) 2 (0x1BD + 2048 * b.code) [b] [] ∧
    encodedAs (.sccd b) 2 (0x1BF + 2048 * b.code) [b] [] ∧
    encodedAs (.shib b) 2 (0x23C + 2048 * b.code) [b] [] ∧
    encodedAs (.shiw b) 2 (0x23D + 2048 * b.code) [b] [] ∧
    encodedAs (.shid b) 2 (0x23F + 2048 * b.code) [b] [] ∧
    encodedAs (.slsb b) 2 (0x2BC + 2048 * b.code) [b] [] ∧
    encodedAs (.slsw b) 2 (0x2BD + 2048 * b.code) [b] [] ∧
    encodedAs (.slsd b) 2 (0x2BF + 2048 * b.code) [b] [] ∧
    encodedAs (.sgtb b) 2 (0x33C + 2048 * b.code) [b] [] ∧
    encodedAs (.sgtw b) 2 (0x33D + 2048 * b.code) [b] [] ∧
    encodedAs (.sgtd b) 2 (0x33F + 2048 * b.code) [b] [] ∧
    encodedAs (.sleb b) 2 (0x3BC + 2048 * b.code) [b] [] ∧
    encodedAs (.slew b) 2 (0x3BD + 2048 * b.code) [b] [] ∧
    encodedAs (.sled b) 2 (0x3BF + 2048 * b.code) [b] [] ∧
    encodedAs (.sfsb b) 2 (0x43C + 2048 * b.code) [b] [] ∧
    encodedAs (.sfsw b) 2 (0x43D + 2048 * b.code) [b] [] ∧
    encodedAs (.sfsd b) 2 (0x43F + 2048 * b.code) [b] [] ∧
    encodedAs (.sfcb b) 2 (0x4BC + 2048 * b.code) [b] [] ∧
    encodedAs (.sfcw b) 2 (0x4BD + 2048 * b.code) [b] [] ∧
    encodedAs (.sfcd b) 2 (0x4BF + 2048 * b.code) [b] [] ∧
    encodedAs (.slob b) 2 (0x53C + 2048 * b.code) [b] [] ∧
    encodedAs (.slow b) 2 (0x53D + 2048 * b.code) [b] [] ∧
    encodedAs (.slod b) 2 (0x53F + 2048 * b.code) [b] [] ∧
    encodedAs (.shsb b) 2 (0x5BC + 2048 * b.code) [b] [] ∧
    encodedAs (.shsw b) 2 (0x5BD + 2048 * b.code) [b] [] ∧
    encodedAs (.shsd b) 2 (0x5BF + 2048 * b.code) [b] [] ∧
    encodedAs (.sltb b) 2 (0x63C + 2048 * b.code) [b] [] ∧
    encodedAs (.sltw b) 2 (0x63D + 2048 * b.code) [b] [] ∧
    encodedAs (.sltd b) 2 (0x63F + 2048 * b.code) [b] [] ∧
    encodedAs (.sgeb b) 2 (0x6BC + 2048 * b.code) [b] [] ∧
    encodedAs (.sgew b) 2 (0x6BD + 2048 * b.code) [b] [] ∧
    encodedAs (.sged b) 2 (0x6BF + 2048 * b.code) [b] [] ∧
    ((Instr.seqb b).wellFormed = true → CompletesStore (.seqb b) 8 b s (if s.flagZ then 1 else 0) s) ∧
    ((Instr.seqw b).wellFormed = true → CompletesStore (.seqw b) 16 b s (if s.flagZ then 1 else 0) s) ∧
    ((Instr.seqd b).wellFormed = true → CompletesStore (.seqd b) 32 b s (if s.flagZ then 1 else 0) s) ∧
    ((Instr.sneb b).wellFormed = true → CompletesStore (.sneb b) 8 b s (if !s.flagZ then 1 else 0) s) ∧
    ((Instr.snew b).wellFormed = true → CompletesStore (.snew b) 16 b s (if !s.flagZ then 1 else 0) s) ∧
    ((Instr.sned b).wellFormed = true → CompletesStore (.sned b) 32 b s (if !s.flagZ then 1 else 0) s) ∧
    ((Instr.scsb b).wellFormed = true → CompletesStore (.scsb b) 8 b s (if s.flagC then 1 else 0) s) ∧
    ((Instr.scsw b).wellFormed = true → CompletesStore (.scsw b) 16 b s (if s.flagC then 1 else 0) s) ∧
    ((Instr.scsd b).wellFormed = true → CompletesStore (.scsd b) 32 b s (if s.flagC then 1 else 0) s) ∧
    ((Instr.sccb b).wellFormed = true → CompletesStore (.sccb b) 8 b s (if !s.flagC then 1 else 0) s) ∧
    ((Instr.sccw b).wellFormed = true → CompletesStore (.sccw b) 16 b s (if !s.flagC then 1 else 0) s) ∧
    ((Instr.sccd b).wellFormed = true → CompletesStore (.sccd b) 32 b s (if !s.flagC then 1 else 0) s) ∧
    ((Instr.shib b).wellFormed = true → CompletesStore (.shib b) 8 b s (if s.flagL then 1 else 0) s) ∧
    ((Instr.shiw b).wellFormed = true → CompletesStore (.shiw b) 16 b s (if s.flagL then 1 else 0) s) ∧
    ((Instr.shid b).wellFormed = true → CompletesStore (.shid b) 32 b s (if s.flagL then 1 else 0) s) ∧
    ((Instr.slsb b).wellFormed = true → CompletesStore (.slsb b) 8 b s (if !s.flagL then 1 else 0) s) ∧
    ((Instr.slsw b).wellFormed = true → CompletesStore (.slsw b) 16 b s (if !s.flagL then 1 else 0) s) ∧
    ((Instr.slsd b).wellFormed = true → CompletesStore (.slsd b) 32 b s (if !s.flagL then 1 else 0) s) ∧
    ((Instr.sgtb b).wellFormed = true → CompletesStore (.sgtb b) 8 b s (if s.flagN then 1 else 0) s) ∧
    ((Instr.sgtw b).wellFormed = true → CompletesStore (.sgtw b) 16 b s (if s.flagN then 1 else 0) s) ∧
    ((Instr.sgtd b).wellFormed = true → CompletesStore (.sgtd b) 32 b s (if s.flagN then 1 else 0) s) ∧
    ((Instr.sleb b).wellFormed = true → CompletesStore (.sleb b) 8 b s (if !s.flagN then 1 else 0) s) ∧
    ((Instr.slew b).wellFormed = true → CompletesStore (.slew b) 16 b s (if !s.flagN then 1 else 0) s) ∧
    ((Instr.sled b).wellFormed = true → CompletesStore (.sled b) 32 b s (if !s.flagN then 1 else 0) s) ∧
    ((Instr.sfsb b).wellFormed = true → CompletesStore (.sfsb b) 8 b s (if s.flagF then 1 else 0) s) ∧
    ((Instr.sfsw b).wellFormed = true → CompletesStore (.sfsw b) 16 b s (if s.flagF then 1 else 0) s) ∧
    ((Instr.sfsd b).wellFormed = true → CompletesStore (.sfsd b) 32 b s (if s.flagF then 1 else 0) s) ∧
    ((Instr.sfcb b).wellFormed = true → CompletesStore (.sfcb b) 8 b s (if !s.flagF then 1 else 0) s) ∧
    ((Instr.sfcw b).wellFormed = true → CompletesStore (.sfcw b) 16 b s (if !s.flagF then 1 else 0) s) ∧
    ((Instr.sfcd b).wellFormed = true → CompletesStore (.sfcd b) 32 b s (if !s.flagF then 1 else 0) s) ∧
    ((Instr.slob b).wellFormed = true → CompletesStore (.slob b) 8 b s (if !s.flagZ && !s.flagL then 1 else 0) s) ∧
    ((Instr.slow b).wellFormed = true → CompletesStore (.slow b) 16 b s (if !s.flagZ && !s.flagL then 1 else 0) s) ∧
    ((Instr.slod b).wellFormed = true → CompletesStore (.slod b) 32 b s (if !s.flagZ && !s.flagL then 1 else 0) s) ∧
    ((Instr.shsb b).wellFormed = true → CompletesStore (.shsb b) 8 b s (if s.flagZ || s.flagL then 1 else 0) s) ∧
    ((Instr.shsw b).wellFormed = true → CompletesStore (.shsw b) 16 b s (if s.flagZ || s.flagL then 1 else 0) s) ∧
    ((Instr.shsd b).wellFormed = true → CompletesStore (.shsd b) 32 b s (if s.flagZ || s.flagL then 1 else 0) s) ∧
    ((Instr.sltb b).wellFormed = true → CompletesStore (.sltb b) 8 b s (if !s.flagZ && !s.flagN then 1 else 0) s) ∧
    ((Instr.sltw b).wellFormed = true → CompletesStore (.sltw b) 16 b s (if !s.flagZ && !s.flagN then 1 else 0) s) ∧
    ((Instr.sltd b).wellFormed = true → CompletesStore (.sltd b) 32 b s (if !s.flagZ && !s.flagN then 1 else 0) s) ∧
    ((Instr.sgeb b).wellFormed = true → CompletesStore (.sgeb b) 8 b s (if s.flagZ || s.flagN then 1 else 0) s) ∧
    ((Instr.sgew b).wellFormed = true → CompletesStore (.sgew b) 16 b s (if s.flagZ || s.flagN then 1 else 0) s) ∧
    ((Instr.sged b).wellFormed = true → CompletesStore (.sged b) 32 b s (if s.flagZ || s.flagN then 1 else 0) s)

/-! ## Bit and field instructions -/

/-- Bit instructions on registers (R320, R322 to R327; U15, log 33). -/
def Obligations.BitsInRegisters : Prop :=
  ∀ (s : State) (a : Gen) (r : Reg), s.accessible →
    (a.wellFormed (.read .b) = true → BitInRegister (.tbitb a (.plain (.reg r))) 8 a r s fun s₁ _ _ => s₁) ∧
    (a.wellFormed (.read .w) = true → BitInRegister (.tbitw a (.plain (.reg r))) 16 a r s fun s₁ _ _ => s₁) ∧
    (a.wellFormed (.read .d) = true → BitInRegister (.tbitd a (.plain (.reg r))) 32 a r s fun s₁ _ _ => s₁) ∧
    (a.wellFormed (.read .b) = true → BitInRegister (.sbitb a (.plain (.reg r))) 8 a r s fun s₁ n _ => s₁.setReg r (putBit (s₁.reg r) n (true))) ∧
    (a.wellFormed (.read .w) = true → BitInRegister (.sbitw a (.plain (.reg r))) 16 a r s fun s₁ n _ => s₁.setReg r (putBit (s₁.reg r) n (true))) ∧
    (a.wellFormed (.read .d) = true → BitInRegister (.sbitd a (.plain (.reg r))) 32 a r s fun s₁ n _ => s₁.setReg r (putBit (s₁.reg r) n (true))) ∧
    (a.wellFormed (.read .b) = true → BitInRegister (.sbitib a (.plain (.reg r))) 8 a r s fun s₁ n _ => s₁.setReg r (putBit (s₁.reg r) n (true))) ∧
    (a.wellFormed (.read .w) = true → BitInRegister (.sbitiw a (.plain (.reg r))) 16 a r s fun s₁ n _ => s₁.setReg r (putBit (s₁.reg r) n (true))) ∧
    (a.wellFormed (.read .d) = true → BitInRegister (.sbitid a (.plain (.reg r))) 32 a r s fun s₁ n _ => s₁.setReg r (putBit (s₁.reg r) n (true))) ∧
    (a.wellFormed (.read .b) = true → BitInRegister (.cbitb a (.plain (.reg r))) 8 a r s fun s₁ n _ => s₁.setReg r (putBit (s₁.reg r) n (false))) ∧
    (a.wellFormed (.read .w) = true → BitInRegister (.cbitw a (.plain (.reg r))) 16 a r s fun s₁ n _ => s₁.setReg r (putBit (s₁.reg r) n (false))) ∧
    (a.wellFormed (.read .d) = true → BitInRegister (.cbitd a (.plain (.reg r))) 32 a r s fun s₁ n _ => s₁.setReg r (putBit (s₁.reg r) n (false))) ∧
    (a.wellFormed (.read .b) = true → BitInRegister (.cbitib a (.plain (.reg r))) 8 a r s fun s₁ n _ => s₁.setReg r (putBit (s₁.reg r) n (false))) ∧
    (a.wellFormed (.read .w) = true → BitInRegister (.cbitiw a (.plain (.reg r))) 16 a r s fun s₁ n _ => s₁.setReg r (putBit (s₁.reg r) n (false))) ∧
    (a.wellFormed (.read .d) = true → BitInRegister (.cbitid a (.plain (.reg r))) 32 a r s fun s₁ n _ => s₁.setReg r (putBit (s₁.reg r) n (false))) ∧
    (a.wellFormed (.read .b) = true → BitInRegister (.ibitb a (.plain (.reg r))) 8 a r s fun s₁ n old => s₁.setReg r (putBit (s₁.reg r) n (!old))) ∧
    (a.wellFormed (.read .w) = true → BitInRegister (.ibitw a (.plain (.reg r))) 16 a r s fun s₁ n old => s₁.setReg r (putBit (s₁.reg r) n (!old))) ∧
    (a.wellFormed (.read .d) = true → BitInRegister (.ibitd a (.plain (.reg r))) 32 a r s fun s₁ n old => s₁.setReg r (putBit (s₁.reg r) n (!old)))

/-- Bit instructions in memory (R321 to R327; log 45). -/
def Obligations.BitsInMemory : Prop :=
  ∀ (s : State) (a b : Gen), s.accessible →
    ((Instr.tbitb a b).wellFormed = true → (∀ r, b ≠ .plain (.reg r)) →
        BitInMemory (.tbitb a b) 8 a b s (none)) ∧
    ((Instr.tbitw a b).wellFormed = true → (∀ r, b ≠ .plain (.reg r)) →
        BitInMemory (.tbitw a b) 16 a b s (none)) ∧
    ((Instr.tbitd a b).wellFormed = true → (∀ r, b ≠ .plain (.reg r)) →
        BitInMemory (.tbitd a b) 32 a b s (none)) ∧
    ((Instr.sbitb a b).wellFormed = true → (∀ r, b ≠ .plain (.reg r)) →
        BitInMemory (.sbitb a b) 8 a b s (some (fun _ => true))) ∧
    ((Instr.sbitw a b).wellFormed = true → (∀ r, b ≠ .plain (.reg r)) →
        BitInMemory (.sbitw a b) 16 a b s (some (fun _ => true))) ∧
    ((Instr.sbitd a b).wellFormed = true → (∀ r, b ≠ .plain (.reg r)) →
        BitInMemory (.sbitd a b) 32 a b s (some (fun _ => true))) ∧
    ((Instr.sbitib a b).wellFormed = true → (∀ r, b ≠ .plain (.reg r)) →
        BitInMemory (.sbitib a b) 8 a b s (some (fun _ => true))) ∧
    ((Instr.sbitiw a b).wellFormed = true → (∀ r, b ≠ .plain (.reg r)) →
        BitInMemory (.sbitiw a b) 16 a b s (some (fun _ => true))) ∧
    ((Instr.sbitid a b).wellFormed = true → (∀ r, b ≠ .plain (.reg r)) →
        BitInMemory (.sbitid a b) 32 a b s (some (fun _ => true))) ∧
    ((Instr.cbitb a b).wellFormed = true → (∀ r, b ≠ .plain (.reg r)) →
        BitInMemory (.cbitb a b) 8 a b s (some (fun _ => false))) ∧
    ((Instr.cbitw a b).wellFormed = true → (∀ r, b ≠ .plain (.reg r)) →
        BitInMemory (.cbitw a b) 16 a b s (some (fun _ => false))) ∧
    ((Instr.cbitd a b).wellFormed = true → (∀ r, b ≠ .plain (.reg r)) →
        BitInMemory (.cbitd a b) 32 a b s (some (fun _ => false))) ∧
    ((Instr.cbitib a b).wellFormed = true → (∀ r, b ≠ .plain (.reg r)) →
        BitInMemory (.cbitib a b) 8 a b s (some (fun _ => false))) ∧
    ((Instr.cbitiw a b).wellFormed = true → (∀ r, b ≠ .plain (.reg r)) →
        BitInMemory (.cbitiw a b) 16 a b s (some (fun _ => false))) ∧
    ((Instr.cbitid a b).wellFormed = true → (∀ r, b ≠ .plain (.reg r)) →
        BitInMemory (.cbitid a b) 32 a b s (some (fun _ => false))) ∧
    ((Instr.ibitb a b).wellFormed = true → (∀ r, b ≠ .plain (.reg r)) →
        BitInMemory (.ibitb a b) 8 a b s (some (fun old => !old))) ∧
    ((Instr.ibitw a b).wellFormed = true → (∀ r, b ≠ .plain (.reg r)) →
        BitInMemory (.ibitw a b) 16 a b s (some (fun old => !old))) ∧
    ((Instr.ibitd a b).wellFormed = true → (∀ r, b ≠ .plain (.reg r)) →
        BitInMemory (.ibitd a b) 32 a b s (some (fun old => !old)))

/-- EXTi and EXTSi (R330 to R337; U17 to U19, log 35). -/
def Obligations.FieldExtraction : Prop :=
  ∀ (s : State) (r : Reg) (a b : Gen) (d : Disp) (im : Byte), s.accessible →
    ((Instr.extb r a b d).wellFormed = true → ExtractCompletes (.extb r a b d) 8 a b s
        (s.reg r).toInt (dispValue d).toInt) ∧
    ((Instr.extw r a b d).wellFormed = true → ExtractCompletes (.extw r a b d) 16 a b s
        (s.reg r).toInt (dispValue d).toInt) ∧
    ((Instr.extd r a b d).wellFormed = true → ExtractCompletes (.extd r a b d) 32 a b s
        (s.reg r).toInt (dispValue d).toInt) ∧
    ((Instr.extsb a b im).wellFormed = true → ExtractCompletes (.extsb a b im) 8 a b s
        (im.toNat / 32 : Nat) (im.toNat % 32 + 1 : Nat)) ∧
    ((Instr.extsw a b im).wellFormed = true → ExtractCompletes (.extsw a b im) 16 a b s
        (im.toNat / 32 : Nat) (im.toNat % 32 + 1 : Nat)) ∧
    ((Instr.extsd a b im).wellFormed = true → ExtractCompletes (.extsd a b im) 32 a b s
        (im.toNat / 32 : Nat) (im.toNat % 32 + 1 : Nat))

/-- INSi and INSSi (R330 to R339; U17 to U19, log 35). -/
def Obligations.FieldInsertion : Prop :=
  ∀ (s : State) (r : Reg) (a b : Gen) (d : Disp) (im : Byte), s.accessible →
    ((Instr.insb r a b d).wellFormed = true → InsertCompletes (.insb r a b d) 8 a b s
        (s.reg r).toInt (dispValue d).toInt) ∧
    ((Instr.insw r a b d).wellFormed = true → InsertCompletes (.insw r a b d) 16 a b s
        (s.reg r).toInt (dispValue d).toInt) ∧
    ((Instr.insd r a b d).wellFormed = true → InsertCompletes (.insd r a b d) 32 a b s
        (s.reg r).toInt (dispValue d).toInt) ∧
    ((Instr.inssb a b im).wellFormed = true → InsertCompletes (.inssb a b im) 8 a b s
        (im.toNat / 32 : Nat) (im.toNat % 32 + 1 : Nat)) ∧
    ((Instr.inssw a b im).wellFormed = true → InsertCompletes (.inssw a b im) 16 a b s
        (im.toNat / 32 : Nat) (im.toNat % 32 + 1 : Nat)) ∧
    ((Instr.inssd a b im).wellFormed = true → InsertCompletes (.inssd a b im) 32 a b s
        (im.toNat / 32 : Nat) (im.toNat % 32 + 1 : Nat))

/-- FFSi, CVTP, ADDR (R328, R329, R421; U16, log 34). -/
def Obligations.FindFirstSetAndAddresses : Prop :=
  (∀ (w : Nat) (x : BitVec w) (y : BitVec 8) (s : State), w ≤ 32 → y.toNat < w →
    (∀ j, y.toNat ≤ j → j < w → x.getLsbD j = true → (∀ k, y.toNat ≤ k → k < j → x.getLsbD k = false) →
      firstSetResult x y s = (BitVec.ofNat 8 j, s.setF false)) ∧
    ((∀ j, y.toNat ≤ j → j < w → x.getLsbD j = false) →
      firstSetResult x y s = (0, s.setF true))) ∧
  ∀ (s : State) (r : Reg) (a b : Gen), s.accessible →
    ((Instr.ffsb a b).wellFormed = true → CompletesRmw (.ffsb a b) .int .int 8 8 a b s fun x y s =>
        if 8 ≤ y.toNat then
          let (v, s) := s.draw 8
          let (f, s) := s.draw 1
          some (v, s.setF (f == 1))
        else some (firstSetResult x y s)) ∧
    ((Instr.ffsw a b).wellFormed = true → CompletesRmw (.ffsw a b) .int .int 16 8 a b s fun x y s =>
        if 16 ≤ y.toNat then
          let (v, s) := s.draw 8
          let (f, s) := s.draw 1
          some (v, s.setF (f == 1))
        else some (firstSetResult x y s)) ∧
    ((Instr.ffsd a b).wellFormed = true → CompletesRmw (.ffsd a b) .int .int 32 8 a b s fun x y s =>
        if 32 ≤ y.toNat then
          let (v, s) := s.draw 8
          let (f, s) := s.draw 1
          some (v, s.setF (f == 1))
        else some (firstSetResult x y s)) ∧
    ((Instr.cvtp r a b).wellFormed = true → ∃ ea, genAddr s.sp s a = .ok ea ∧
        CompletesStore (.cvtp r a b) 32 b s (BitVec.ofNat 32 (8 * ea.toNat + (s.reg r).toNat)) s) ∧
    ((Instr.addr a b).wellFormed = true → ∃ ea, genAddr s.sp s a = .ok ea ∧ CompletesStore (.addr a b) 32 b s ea s)

/-! ## String, block and array instructions -/

/-- MOVSi, CMPSi, SKPSi and their translating forms (R350 to R360). -/
def Obligations.StringElements : Prop :=
  ∀ (s : State) (u : Until) (bk : Bool), s.accessible →
    StringStep (.movsb u bk) .movs 8 u bk false s ∧
    StringStep (.movsw u bk) .movs 16 u bk false s ∧
    StringStep (.movsd u bk) .movs 32 u bk false s ∧
    StringStep (.movst u bk) .movs 8 u bk true s ∧
    StringStep (.cmpsb u bk) .cmps 8 u bk false s ∧
    StringStep (.cmpsw u bk) .cmps 16 u bk false s ∧
    StringStep (.cmpsd u bk) .cmps 32 u bk false s ∧
    StringStep (.cmpst u bk) .cmps 8 u bk true s ∧
    StringStep (.skpsb u bk) .skps 8 u bk false s ∧
    StringStep (.skpsw u bk) .skps 16 u bk false s ∧
    StringStep (.skpsd u bk) .skps 32 u bk false s ∧
    StringStep (.skpst u bk) .skps 8 u bk true s

/-- MOVMi and CMPMi (R365 to R367; U23, U24, logs 37, 38) and string instructions with a negative R0 (R350;
U20, log 36). -/
def Obligations.BlocksAndOpenCounts : Prop :=
  ∀ (s : State) (a b : Gen) (d : Disp) (u : Until) (bk : Bool), s.accessible →
    ((Instr.movmb a b d).wellFormed = true → MoveBlockCompletes (.movmb a b d) 8 a b d s) ∧
    ((Instr.movmw a b d).wellFormed = true → MoveBlockCompletes (.movmw a b d) 16 a b d s) ∧
    ((Instr.movmd a b d).wellFormed = true → MoveBlockCompletes (.movmd a b d) 32 a b d s) ∧
    ((Instr.cmpmb a b d).wellFormed = true → CompareBlockCompletes (.cmpmb a b d) 8 a b d s) ∧
    ((Instr.cmpmw a b d).wellFormed = true → CompareBlockCompletes (.cmpmw a b d) 16 a b d s) ∧
    ((Instr.cmpmd a b d).wellFormed = true → CompareBlockCompletes (.cmpmd a b d) 32 a b d s) ∧
    StringOpenCount (.movsb u bk) .movs 8 u bk false s ∧
    StringOpenCount (.movsw u bk) .movs 16 u bk false s ∧
    StringOpenCount (.movsd u bk) .movs 32 u bk false s ∧
    StringOpenCount (.movst u bk) .movs 8 u bk true s ∧
    StringOpenCount (.cmpsb u bk) .cmps 8 u bk false s ∧
    StringOpenCount (.cmpsw u bk) .cmps 16 u bk false s ∧
    StringOpenCount (.cmpsd u bk) .cmps 32 u bk false s ∧
    StringOpenCount (.cmpst u bk) .cmps 8 u bk true s ∧
    StringOpenCount (.skpsb u bk) .skps 8 u bk false s ∧
    StringOpenCount (.skpsw u bk) .skps 16 u bk false s ∧
    StringOpenCount (.skpsd u bk) .skps 32 u bk false s ∧
    StringOpenCount (.skpst u bk) .skps 8 u bk true s

/-- CHECKi and INDEXi (R371, R372; U25, log 39; the order of the operands is DEDUCED, log 51). -/
def Obligations.ArrayInstructions : Prop :=
  ∀ (s : State) (r : Reg) (a b : Gen), s.accessible →
    ((Instr.checkb r a b).wellFormed = true → ∃ ea x s₁ up lo, genAddr s.sp s a = .ok ea ∧
        readGen .int 8 s.sp b s = .ok (x, s₁) ∧ s₁.read 8 ea = .ok up ∧ s₁.read 8 (ea + 1) = .ok lo ∧
        (lo.toInt ≤ x.toInt ∧ x.toInt ≤ up.toInt →
          exec (.checkb r a b) s = .next (((s₁.setF false).setReg r
            (BitVec.ofInt 32 (x.toInt - lo.toInt))).advance (Instr.checkb r a b).length)) ∧
        (x.toInt < lo.toInt ∨ up.toInt < x.toInt → s₁.flagV = false →
          exec (.checkb r a b) s = .next ((((s₁.setF true).draw 32).2.setReg r
            ((s₁.setF true).draw 32).1).advance (Instr.checkb r a b).length))) ∧
    ((Instr.checkw r a b).wellFormed = true → ∃ ea x s₁ up lo, genAddr s.sp s a = .ok ea ∧
        readGen .int 16 s.sp b s = .ok (x, s₁) ∧ s₁.read 16 ea = .ok up ∧ s₁.read 16 (ea + 2) = .ok lo ∧
        (lo.toInt ≤ x.toInt ∧ x.toInt ≤ up.toInt →
          exec (.checkw r a b) s = .next (((s₁.setF false).setReg r
            (BitVec.ofInt 32 (x.toInt - lo.toInt))).advance (Instr.checkw r a b).length)) ∧
        (x.toInt < lo.toInt ∨ up.toInt < x.toInt → s₁.flagV = false →
          exec (.checkw r a b) s = .next ((((s₁.setF true).draw 32).2.setReg r
            ((s₁.setF true).draw 32).1).advance (Instr.checkw r a b).length))) ∧
    ((Instr.checkd r a b).wellFormed = true → ∃ ea x s₁ up lo, genAddr s.sp s a = .ok ea ∧
        readGen .int 32 s.sp b s = .ok (x, s₁) ∧ s₁.read 32 ea = .ok up ∧ s₁.read 32 (ea + 4) = .ok lo ∧
        (lo.toInt ≤ x.toInt ∧ x.toInt ≤ up.toInt →
          exec (.checkd r a b) s = .next (((s₁.setF false).setReg r
            (BitVec.ofInt 32 (x.toInt - lo.toInt))).advance (Instr.checkd r a b).length)) ∧
        (x.toInt < lo.toInt ∨ up.toInt < x.toInt → s₁.flagV = false →
          exec (.checkd r a b) s = .next ((((s₁.setF true).draw 32).2.setReg r
            ((s₁.setF true).draw 32).1).advance (Instr.checkd r a b).length))) ∧
    ((Instr.indexb r a b).wellFormed = true → CompletesCompare (.indexb r a b) .int 8 a b s fun x y s =>
        some (s.setReg r (BitVec.ofNat 32 ((s.reg r).toNat * (x.toNat + 1) + y.toNat)))) ∧
    ((Instr.indexw r a b).wellFormed = true → CompletesCompare (.indexw r a b) .int 16 a b s fun x y s =>
        some (s.setReg r (BitVec.ofNat 32 ((s.reg r).toNat * (x.toNat + 1) + y.toNat)))) ∧
    ((Instr.indexd r a b).wellFormed = true → CompletesCompare (.indexd r a b) .int 32 a b s fun x y s =>
        some (s.setReg r (BitVec.ofNat 32 ((s.reg r).toNat * (x.toNat + 1) + y.toNat))))

/-! ## Processor control -/

/-- Bcond and BR (R381 to R383). -/
def Obligations.Branches : Prop :=
  ∀ (s : State) (d : Disp),
    encodedAs (.beq d) 1 (0xA) [] (d.bytes) ∧
    encodedAs (.bne d) 1 (0x1A) [] (d.bytes) ∧
    encodedAs (.bcs d) 1 (0x2A) [] (d.bytes) ∧
    encodedAs (.bcc d) 1 (0x3A) [] (d.bytes) ∧
    encodedAs (.bhi d) 1 (0x4A) [] (d.bytes) ∧
    encodedAs (.bls d) 1 (0x5A) [] (d.bytes) ∧
    encodedAs (.bgt d) 1 (0x6A) [] (d.bytes) ∧
    encodedAs (.ble d) 1 (0x7A) [] (d.bytes) ∧
    encodedAs (.bfs d) 1 (0x8A) [] (d.bytes) ∧
    encodedAs (.bfc d) 1 (0x9A) [] (d.bytes) ∧
    encodedAs (.blo d) 1 (0xAA) [] (d.bytes) ∧
    encodedAs (.bhs d) 1 (0xBA) [] (d.bytes) ∧
    encodedAs (.blt d) 1 (0xCA) [] (d.bytes) ∧
    encodedAs (.bge d) 1 (0xDA) [] (d.bytes) ∧
    encodedAs (.br d) 1 (0xEA) [] (d.bytes) ∧
    exec (.beq d) s = .next (if s.flagZ then s.jump (s.pc + dispValue d)
      else s.advance (Instr.beq d).length) ∧
    exec (.bne d) s = .next (if !s.flagZ then s.jump (s.pc + dispValue d)
      else s.advance (Instr.bne d).length) ∧
    exec (.bcs d) s = .next (if s.flagC then s.jump (s.pc + dispValue d)
      else s.advance (Instr.bcs d).length) ∧
    exec (.bcc d) s = .next (if !s.flagC then s.jump (s.pc + dispValue d)
      else s.advance (Instr.bcc d).length) ∧
    exec (.bhi d) s = .next (if s.flagL then s.jump (s.pc + dispValue d)
      else s.advance (Instr.bhi d).length) ∧
    exec (.bls d) s = .next (if !s.flagL then s.jump (s.pc + dispValue d)
      else s.advance (Instr.bls d).length) ∧
    exec (.bgt d) s = .next (if s.flagN then s.jump (s.pc + dispValue d)
      else s.advance (Instr.bgt d).length) ∧
    exec (.ble d) s = .next (if !s.flagN then s.jump (s.pc + dispValue d)
      else s.advance (Instr.ble d).length) ∧
    exec (.bfs d) s = .next (if s.flagF then s.jump (s.pc + dispValue d)
      else s.advance (Instr.bfs d).length) ∧
    exec (.bfc d) s = .next (if !s.flagF then s.jump (s.pc + dispValue d)
      else s.advance (Instr.bfc d).length) ∧
    exec (.blo d) s = .next (if !s.flagZ && !s.flagL then s.jump (s.pc + dispValue d)
      else s.advance (Instr.blo d).length) ∧
    exec (.bhs d) s = .next (if s.flagZ || s.flagL then s.jump (s.pc + dispValue d)
      else s.advance (Instr.bhs d).length) ∧
    exec (.blt d) s = .next (if !s.flagZ && !s.flagN then s.jump (s.pc + dispValue d)
      else s.advance (Instr.blt d).length) ∧
    exec (.bge d) s = .next (if s.flagZ || s.flagN then s.jump (s.pc + dispValue d)
      else s.advance (Instr.bge d).length) ∧
    exec (.br d) s = .next (s.jump (s.pc + dispValue d))

/-- JUMP, CASEi, ACBi (R384 to R386; the overflow condition of ACBi is R203 with D14, log 15). -/
def Obligations.JumpCaseAndLoop : Prop :=
  ∀ (s : State) (q : BitVec 4) (g : Gen) (d : Disp), s.accessible →
    encodedAs (.jump g) 2 (0x27F + 2048 * g.code) [g] [] ∧
    encodedAs (.caseb g) 2 (0x77C + 2048 * g.code) [g] [] ∧
    encodedAs (.casew g) 2 (0x77D + 2048 * g.code) [g] [] ∧
    encodedAs (.cased g) 2 (0x77F + 2048 * g.code) [g] [] ∧
    encodedAs (.acbb q g d) 2 (0x4C + 128 * q.toNat + 2048 * g.code) [g] (d.bytes) ∧
    encodedAs (.acbw q g d) 2 (0x4D + 128 * q.toNat + 2048 * g.code) [g] (d.bytes) ∧
    encodedAs (.acbd q g d) 2 (0x4F + 128 * q.toNat + 2048 * g.code) [g] (d.bytes) ∧
    ((Instr.jump g).wellFormed = true → ∃ ea, genAddr s.sp s g = .ok ea ∧ exec (.jump g) s = .next (s.jump ea)) ∧
    ((Instr.caseb g).wellFormed = true → ∃ x s₁, readGen .int 8 s.sp g s = .ok (x, s₁) ∧
        exec (.caseb g) s = .next (s₁.jump (s₁.pc + BitVec.ofInt 32 x.toInt))) ∧
    ((Instr.casew g).wellFormed = true → ∃ x s₁, readGen .int 16 s.sp g s = .ok (x, s₁) ∧
        exec (.casew g) s = .next (s₁.jump (s₁.pc + BitVec.ofInt 32 x.toInt))) ∧
    ((Instr.cased g).wellFormed = true → ∃ x s₁, readGen .int 32 s.sp g s = .ok (x, s₁) ∧
        exec (.cased g) s = .next (s₁.jump (s₁.pc + BitVec.ofInt 32 x.toInt))) ∧
    ((Instr.acbb q g d).wellFormed = true → ∃ l y s₁ t, rmwLoc .int s.sp g s = .ok l ∧ readAt 8 l s = .ok (y, s₁) ∧
        writeAt l (y + BitVec.ofInt 8 q.toInt) s₁ = .ok t ∧
        (s.flagV = false ∨ outOfRange 8 (y.toInt + q.toInt) = false →
          exec (.acbb q g d) s = .next (if y + BitVec.ofInt 8 q.toInt = 0 then
            t.advance (Instr.acbb q g d).length else t.jump (s.pc + dispValue d)))) ∧
    ((Instr.acbw q g d).wellFormed = true → ∃ l y s₁ t, rmwLoc .int s.sp g s = .ok l ∧ readAt 16 l s = .ok (y, s₁) ∧
        writeAt l (y + BitVec.ofInt 16 q.toInt) s₁ = .ok t ∧
        (s.flagV = false ∨ outOfRange 16 (y.toInt + q.toInt) = false →
          exec (.acbw q g d) s = .next (if y + BitVec.ofInt 16 q.toInt = 0 then
            t.advance (Instr.acbw q g d).length else t.jump (s.pc + dispValue d)))) ∧
    ((Instr.acbd q g d).wellFormed = true → ∃ l y s₁ t, rmwLoc .int s.sp g s = .ok l ∧ readAt 32 l s = .ok (y, s₁) ∧
        writeAt l (y + BitVec.ofInt 32 q.toInt) s₁ = .ok t ∧
        (s.flagV = false ∨ outOfRange 32 (y.toInt + q.toInt) = false →
          exec (.acbd q g d) s = .next (if y + BitVec.ofInt 32 q.toInt = 0 then
            t.advance (Instr.acbd q g d).length else t.jump (s.pc + dispValue d))))

/-- BSR, JSR, RET (R387 to R389). That JSR computes its address before the push is an inference that
R388 marks as the spec's own; the last clause, a BSR followed by RET 0, is derived from R387, R389 and
R90 and is in no rule. -/
def Obligations.CallsAndReturns : Prop :=
  ∀ (s : State) (d : Disp) (g : Gen), s.accessible →
    encodedAs (.bsr d) 1 (0x2) [] (d.bytes) ∧
    encodedAs (.jsr g) 2 (0x67F + 2048 * g.code) [g] [] ∧
    encodedAs (.ret d) 1 (0x12) [] (d.bytes) ∧
    (∃ t, s.push (s.pc + BitVec.ofNat 32 (Instr.bsr d).length) = .ok t ∧
      exec (.bsr d) s = .next (t.jump (s.pc + dispValue d))) ∧
    ((Instr.jsr g).wellFormed = true → ∃ ea t, genAddr s.sp s g = .ok ea ∧
      s.push (s.pc + BitVec.ofNat 32 (Instr.jsr g).length) = .ok t ∧
      exec (.jsr g) s = .next (t.jump ea)) ∧
    (∃ a, s.read 32 s.sp = .ok a ∧
      exec (.ret d) s = .next ((s.setSp (s.sp + 4 + dispValue d)).jump a)) ∧
    (s.xlate = [] → s.mem.wf = true → ∀ t, exec (.bsr d) s = .next t →
      ∃ u, exec (.ret (.d7 0)) t = .next u ∧
        u.pc = s.pc + BitVec.ofNat 32 (Instr.bsr d).length ∧ u.sp0 = s.sp0 ∧ u.sp1 = s.sp1)

/-- CXP, CXPD, RXP (R390 to R393; U28, log 41; the reads before the pushes are the decision D15 in R390,
log 14). -/
def Obligations.ExternalCalls : Prop :=
  ∀ (s : State) (d : Disp) (g : Gen), s.accessible →
    (∃ lb desc sb pb t₁ t₂, s.read 32 (s.mod.setWidth 32 + 4) = .ok lb ∧
      s.read 32 (lb + 4 * dispValue d) = .ok desc ∧
      s.read 32 ((desc.setWidth 16).setWidth 32) = .ok sb ∧
      s.read 32 ((desc.setWidth 16).setWidth 32 + 8) = .ok pb ∧
      (s.draw 16).2.push ((s.draw 16).1 ++ s.mod) = .ok t₁ ∧
      t₁.push (s.pc + BitVec.ofNat 32 (Instr.cxp d).length) = .ok t₂ ∧
      exec (.cxp d) s = .next (State.jump { t₂ with mod := desc.setWidth 16, sb := sb }
        (pb + desc >>> 16))) ∧
    ((Instr.cxpd g).wellFormed = true → (∃ ea desc sb pb t₁ t₂, genAddr s.sp s g = .ok ea ∧ s.read 32 ea = .ok desc ∧
      s.read 32 ((desc.setWidth 16).setWidth 32) = .ok sb ∧
      s.read 32 ((desc.setWidth 16).setWidth 32 + 8) = .ok pb ∧
      (s.draw 16).2.push ((s.draw 16).1 ++ s.mod) = .ok t₁ ∧
      t₁.push (s.pc + BitVec.ofNat 32 (Instr.cxpd g).length) = .ok t₂ ∧
      exec (.cxpd g) s = .next (State.jump { t₂ with mod := desc.setWidth 16, sb := sb }
        (pb + desc >>> 16)))) ∧
    (∃ (a : Word) (m : BitVec 16) (sb : Word), s.read 32 s.sp = .ok a ∧ s.read 16 (s.sp + 4) = .ok m ∧
      s.read 32 (m.setWidth 32) = .ok sb ∧
      exec (.rxp d) s = .next (State.jump { s.setSp (s.sp + 8 + dispValue d) with mod := m, sb := sb } a))

/-- BPT, FLAG, SVC (R394 to R399) and custom instructions (R470 to R473; D23, logs 10, 16, 20, 21). -/
def Obligations.ExplicitTrapsAndCustomInstructions : Prop :=
  ∀ s : State,
    exec .bpt s = trapped s 8 ∧ exec .svc s = trapped s 5 ∧
    (s.flagF = true → exec .flag s = trapped s 7) ∧
    (s.flagF = false → exec .flag s = .next (s.advance 1)) ∧
    (s.cfgC = false → exec .custom36 s = trapped s 10 ∧ exec .customB6 s = trapped s 10 ∧
      (s.flagU = false → exec .custom16 s = trapped s 10)) ∧
    (s.cfgC = true → exec .custom36 s = .refused .customSlave ∧
      exec .customB6 s = .refused .customSlave ∧
      (s.flagU = false → exec .custom16 s = .refused .customSlave)) ∧
    (s.flagU = true → exec .custom16 s = trapped s 4) ∧
    (s.accessible → (∃ t, exec .bpt s = .next t) ∧ (∃ t, exec .svc s = .next t) ∧
      (s.cfgC = false → (∃ t, exec .custom36 s = .next t) ∧ (∃ t, exec .customB6 s = .next t) ∧
        ∃ t, exec .custom16 s = .next t))

/-- Exception entry (R510, R512; logs 4, 11, 12) and RETT and RETI (R398, R400, R401; logs 6, 22, 46). -/
def Obligations.ExceptionEntryAndReturns : Prop :=
  ∀ (s : State) (d : Disp) (v : Nat) (ret : Word) (clearI : Bool) (image : BitVec 16),
    (s.xlate = [] → s.mem.wf = true → ∃ t d sb pb, takeException s v ret clearI image = .next t ∧
      s.read 32 (s.intbase + BitVec.ofNat 32 (4 * v)) .read false = .ok d ∧
      s.read 32 ((d.setWidth 16).setWidth 32) .read false = .ok sb ∧
      s.read 32 ((d.setWidth 16).setWidth 32 + 8) .read false = .ok pb ∧
      t.read 32 t.sp0 .read false = .ok ret ∧ t.read 16 (t.sp0 + 4) .read false = .ok s.mod ∧
      t.read 16 (t.sp0 + 6) .read false = .ok image ∧ t.sp0 = s.sp0 - 8 ∧ t.sp1 = s.sp1 ∧
      t.psr = s.psr &&& (if clearI then 0xF0FD else 0xF8FD) ∧ t.waiting = false ∧
      (s.cfgDE = false → t.mod = d.setWidth 16 ∧ t.sb = sb ∧ t.pc = pb + d >>> 16) ∧
      (s.cfgDE = true → t.mod = s.mod ∧ t.sb = s.sb ∧ t.pc = d) ∧
      t.regs = s.regs ∧ t.fp = s.fp ∧ t.fd = s.fd ∧ t.fsr = s.fsr ∧ t.cfg = s.cfg ∧
      t.intbase = s.intbase ∧ t.eoiEvents = s.eoiEvents ∧ s.sameUnits t ∧
      ∀ pa, (∀ j, j < 8 → pa ≠ (t.sp0 + BitVec.ofNat 32 j).toNat) → t.mem.get pa = s.mem.get pa) ∧
    (s.accessible → s.flagU = false →
    (∃ (a : Word) (m p : BitVec 16) (sb : Word), s.read 32 s.sp = .ok a ∧
      s.read 16 (s.sp + 4) = .ok m ∧ s.read 16 (s.sp + 6) = .ok p ∧ s.read 32 (m.setWidth 32) = .ok sb ∧
      ∃ t, exec (.rett d) s = .next t ∧ t.pc = a ∧ t.psr = p &&& 0x0FF7 ∧
        t.mod = (if s.cfgDE then s.mod else m) ∧ t.sb = (if s.cfgDE then s.sb else sb) ∧
        (if s.flagS then
          t.sp0 = s.sp0 + (if p.getLsbD 9 then 0 else dispValue d) ∧
            t.sp1 = s.sp1 + 8 + (if p.getLsbD 9 then dispValue d else 0)
        else t.sp0 = s.sp0 + 8 + (if p.getLsbD 9 then 0 else dispValue d) ∧
            t.sp1 = s.sp1 + (if p.getLsbD 9 then dispValue d else 0)) ∧
        t.eoiEvents = s.eoiEvents ∧ t.regs = s.regs ∧ t.fd = s.fd ∧ t.fp = s.fp ∧
        t.fsr = s.fsr ∧ t.intbase = s.intbase ∧ t.cfg = s.cfg ∧ t.waiting = s.waiting ∧ s.sameUnits t ∧ t.mem = s.mem) ∧
    (∃ (a : Word) (m p : BitVec 16) (sb : Word), s.read 32 s.sp = .ok a ∧
      s.read 16 (s.sp + 4) = .ok m ∧ s.read 16 (s.sp + 6) = .ok p ∧ s.read 32 (m.setWidth 32) = .ok sb ∧
      ∃ t, exec .reti s = .next t ∧ t.pc = a ∧ t.psr = p &&& 0x0FF7 ∧
        t.mod = (if s.cfgDE then s.mod else m) ∧ t.sb = (if s.cfgDE then s.sb else sb) ∧
        (if s.flagS then
          t.sp0 = s.sp0 + (if p.getLsbD 9 then 0 else 0) ∧
            t.sp1 = s.sp1 + 8 + (if p.getLsbD 9 then 0 else 0)
        else t.sp0 = s.sp0 + 8 + (if p.getLsbD 9 then 0 else 0) ∧
            t.sp1 = s.sp1 + (if p.getLsbD 9 then 0 else 0)) ∧
        t.eoiEvents = s.eoiEvents + 1 ∧ t.regs = s.regs ∧ t.fd = s.fd ∧ t.fp = s.fp ∧
        t.fsr = s.fsr ∧ t.intbase = s.intbase ∧ t.cfg = s.cfg ∧ t.waiting = s.waiting ∧ s.sameUnits t ∧ t.mem = s.mem))

/-! ## Processor service and memory management -/

/-- SAVE, RESTORE, ENTER, EXIT (R422 to R426). -/
def Obligations.SaveRestoreEnterExit : Prop :=
  ∀ (s : State) (l : BitVec 8) (d : Disp), s.accessible →
    (∃ t, pushRegs (savedRegs l) s = .ok t ∧ exec (.save l) s = .next (t.advance 2)) ∧
    (∃ t, popRegs (restoredRegs l) s = .ok t ∧ exec (.restore l) s = .next (t.advance 2)) ∧
    (∃ t u, s.push s.fp = .ok t ∧
      pushRegs (savedRegs l) (State.setSp { t with fp := t.sp } (t.sp - dispValue d)) = .ok u ∧
      exec (.enter l d) s = .next (u.advance (Instr.enter l d).length)) ∧
    (∃ t v u, popRegs (restoredRegs l) s = .ok t ∧ (t.setSp t.fp).pop 32 = .ok (v, u) ∧
      exec (.exit l) s = .next ({ u with fp := v }.advance 2)) ∧
    (s.xlate = [] → s.mem.wf = true → ∀ t, exec (.save l) s = .next t →
      ∃ u, exec (.restore l.reverse) t = .next u ∧ u.regs = s.regs ∧ u.sp0 = s.sp0 ∧
        u.sp1 = s.sp1)

/-- LPRi, SPRi, ADJSPi, BICPSRi, BISPSRi (R427 to R432; logs 6, 25). -/
def Obligations.ProcessorRegisters : Prop :=
  ∀ (s : State) (r : ProcReg) (g : Gen), s.accessible →
    ((Instr.lprb r g).wellFormed = true → (s.flagU = false ∨ procPrivileged r = false) →
        CompletesRead (.lprb r g) 8 g s fun x s => loaded s r x) ∧
    ((Instr.lprw r g).wellFormed = true → (s.flagU = false ∨ procPrivileged r = false) →
        CompletesRead (.lprw r g) 16 g s fun x s => loaded s r x) ∧
    ((Instr.lprd r g).wellFormed = true → (s.flagU = false ∨ procPrivileged r = false) →
        CompletesRead (.lprd r g) 32 g s fun x s => loaded s r x) ∧
    ((Instr.sprb r g).wellFormed = true → (s.flagU = false ∨ procPrivileged r = false) →
        CompletesStore (.sprb r g) 8 g s ((stored s r).setWidth 8) s) ∧
    ((Instr.sprw r g).wellFormed = true → (s.flagU = false ∨ procPrivileged r = false) →
        CompletesStore (.sprw r g) 16 g s ((stored s r).setWidth 16) s) ∧
    ((Instr.sprd r g).wellFormed = true → (s.flagU = false ∨ procPrivileged r = false) →
        CompletesStore (.sprd r g) 32 g s ((stored s r).setWidth 32) s) ∧
    ((Instr.adjspb g).wellFormed = true → CompletesRead (.adjspb g) 8 g s
        fun x s => s.setSp (s.sp - BitVec.ofInt 32 x.toInt)) ∧
    ((Instr.adjspw g).wellFormed = true → CompletesRead (.adjspw g) 16 g s
        fun x s => s.setSp (s.sp - BitVec.ofInt 32 x.toInt)) ∧
    ((Instr.adjspd g).wellFormed = true → CompletesRead (.adjspd g) 32 g s
        fun x s => s.setSp (s.sp - BitVec.ofInt 32 x.toInt)) ∧
    ((Instr.bicpsrb g).wellFormed = true → CompletesRead (.bicpsrb g) 8 g s fun x s =>
        { s with psr := (s.psr &&& ~~~(x.setWidth 16)) &&& 0x0FF7 }) ∧
    ((Instr.bispsrb g).wellFormed = true → CompletesRead (.bispsrb g) 8 g s fun x s =>
        { s with psr := (s.psr ||| x.setWidth 16) &&& 0x0FF7 }) ∧
    ((Instr.bicpsrw g).wellFormed = true → s.flagU = false → CompletesRead (.bicpsrw g) 16 g s fun x s =>
        { s with psr := (s.psr &&& ~~~x) &&& 0x0FF7 }) ∧
    ((Instr.bispsrw g).wellFormed = true → s.flagU = false → CompletesRead (.bispsrw g) 16 g s fun x s =>
        { s with psr := (s.psr ||| x) &&& 0x0FF7 })

/-- Writing CFG (R56): SETCFG and LPRD CFG. -/
def Obligations.ConfigurationIsLoaded : Prop :=
  ∀ (s : State) (k : BitVec 4) (v : Word), s.flagU = false →
    exec (.setcfg k) s =
      .next (State.advance { s with cfg := 0x000000F0 ||| k.setWidth 32 } 3) ∧
    exec (.lprd .cfg (.plain (.imm (.d v)))) s =
      .next (State.advance { s with cfg := (v &&& 0x00003F0F) ||| 0x000000F0 } 6)

/-- NOP (R434). -/
def Obligations.NoOperation : Prop :=
  encode .nop = [0xA2] ∧ ∀ s : State, exec .nop s = .next { s with pc := s.pc + 1, boundary := .done }

/-- WAIT, DIA, CINV (R435, R436, R440; logs 23, 24). That an interrupt is sampled while waiting and pushes
PSR with P as it is is PRESUMED, logs 16 and 17. -/
def Obligations.WaitDiagnoseInvalidate : Prop :=
  ∀ (s : State) (al ic dc : Bool) (g : Gen), s.accessible →
    exec .wait s = .next { s with pc := s.pc + 1, waiting := true, boundary := .done } ∧
    exec .dia s = .next { s with boundary := .done } ∧
    ((Instr.cinv al ic dc g).wellFormed = true → s.flagU = false →
      CompletesRead (.cinv al ic dc g) 32 g s fun _ s => s) ∧
    (s.waiting = true → s.resetRequest = false → s.nmiPending = false →
      (s.intRequest = false → step s = .next s) ∧
      (s.intRequest = true → s.flagI = true → s.cfgI = false →
        step s = takeException s 0 s.pc true s.psr))

/-- LMR and SMR (R451 to R453; logs 24, 26, 40). -/
def Obligations.MemoryManagementRegisters : Prop :=
  ∀ (s : State) (g : Gen), s.accessible → s.flagU = false → s.cfgM = true →
    (∀ r, (Instr.lmr r g).wellFormed = true → CompletesRead (.lmr r g) 32 g s fun x s =>
      match r with
      | .mcr => { s with mcr := x }
      | .msr => { s with msr := x }
      | .tear => { s with tear := x }
      | .ptb0 => { s with ptb0 := x }
      | .ptb1 => { s with ptb1 := x }
      | .ivar0 | .ivar1 => s) ∧
    (∀ r, (Instr.smr r g).wellFormed = true →
      (r = .mcr → CompletesStore (.smr r g) 32 g s s.mcr s) ∧
      (r = .msr → CompletesStore (.smr r g) 32 g s s.msr s) ∧
      (r = .tear → CompletesStore (.smr r g) 32 g s s.tear s) ∧
      (r = .ptb0 → CompletesStore (.smr r g) 32 g s s.ptb0 s) ∧
      (r = .ptb1 → CompletesStore (.smr r g) 32 g s s.ptb1 s) ∧
      (r = .ivar0 ∨ r = .ivar1 → CompletesStore (.smr r g) 32 g s (s.draw 32).1 (s.draw 32).2))

/-- RDVAL, WRVAL, MOVSUi, MOVUSi (R454 to R459; logs 8, 9; entry 2 is log 10's and the P bit of the image
log 16's). -/
def Obligations.ValidateAndMoveBetweenSpaces : Prop :=
  ∀ (s : State) (g h : Gen), s.flagU = false →
    (s.cfgM = true → ∀ a, genAddr s.sp s g = .ok a →
      (s.validate .read a = .allowed →
        exec (.rdval g) s = .next ((s.setF false).advance (Instr.rdval g).length)) ∧
      (s.validate .read a = .denied →
        exec (.rdval g) s = .next ((s.setF true).advance (Instr.rdval g).length)) ∧
      (s.validate .read a = .abort →
        exec (.rdval g) s = takeException { s with tear := a } 2 s.pc true (s.psr &&& 0xFBFF))) ∧
    ((Instr.rdval g).wellFormed = true → s.accessible → s.cfgM = true →
      ∃ a, genAddr s.sp s g = .ok a ∧ s.validate .read a = .allowed ∧
        exec (.rdval g) s = .next ((s.setF false).advance (Instr.rdval g).length)) ∧
    (s.cfgM = true → ∀ a, genAddr s.sp s g = .ok a →
      (s.validate .write a = .allowed →
        exec (.wrval g) s = .next ((s.setF false).advance (Instr.wrval g).length)) ∧
      (s.validate .write a = .denied →
        exec (.wrval g) s = .next ((s.setF true).advance (Instr.wrval g).length)) ∧
      (s.validate .write a = .abort →
        exec (.wrval g) s = takeException { s with tear := a } 2 s.pc true (s.psr &&& 0xFBFF))) ∧
    ((Instr.wrval g).wellFormed = true → s.accessible → s.cfgM = true →
      ∃ a, genAddr s.sp s g = .ok a ∧ s.validate .write a = .allowed ∧
        exec (.wrval g) s = .next ((s.setF false).advance (Instr.wrval g).length)) ∧
    ((Instr.movsub g h).wellFormed = true → s.accessible →
      ∃ (p q : Word) (v : BitVec 8) (t : State), genAddr s.sp s g = .ok p ∧ genAddr s.sp s h = .ok q ∧
        s.read 8 p .read false = .ok v ∧ s.write q v .write true = .ok t ∧
        exec (.movsub g h) s = .next (t.advance (Instr.movsub g h).length)) ∧
    ((Instr.movsuw g h).wellFormed = true → s.accessible →
      ∃ (p q : Word) (v : BitVec 16) (t : State), genAddr s.sp s g = .ok p ∧ genAddr s.sp s h = .ok q ∧
        s.read 16 p .read false = .ok v ∧ s.write q v .write true = .ok t ∧
        exec (.movsuw g h) s = .next (t.advance (Instr.movsuw g h).length)) ∧
    ((Instr.movsud g h).wellFormed = true → s.accessible →
      ∃ (p q : Word) (v : BitVec 32) (t : State), genAddr s.sp s g = .ok p ∧ genAddr s.sp s h = .ok q ∧
        s.read 32 p .read false = .ok v ∧ s.write q v .write true = .ok t ∧
        exec (.movsud g h) s = .next (t.advance (Instr.movsud g h).length)) ∧
    ((Instr.movusb g h).wellFormed = true → s.accessible →
      ∃ (p q : Word) (v : BitVec 8) (t : State), genAddr s.sp s g = .ok p ∧ genAddr s.sp s h = .ok q ∧
        s.read 8 p .read true = .ok v ∧ s.write q v .write false = .ok t ∧
        exec (.movusb g h) s = .next (t.advance (Instr.movusb g h).length)) ∧
    ((Instr.movusw g h).wellFormed = true → s.accessible →
      ∃ (p q : Word) (v : BitVec 16) (t : State), genAddr s.sp s g = .ok p ∧ genAddr s.sp s h = .ok q ∧
        s.read 16 p .read true = .ok v ∧ s.write q v .write false = .ok t ∧
        exec (.movusw g h) s = .next (t.advance (Instr.movusw g h).length)) ∧
    ((Instr.movusd g h).wellFormed = true → s.accessible →
      ∃ (p q : Word) (v : BitVec 32) (t : State), genAddr s.sp s g = .ok p ∧ genAddr s.sp s h = .ok q ∧
        s.read 32 p .read true = .ok v ∧ s.write q v .write false = .ok t ∧
        exec (.movusd g h) s = .next (t.advance (Instr.movusd g h).length))

/-! ## Floating-point and custom instructions -/

/-- ADDf, SUBf, MULf, DIVf, SCALBf (R261 to R264, R272; logs 43, 44). -/
def Obligations.FloatArithmetic : Prop :=
  ∀ (s : State) (a b : Gen), s.accessible → s.cfgF = true →
    ((Instr.addf a b).wellFormed = true → CompletesRmw (.addf a b) .float .float 32 32 a b s fun x y s =>
        floatResult (fpReserved x || fpReserved y) (fpAdd 32 s.fsr (fpValue x) (fpValue y)) s) ∧
    ((Instr.addl a b).wellFormed = true → CompletesRmw (.addl a b) .float .float 64 64 a b s fun x y s =>
        floatResult (fpReserved x || fpReserved y) (fpAdd 64 s.fsr (fpValue x) (fpValue y)) s) ∧
    ((Instr.subf a b).wellFormed = true → CompletesRmw (.subf a b) .float .float 32 32 a b s fun x y s =>
        floatResult (fpReserved x || fpReserved y) (fpAdd 32 s.fsr (fpValue x).negate (fpValue y)) s) ∧
    ((Instr.subl a b).wellFormed = true → CompletesRmw (.subl a b) .float .float 64 64 a b s fun x y s =>
        floatResult (fpReserved x || fpReserved y) (fpAdd 64 s.fsr (fpValue x).negate (fpValue y)) s) ∧
    ((Instr.mulf a b).wellFormed = true → CompletesRmw (.mulf a b) .float .float 32 32 a b s fun x y s =>
        floatResult (fpReserved x || fpReserved y) (fpDeliver 32 s.fsr ((fpValue x).mul (fpValue y)) (fpSign x ^^ fpSign y)) s) ∧
    ((Instr.mull a b).wellFormed = true → CompletesRmw (.mull a b) .float .float 64 64 a b s fun x y s =>
        floatResult (fpReserved x || fpReserved y) (fpDeliver 64 s.fsr ((fpValue x).mul (fpValue y)) (fpSign x ^^ fpSign y)) s) ∧
    ((Instr.divf a b).wellFormed = true → CompletesRmw (.divf a b) .float .float 32 32 a b s fun x y s =>
        if fpIsZero x then none
        else if fpIsZero y then
          floatResult (fpReserved x) (.ok (fpZero 32 (fpSign x ^^ fpSign y), fsrSetTT s.fsr 0)) s
        else floatResult (fpReserved x || fpReserved y)
          (fpDeliver 32 s.fsr ((fpValue y).div 24 (fpValue x)) false) s) ∧
    ((Instr.divl a b).wellFormed = true → CompletesRmw (.divl a b) .float .float 64 64 a b s fun x y s =>
        if fpIsZero x then none
        else if fpIsZero y then
          floatResult (fpReserved x) (.ok (fpZero 64 (fpSign x ^^ fpSign y), fsrSetTT s.fsr 0)) s
        else floatResult (fpReserved x || fpReserved y)
          (fpDeliver 64 s.fsr ((fpValue y).div 53 (fpValue x)) false) s) ∧
    ((Instr.scalbf a b).wellFormed = true → CompletesRmw (.scalbf a b) .float .float 32 32 a b s fun x y s =>
        floatResult (fpReserved x || fpReserved y) (if fpIsZero y then .ok (y, fsrSetTT s.fsr 0)
          else fpDeliver 32 s.fsr { fpValue y with exp := (fpValue y).exp + (fpValue x).toInteger .trunc }
            false) s) ∧
    ((Instr.scalbl a b).wellFormed = true → CompletesRmw (.scalbl a b) .float .float 64 64 a b s fun x y s =>
        floatResult (fpReserved x || fpReserved y) (if fpIsZero y then .ok (y, fsrSetTT s.fsr 0)
          else fpDeliver 64 s.fsr { fpValue y with exp := (fpValue y).exp + (fpValue x).toInteger .trunc }
            false) s)

/-- NEGf, ABSf, MOVf, LOGBf (R267 to R271; U13, log 31). -/
def Obligations.FloatSignMoveAndLog : Prop :=
  ∀ (s : State) (a b : Gen), s.accessible → s.cfgF = true →
    ((Instr.negf a b).wellFormed = true → CompletesWrite (.negf a b) .float .float 32 32 a b s fun x s =>
        floatResult (fpReserved x) (.ok (x ^^^ 0x80000000, fsrSetTT s.fsr 0)) s) ∧
    ((Instr.negl a b).wellFormed = true → CompletesWrite (.negl a b) .float .float 64 64 a b s fun x s =>
        floatResult (fpReserved x) (.ok (x ^^^ 0x8000000000000000, fsrSetTT s.fsr 0)) s) ∧
    ((Instr.absf a b).wellFormed = true → CompletesWrite (.absf a b) .float .float 32 32 a b s fun x s =>
        floatResult (fpReserved x) (.ok (x &&& ~~~0x80000000, fsrSetTT s.fsr 0)) s) ∧
    ((Instr.absl a b).wellFormed = true → CompletesWrite (.absl a b) .float .float 64 64 a b s fun x s =>
        floatResult (fpReserved x) (.ok (x &&& ~~~0x8000000000000000, fsrSetTT s.fsr 0)) s) ∧
    ((Instr.movf a b).wellFormed = true → CompletesWrite (.movf a b) .float .float 32 32 a b s fun x s =>
        floatResult (false) (.ok (x, fsrSetTT s.fsr 0)) s) ∧
    ((Instr.movl a b).wellFormed = true → CompletesWrite (.movl a b) .float .float 64 64 a b s fun x s =>
        floatResult (false) (.ok (x, fsrSetTT s.fsr 0)) s) ∧
    ((Instr.logbf a b).wellFormed = true → CompletesWrite (.logbf a b) .float .float 32 32 a b s fun x s =>
        if fpIsZero x then
          some ((s.draw 32).1, { (s.draw 32).2 with fsr := fsrSetTT s.fsr 0 })
        else if fpExp x = fpBias 32 then floatResult (fpReserved x) (.ok (0, fsrSetTT s.fsr 0)) s
        else floatResult (fpReserved x) (.ok (fpEncode 32 (exactOf ((fpExp x : Int) - fpBias 32) 0),
          fsrSetTT s.fsr 0)) s) ∧
    ((Instr.logbl a b).wellFormed = true → CompletesWrite (.logbl a b) .float .float 64 64 a b s fun x s =>
        if fpIsZero x then
          some ((s.draw 64).1, { (s.draw 64).2 with fsr := fsrSetTT s.fsr 0 })
        else if fpExp x = fpBias 64 then floatResult (fpReserved x) (.ok (0, fsrSetTT s.fsr 0)) s
        else floatResult (fpReserved x) (.ok (fpEncode 64 (exactOf ((fpExp x : Int) - fpBias 64) 0),
          fsrSetTT s.fsr 0)) s)

/-- CMPf, DOTf, POLYf (R265, R266, R269; log 42). -/
def Obligations.FloatCompareDotAndPoly : Prop :=
  ∀ (s : State) (a b : Gen), s.accessible → s.cfgF = true →
    ((Instr.cmpf a b).wellFormed = true → CompletesCompare (.cmpf a b) .float 32 a b s fun x y s =>
        if fpReserved x || fpReserved y then none
        else some (State.setZNL { s with fsr := fsrSetTT s.fsr 0 } ((fpValue x).eq (fpValue y))
          ((fpValue y).lt (fpValue x)) false)) ∧
    ((Instr.cmpl a b).wellFormed = true → CompletesCompare (.cmpl a b) .float 64 a b s fun x y s =>
        if fpReserved x || fpReserved y then none
        else some (State.setZNL { s with fsr := fsrSetTT s.fsr 0 } ((fpValue x).eq (fpValue y))
          ((fpValue y).lt (fpValue x)) false)) ∧
    ((Instr.dotf a b).wellFormed = true → CompletesCompare (.dotf a b) .float 32 a b s fun x y s =>
        accumulated s (fpReserved x || fpReserved y || fpReserved (s.freg 32 0))
          (mulAdd 32 s.fsr (fpValue x) (fpValue y) (fpValue (s.freg 32 0)))) ∧
    ((Instr.dotl a b).wellFormed = true → CompletesCompare (.dotl a b) .float 64 a b s fun x y s =>
        accumulated s (fpReserved x || fpReserved y || fpReserved (s.freg 64 0))
          (mulAdd 64 s.fsr (fpValue x) (fpValue y) (fpValue (s.freg 64 0)))) ∧
    ((Instr.polyf a b).wellFormed = true → CompletesCompare (.polyf a b) .float 32 a b s fun x y s =>
        accumulated s (fpReserved x || fpReserved y || fpReserved (s.freg 32 0))
          (mulAdd 32 s.fsr (fpValue (s.freg 32 0)) (fpValue x) (fpValue y))) ∧
    ((Instr.polyl a b).wellFormed = true → CompletesCompare (.polyl a b) .float 64 a b s fun x y s =>
        accumulated s (fpReserved x || fpReserved y || fpReserved (s.freg 64 0))
          (mulAdd 64 s.fsr (fpValue (s.freg 64 0)) (fpValue x) (fpValue y)))

/-- MOVif, MOVLF, MOVFL, ROUNDfi, TRUNCfi, FLOORfi (R273 to R280). -/
def Obligations.FloatConversions : Prop :=
  ∀ (s : State) (a b : Gen), s.accessible → s.cfgF = true →
    ((Instr.movbf a b).wellFormed = true → CompletesWrite (.movbf a b) .int .float 8 32 a b s fun x s =>
        floatResult false (fpDeliver 32 s.fsr (exactOf x.toInt 0) false) s) ∧
    ((Instr.movbl a b).wellFormed = true → CompletesWrite (.movbl a b) .int .float 8 64 a b s fun x s =>
        floatResult false (fpDeliver 64 s.fsr (exactOf x.toInt 0) false) s) ∧
    ((Instr.movwf a b).wellFormed = true → CompletesWrite (.movwf a b) .int .float 16 32 a b s fun x s =>
        floatResult false (fpDeliver 32 s.fsr (exactOf x.toInt 0) false) s) ∧
    ((Instr.movwl a b).wellFormed = true → CompletesWrite (.movwl a b) .int .float 16 64 a b s fun x s =>
        floatResult false (fpDeliver 64 s.fsr (exactOf x.toInt 0) false) s) ∧
    ((Instr.movdf a b).wellFormed = true → CompletesWrite (.movdf a b) .int .float 32 32 a b s fun x s =>
        floatResult false (fpDeliver 32 s.fsr (exactOf x.toInt 0) false) s) ∧
    ((Instr.movdl a b).wellFormed = true → CompletesWrite (.movdl a b) .int .float 32 64 a b s fun x s =>
        floatResult false (fpDeliver 64 s.fsr (exactOf x.toInt 0) false) s) ∧
    ((Instr.movlf a b).wellFormed = true → CompletesWrite (.movlf a b) .float .float 64 32 a b s fun x s =>
        floatResult (fpReserved x) (fpDeliver 32 s.fsr (fpValue x) (fpSign x)) s) ∧
    ((Instr.movfl a b).wellFormed = true → CompletesWrite (.movfl a b) .float .float 32 64 a b s fun x s =>
        floatResult (fpReserved x) (fpDeliver 64 s.fsr (fpValue x) (fpSign x)) s) ∧
    ((Instr.roundfb a b).wellFormed = true → CompletesWrite (.roundfb a b) .float .int 32 8 a b s fun x s =>
        floatResult (fpReserved x) (fpToInt 8 s.fsr (fpValue x) .round) s) ∧
    ((Instr.roundfw a b).wellFormed = true → CompletesWrite (.roundfw a b) .float .int 32 16 a b s fun x s =>
        floatResult (fpReserved x) (fpToInt 16 s.fsr (fpValue x) .round) s) ∧
    ((Instr.roundfd a b).wellFormed = true → CompletesWrite (.roundfd a b) .float .int 32 32 a b s fun x s =>
        floatResult (fpReserved x) (fpToInt 32 s.fsr (fpValue x) .round) s) ∧
    ((Instr.roundlb a b).wellFormed = true → CompletesWrite (.roundlb a b) .float .int 64 8 a b s fun x s =>
        floatResult (fpReserved x) (fpToInt 8 s.fsr (fpValue x) .round) s) ∧
    ((Instr.roundlw a b).wellFormed = true → CompletesWrite (.roundlw a b) .float .int 64 16 a b s fun x s =>
        floatResult (fpReserved x) (fpToInt 16 s.fsr (fpValue x) .round) s) ∧
    ((Instr.roundld a b).wellFormed = true → CompletesWrite (.roundld a b) .float .int 64 32 a b s fun x s =>
        floatResult (fpReserved x) (fpToInt 32 s.fsr (fpValue x) .round) s) ∧
    ((Instr.truncfb a b).wellFormed = true → CompletesWrite (.truncfb a b) .float .int 32 8 a b s fun x s =>
        floatResult (fpReserved x) (fpToInt 8 s.fsr (fpValue x) .trunc) s) ∧
    ((Instr.truncfw a b).wellFormed = true → CompletesWrite (.truncfw a b) .float .int 32 16 a b s fun x s =>
        floatResult (fpReserved x) (fpToInt 16 s.fsr (fpValue x) .trunc) s) ∧
    ((Instr.truncfd a b).wellFormed = true → CompletesWrite (.truncfd a b) .float .int 32 32 a b s fun x s =>
        floatResult (fpReserved x) (fpToInt 32 s.fsr (fpValue x) .trunc) s) ∧
    ((Instr.trunclb a b).wellFormed = true → CompletesWrite (.trunclb a b) .float .int 64 8 a b s fun x s =>
        floatResult (fpReserved x) (fpToInt 8 s.fsr (fpValue x) .trunc) s) ∧
    ((Instr.trunclw a b).wellFormed = true → CompletesWrite (.trunclw a b) .float .int 64 16 a b s fun x s =>
        floatResult (fpReserved x) (fpToInt 16 s.fsr (fpValue x) .trunc) s) ∧
    ((Instr.truncld a b).wellFormed = true → CompletesWrite (.truncld a b) .float .int 64 32 a b s fun x s =>
        floatResult (fpReserved x) (fpToInt 32 s.fsr (fpValue x) .trunc) s) ∧
    ((Instr.floorfb a b).wellFormed = true → CompletesWrite (.floorfb a b) .float .int 32 8 a b s fun x s =>
        floatResult (fpReserved x) (fpToInt 8 s.fsr (fpValue x) .floor) s) ∧
    ((Instr.floorfw a b).wellFormed = true → CompletesWrite (.floorfw a b) .float .int 32 16 a b s fun x s =>
        floatResult (fpReserved x) (fpToInt 16 s.fsr (fpValue x) .floor) s) ∧
    ((Instr.floorfd a b).wellFormed = true → CompletesWrite (.floorfd a b) .float .int 32 32 a b s fun x s =>
        floatResult (fpReserved x) (fpToInt 32 s.fsr (fpValue x) .floor) s) ∧
    ((Instr.floorlb a b).wellFormed = true → CompletesWrite (.floorlb a b) .float .int 64 8 a b s fun x s =>
        floatResult (fpReserved x) (fpToInt 8 s.fsr (fpValue x) .floor) s) ∧
    ((Instr.floorlw a b).wellFormed = true → CompletesWrite (.floorlw a b) .float .int 64 16 a b s fun x s =>
        floatResult (fpReserved x) (fpToInt 16 s.fsr (fpValue x) .floor) s) ∧
    ((Instr.floorld a b).wellFormed = true → CompletesWrite (.floorld a b) .float .int 64 32 a b s fun x s =>
        floatResult (fpReserved x) (fpToInt 32 s.fsr (fpValue x) .floor) s)

/-- Values, rounding and delivery (R61 to R66, R250 to R257, R261, R264 to R266, R278; D16, log 43; D17,
log 42). -/
def Obligations.ResultsAreRoundedAsTheModeSays : Prop :=
  (∀ (w : Nat) (fsr : Word) (x : Exact) (z : BitVec w) (neg : Bool), w = 32 ∨ w = 64 →
    fpReserved z = false → fpIsZero z = false → x.eq (fpValue z) = true →
    fpDeliver w fsr x neg = .ok (z, (fsr &&& 0xFFFFFFF8))) ∧
  (∀ (p : Nat) (rm : BitVec 2) (x : Exact), 1 ≤ p → x.mant ≠ 0 → RoundsTo p rm x.val (x.round p rm).val) ∧
  (∀ z : BitVec 32, let e : ℕ := z.toNat / 2 ^ 23 % 2 ^ 8; let f : ℕ := z.toNat % 2 ^ 23;
      fpReserved z = (decide (e = 255) || decide (e = 0 ∧ f ≠ 0)) ∧
      (fpIsZero z = true ↔ e = 0 ∧ f = 0) ∧ (fpIsZero z = true → (fpValue z).val = 0) ∧
      (fpReserved z = false → fpIsZero z = false → (fpValue z).val =
        (if z.msb then -1 else 1) * (1 + (f : ℚ) / 2 ^ 23) * (2 : ℚ) ^ ((e : ℤ) - 127)) ∧
      fpZero 32 true = 0x80000000 ∧ fpZero 32 false = 0) ∧
  (∀ (fsr : Word) (x : Exact) (neg lossy : Bool), let y := x.round 24 (fsr.extractLsb' 7 2);
      (x.mant = 0 → lossy = false →
        fpDeliver 32 fsr x neg lossy = .ok (fpZero 32 neg, fsrAfter fsr 0 0)) ∧
      (x.mant = 0 → lossy = true → deliveredInexact fsr (fpZero 32 neg) (fpDeliver 32 fsr x neg lossy)) ∧
      (x.mant ≠ 0 → (2 : ℚ) ^ (127 + 1) ≤ |y.val| →
        fpDeliver 32 fsr x neg lossy = .error (.fpu (fsrAfter fsr 2 0))) ∧
      (x.mant ≠ 0 → |x.val| < (2 : ℚ) ^ (1 - 127 : ℤ) → fpDeliver 32 fsr x neg lossy =
        if fsr.getLsbD 3 then .error (.fpu (fsrAfter fsr 1 0x10)) else .ok (0, fsrAfter fsr 1 0x10)) ∧
      ((2 : ℚ) ^ (1 - 127 : ℤ) ≤ |x.val| → |y.val| < (2 : ℚ) ^ (127 + 1) →
        ∃ z : BitVec 32, fpReserved z = false ∧ fpIsZero z = false ∧ (fpValue z).val = y.val ∧
          (y.val = x.val ∧ lossy = false → fpDeliver 32 fsr x neg lossy = .ok (z, fsrAfter fsr 0 0)) ∧
          (y.val ≠ x.val ∨ lossy = true → deliveredInexact fsr z (fpDeliver 32 fsr x neg lossy)))) ∧
  (∀ z : BitVec 64, let e : ℕ := z.toNat / 2 ^ 52 % 2 ^ 11; let f : ℕ := z.toNat % 2 ^ 52;
      fpReserved z = (decide (e = 2047) || decide (e = 0 ∧ f ≠ 0)) ∧
      (fpIsZero z = true ↔ e = 0 ∧ f = 0) ∧ (fpIsZero z = true → (fpValue z).val = 0) ∧
      (fpReserved z = false → fpIsZero z = false → (fpValue z).val =
        (if z.msb then -1 else 1) * (1 + (f : ℚ) / 2 ^ 52) * (2 : ℚ) ^ ((e : ℤ) - 1023)) ∧
      fpZero 64 true = 0x8000000000000000 ∧ fpZero 64 false = 0) ∧
  (∀ (fsr : Word) (x : Exact) (neg lossy : Bool), let y := x.round 53 (fsr.extractLsb' 7 2);
      (x.mant = 0 → lossy = false →
        fpDeliver 64 fsr x neg lossy = .ok (fpZero 64 neg, fsrAfter fsr 0 0)) ∧
      (x.mant = 0 → lossy = true → deliveredInexact fsr (fpZero 64 neg) (fpDeliver 64 fsr x neg lossy)) ∧
      (x.mant ≠ 0 → (2 : ℚ) ^ (1023 + 1) ≤ |y.val| →
        fpDeliver 64 fsr x neg lossy = .error (.fpu (fsrAfter fsr 2 0))) ∧
      (x.mant ≠ 0 → |x.val| < (2 : ℚ) ^ (1 - 1023 : ℤ) → fpDeliver 64 fsr x neg lossy =
        if fsr.getLsbD 3 then .error (.fpu (fsrAfter fsr 1 0x10)) else .ok (0, fsrAfter fsr 1 0x10)) ∧
      ((2 : ℚ) ^ (1 - 1023 : ℤ) ≤ |x.val| → |y.val| < (2 : ℚ) ^ (1023 + 1) →
        ∃ z : BitVec 64, fpReserved z = false ∧ fpIsZero z = false ∧ (fpValue z).val = y.val ∧
          (y.val = x.val ∧ lossy = false → fpDeliver 64 fsr x neg lossy = .ok (z, fsrAfter fsr 0 0)) ∧
          (y.val ≠ x.val ∨ lossy = true → deliveredInexact fsr z (fpDeliver 64 fsr x neg lossy)))) ∧
  (∀ x y : Exact, (x.add y).val = x.val + y.val ∧ (x.mul y).val = x.val * y.val ∧
    x.negate.val = -x.val ∧ (x.lt y = true ↔ x.val < y.val) ∧ (x.eq y = true ↔ x.val = y.val)) ∧
  (∀ n e : ℤ, (exactOf n e).val = n * (2 : ℚ) ^ e) ∧
  (∀ (p : Nat) (rm : BitVec 2) (x y : Exact), 1 ≤ p → x.mant ≠ 0 → y.mant ≠ 0 →
    let d := x.div p y;
    RoundsTo p rm (x.val / y.val) (d.round p rm).val ∧
    ((d.round p rm).val = d.val ↔ (d.round p rm).val = x.val / y.val) ∧
    ∀ j : ℤ, |d.val| < (2 : ℚ) ^ j ↔ |x.val / y.val| < (2 : ℚ) ^ j) ∧
  (∀ (w : Nat) (fsr : Word) (x y : Exact), (x.add y).mant = 0 → fpAdd w fsr x y =
    .ok (fpZero w (if x.mant = 0 ∧ y.mant = 0 ∧ x.neg = y.neg then x.neg
      else decide (fsr.extractLsb' 7 2 = 3)), fsrAfter fsr 0 0)) ∧
  (∀ (w : Nat) (fsr : Word) (x y z : Exact), w = 32 ∨ w = 64 →
    let exact := x.mul y
    let rounded := exact.round (if w = 32 then 24 else 53) (fsr.extractLsb' 7 2);
    (exact.val = rounded.val ∨ Config.dotPolyFused = true → mulAdd w fsr x y z = fpAdd w fsr exact z) ∧
    (exact.val ≠ rounded.val → Config.dotPolyFused = false →
      mulAdd w fsr x y z = fpAdd w fsr rounded z true)) ∧
  (∀ x : Exact, |((x.toInteger .trunc : ℤ) : ℚ)| ≤ |x.val| ∧ 0 ≤ (x.toInteger .trunc : ℤ) * x.val ∧
    |x.val| < |((x.toInteger .trunc : ℤ) : ℚ)| + 1 ∧
    ((x.toInteger .floor : ℤ) : ℚ) ≤ x.val ∧ x.val < (x.toInteger .floor : ℤ) + 1 ∧
    2 * |((x.toInteger .round : ℤ) : ℚ) - x.val| ≤ 1 ∧
    (2 * |((x.toInteger .round : ℤ) : ℚ) - x.val| = 1 → x.toInteger .round % 2 = 0)) ∧
  ∀ (w : Nat) (fsr : Word) (x : Exact) (m : ToInt), 1 ≤ w →
    let n := x.toInteger m;
    (outOfRange w n = true → fpToInt w fsr x m = .error (.fpu (fsrAfter fsr 2 0))) ∧
    (outOfRange w n = false → (n : ℚ) = x.val →
      fpToInt w fsr x m = .ok (BitVec.ofInt w n, fsrAfter fsr 0 0)) ∧
    (outOfRange w n = false → (n : ℚ) ≠ x.val →
      deliveredInexact fsr (BitVec.ofInt w n) (fpToInt w fsr x m))

/-- LFSR, SFSR (R275, R276) and the illegal formats (R183). FSR bits 31:17 read as zero: D10, log 6. The
image that the trap pushes has P clear: log 16. -/
def Obligations.FloatStatusRegister : Prop :=
  ∀ (s : State) (g : Gen) (c1 c2 : BitVec 5) (lo : BitVec 2), s.accessible → s.cfgF = true →
    ((Instr.lfsr g).wellFormed = true → CompletesRead (.lfsr g) 32 g s fun x s =>
      { s with fsr := x &&& 0x0001FFFF }) ∧
    ((Instr.sfsr g).wellFormed = true →
      CompletesStore (.sfsr g) 32 g s (s.fsr &&& 0x0001FFFF) s) ∧
    exec (.illegalFp0011 c1 c2 lo) s =
      trapped { s with fsr := (s.fsr &&& 0xFFFFFFF8) ||| 4 } 3 ∧
    exec (.illegalFp1001 c1 c2 lo) s =
      trapped { s with fsr := (s.fsr &&& 0xFFFFFFF8) ||| 4 } 3 ∧
    (∃ t, exec (.illegalFp0011 c1 c2 lo) s = .next t) ∧
    ∃ t, exec (.illegalFp1001 c1 c2 lo) s = .next t

/-! ## Exceptions -/

/-- Reset (R560, R561; log 49), EntryFault (R513; log 13), undefined encodings (R180, R504; D12, log 18), a
refused fetch (R505, R524; log 19), interrupts between string elements and while waiting (R352, R435,
R523, R530; logs 10, 16, 17, 23). -/
def Obligations.ResetWaitingAndUndefinedEncodings : Prop :=
  (∀ s : State, s.resetRequest = true → ∃ t, step s = .next t ∧ t.pc = 0 ∧ t.psr = 0 ∧
    t.fsr &&& 0x00010057 = 0 ∧ t.cfg &&& 0x000000F0 = 0x000000F0 ∧ t.waiting = false ∧
    t.entryFault = false ∧ t.nmiPending = false ∧ t.resetRequest = false ∧ t.mem = s.mem ∧
    t.intRequest = s.intRequest ∧ t.eoiEvents = s.eoiEvents ∧ t.xlate = s.xlate) ∧
  (∀ s : State, s.resetRequest = false → s.waiting = false → s.entryFault = true →
    step s = .fault .entryFault) ∧
  (∀ (s : State) (v : Nat) (ret : Word) (clearI : Bool) (image : BitVec 16),
    s.translate .read false (s.intbase + BitVec.ofNat 32 (4 * v)) = none ∨
      s.translate .write false (s.sp0 - 2) = none ∨ s.translate .write false (s.sp0 - 8) = none →
    takeException s v ret clearI image =
      .next { s with entryFault := true, waiting := false, boundary := .trapped }) ∧
  (∀ t : State, t.boundary = .done ∨ t.boundary = .element →
    (t.nmiPending = true → t.translate .read false 0xFFFFFF00 = none → settle (.next t) =
      .next { t with entryFault := true, waiting := false, boundary := .trapped }) ∧
    (t.nmiPending = false → t.intRequest = true → t.flagI = true →
      t.translate .read false 0xFFFFFE00 = none → settle (.next t) =
        .next { t with entryFault := true, waiting := false, boundary := .trapped })) ∧
  (∀ (s : State) (e : DecodeError), s.resetRequest = false → s.waiting = false →
    s.entryFault = false → decode (fetchBytes s maxLength s.pc).1 = .error e →
    (e ≠ .truncated → step s = trapped (s.setFlag 10 s.flagT) 10) ∧
    (e = .truncated → ∀ tr, opcodeStop (s.setFlag 10 s.flagT) (fetchBytes s maxLength s.pc).1 =
      some (.trap tr) → step s = trapped (s.setFlag 10 s.flagT) tr.vector) ∧
    (e = .truncated → opcodeStop (s.setFlag 10 s.flagT) (fetchBytes s maxLength s.pc).1 = none →
      ∀ va, (fetchBytes s maxLength s.pc).2 = some va → step s =
        takeException { s.setFlag 10 s.flagT with tear := va } 2 s.pc true
          ((s.setFlag 10 s.flagT).psr &&& 0xFBFF))) ∧
  (∀ (b : Byte) (bs : List Byte), ∃ e₁ e₂ e₃, decode (0xFA :: bs) = .error e₁ ∧ e₁ ≠ .truncated ∧
    decode (0x4E :: 0x10 :: b :: bs) = .error e₂ ∧ e₂ ≠ .truncated ∧
    decode (0xEA :: 0xE0 :: bs) = .error e₃ ∧ e₃ ≠ .truncated) ∧
  (∀ t : State, t.boundary = .element →
    (t.nmiPending = true → ∀ b, t.readByte .read false 0xFFFFFF00 = .ok b → settle (.next t) =
      takeException { t with nmiPending := false } 1 t.pc true (t.psr &&& 0xFBFF)) ∧
    (t.nmiPending = false → t.intRequest = true → t.flagI = true →
      ∀ b, t.readByte .read false 0xFFFFFE00 = .ok b → settle (.next t) =
        takeException t (if t.cfgI then b.toNat else 0) t.pc true (t.psr &&& 0xFBFF)) ∧
    (t.nmiPending = false → t.intRequest = false ∨ t.flagI = false → settle (.next t) = .next t)) ∧
  ∀ s : State, s.waiting = true → s.resetRequest = false →
    (s.nmiPending = true → ∀ b, s.readByte .read false 0xFFFFFF00 = .ok b →
      step s = takeException { s with nmiPending := false } 1 s.pc true s.psr) ∧
    (s.nmiPending = false → s.intRequest = true → s.flagI = true →
      ∀ b, s.readByte .read false 0xFFFFFE00 = .ok b →
      step s = takeException s (if s.cfgI then b.toNat else 0) s.pc true s.psr) ∧
    (s.nmiPending = false → s.intRequest = false ∨ s.flagI = false → step s = .next s)

/-- Entry and return (R510, R512, R398; logs 4, 11, 12; the mask 0x0FF7 is D10, log 6). -/
def Obligations.ExceptionAndReturnRestoreTheProgram : Prop :=
  ∀ (s t : State) (v : Nat) (ret : Word) (clearI : Bool) (image : BitVec 16), s.xlate = [] →
    s.mem.wf = true → s.cfgDE = true → takeException s v ret clearI image = .next t →
    ∃ u, exec (.rett (.d7 0)) t = .next u ∧ u.pc = ret ∧ u.psr = image &&& 0x0FF7 ∧
      u.regs = s.regs ∧ u.sp0 = s.sp0 ∧ u.sp1 = s.sp1 ∧ u.fp = s.fp ∧ u.sb = s.sb ∧ u.mod = s.mod ∧
      u.intbase = s.intbase ∧ u.cfg = s.cfg ∧ u.fd = s.fd ∧ u.fsr = s.fsr

/-- State on a trap (R511; D15; logs 13, 14). -/
def Obligations.TrappedInstructionLeavesNoTrace : Prop :=
  ∀ (i : Instr) (s t : State), exec i s = .next t → t.boundary = .trapped → s.flagV = false →
    t.entryFault = false → t.regs = s.regs ∧ t.fd = s.fd ∧ t.sp0 = s.sp0 - 8 ∧ t.sp1 = s.sp1 ∧ t.fp = s.fp ∧
    t.intbase = s.intbase ∧ t.cfg = s.cfg ∧ t.dcr = s.dcr ∧ t.dsr = s.dsr ∧ t.car = s.car ∧
    t.bpc = s.bpc ∧ t.ptb0 = s.ptb0 ∧ t.ptb1 = s.ptb1 ∧ t.mcr = s.mcr ∧ t.msr = s.msr ∧
    (t.psr = s.psr &&& 0xF8FD ∨ t.psr = s.psr &&& 0xF0FD) ∧
    ∀ pa, (¬ ∃ j q, j < 8 ∧ s.translate .write false (s.sp0 - 8 + BitVec.ofNat 32 j) = some q ∧
      pa = q.toNat) → t.mem.get pa = s.mem.get pa

/-- Trap(ILL) and Trap(UND) (R503, R504, R451; logs 10, 16, 20). -/
def Obligations.PrivilegeAndEnables : Prop :=
  ∀ (i : Instr) (s : State),
    (isPrivileged i → s.flagU = true → exec i s = trapped s 4) ∧
    (isFloat i → s.cfgF = false → exec i s = trapped s 10) ∧
    (needsMmu i → s.flagU = false → s.cfgM = false → exec i s = trapped s 10)

/-- Trap(DVZ) and Trap(OVF) (R202, R203, R506; logs 10, 15). Trap(DVZ) pushes an image with P clear and
Trap(OVF) PSR as it is: PRESUMED, log 16. -/
def Obligations.ArithmeticTraps : Prop :=
  ∀ (s : State) (a b : Gen),
    (∀ x s₁ l y s₂, readGen .int 8 s.sp a s = .ok (x, s₁) → rmwLoc .int s.sp b s₁ = .ok l →
      readAt 8 l s₁ = .ok (y, s₂) → x = 0 → exec (.divb a b) s = trapped s 6) ∧
    (∀ x s₁ l y s₂, readGen .int 16 s.sp a s = .ok (x, s₁) → rmwLoc .int s.sp b s₁ = .ok l →
      readAt 16 l s₁ = .ok (y, s₂) → x = 0 → exec (.divw a b) s = trapped s 6) ∧
    (∀ x s₁ l y s₂, readGen .int 32 s.sp a s = .ok (x, s₁) → rmwLoc .int s.sp b s₁ = .ok l →
      readAt 32 l s₁ = .ok (y, s₂) → x = 0 → exec (.divd a b) s = trapped s 6) ∧
    (∀ x s₁ l y s₂, readGen .int 8 s.sp a s = .ok (x, s₁) → rmwLoc .int s.sp b s₁ = .ok l →
      readAt 8 l s₁ = .ok (y, s₂) → x = 0 → exec (.modb a b) s = trapped s 6) ∧
    (∀ x s₁ l y s₂, readGen .int 16 s.sp a s = .ok (x, s₁) → rmwLoc .int s.sp b s₁ = .ok l →
      readAt 16 l s₁ = .ok (y, s₂) → x = 0 → exec (.modw a b) s = trapped s 6) ∧
    (∀ x s₁ l y s₂, readGen .int 32 s.sp a s = .ok (x, s₁) → rmwLoc .int s.sp b s₁ = .ok l →
      readAt 32 l s₁ = .ok (y, s₂) → x = 0 → exec (.modd a b) s = trapped s 6) ∧
    (∀ x s₁ l y s₂, readGen .int 8 s.sp a s = .ok (x, s₁) → rmwLoc .int s.sp b s₁ = .ok l →
      readAt 8 l s₁ = .ok (y, s₂) → x = 0 → exec (.quob a b) s = trapped s 6) ∧
    (∀ x s₁ l y s₂, readGen .int 16 s.sp a s = .ok (x, s₁) → rmwLoc .int s.sp b s₁ = .ok l →
      readAt 16 l s₁ = .ok (y, s₂) → x = 0 → exec (.quow a b) s = trapped s 6) ∧
    (∀ x s₁ l y s₂, readGen .int 32 s.sp a s = .ok (x, s₁) → rmwLoc .int s.sp b s₁ = .ok l →
      readAt 32 l s₁ = .ok (y, s₂) → x = 0 → exec (.quod a b) s = trapped s 6) ∧
    (∀ x s₁ l y s₂, readGen .int 8 s.sp a s = .ok (x, s₁) → rmwLoc .int s.sp b s₁ = .ok l →
      readAt 8 l s₁ = .ok (y, s₂) → x = 0 → exec (.remb a b) s = trapped s 6) ∧
    (∀ x s₁ l y s₂, readGen .int 16 s.sp a s = .ok (x, s₁) → rmwLoc .int s.sp b s₁ = .ok l →
      readAt 16 l s₁ = .ok (y, s₂) → x = 0 → exec (.remw a b) s = trapped s 6) ∧
    (∀ x s₁ l y s₂, readGen .int 32 s.sp a s = .ok (x, s₁) → rmwLoc .int s.sp b s₁ = .ok l →
      readAt 32 l s₁ = .ok (y, s₂) → x = 0 → exec (.remd a b) s = trapped s 6) ∧
    (∀ x s₁ l y s₂, readGen .int 8 s.sp a s = .ok (x, s₁) → rmwLoc .pair s.sp b s₁ = .ok l →
      readAt 16 l s₁ = .ok (y, s₂) → x = 0 → exec (.deib a b) s = trapped s 6) ∧
    (∀ x s₁ l y s₂, readGen .int 16 s.sp a s = .ok (x, s₁) → rmwLoc .pair s.sp b s₁ = .ok l →
      readAt 32 l s₁ = .ok (y, s₂) → x = 0 → exec (.deiw a b) s = trapped s 6) ∧
    (∀ x s₁ l y s₂, readGen .int 32 s.sp a s = .ok (x, s₁) → rmwLoc .pair s.sp b s₁ = .ok l →
      readAt 64 l s₁ = .ok (y, s₂) → x = 0 → exec (.deid a b) s = trapped s 6) ∧
    (∀ x s₁ l y s₂ t, readGen .int 8 s.sp a s = .ok (x, s₁) → rmwLoc .int s.sp b s₁ = .ok l →
      readAt 8 l s₁ = .ok (y, s₂) → s₂.flagV = true → outOfRange 8 (y.toInt + x.toInt) = true →
      writeAt l (y + x) ((s₂.setC (decide (2 ^ 8 ≤ x.toNat + y.toNat))).setF true) = .ok t →
      exec (.addb a b) s = takeException (t.advance (Instr.addb a b).length) 13
        (t.pc + BitVec.ofNat 32 (Instr.addb a b).length) false t.psr) ∧
    (∀ x s₁ l y s₂ t, readGen .int 16 s.sp a s = .ok (x, s₁) → rmwLoc .int s.sp b s₁ = .ok l →
      readAt 16 l s₁ = .ok (y, s₂) → s₂.flagV = true → outOfRange 16 (y.toInt + x.toInt) = true →
      writeAt l (y + x) ((s₂.setC (decide (2 ^ 16 ≤ x.toNat + y.toNat))).setF true) = .ok t →
      exec (.addw a b) s = takeException (t.advance (Instr.addw a b).length) 13
        (t.pc + BitVec.ofNat 32 (Instr.addw a b).length) false t.psr) ∧
    (∀ x s₁ l y s₂ t, readGen .int 32 s.sp a s = .ok (x, s₁) → rmwLoc .int s.sp b s₁ = .ok l →
      readAt 32 l s₁ = .ok (y, s₂) → s₂.flagV = true → outOfRange 32 (y.toInt + x.toInt) = true →
      writeAt l (y + x) ((s₂.setC (decide (2 ^ 32 ≤ x.toNat + y.toNat))).setF true) = .ok t →
      exec (.addd a b) s = takeException (t.advance (Instr.addd a b).length) 13
        (t.pc + BitVec.ofNat 32 (Instr.addd a b).length) false t.psr) ∧
    (∀ x s₁ l y s₂ t, readGen .int 8 s.sp a s = .ok (x, s₁) → rmwLoc .int s.sp b s₁ = .ok l →
      readAt 8 l s₁ = .ok (y, s₂) → s₂.flagV = true → outOfRange 8 (y.toInt - x.toInt) = true →
      writeAt l (y - x) ((s₂.setC (decide (y.toNat < x.toNat))).setF true) = .ok t →
      exec (.subb a b) s = takeException (t.advance (Instr.subb a b).length) 13
        (t.pc + BitVec.ofNat 32 (Instr.subb a b).length) false t.psr) ∧
    (∀ x s₁ l y s₂ t, readGen .int 16 s.sp a s = .ok (x, s₁) → rmwLoc .int s.sp b s₁ = .ok l →
      readAt 16 l s₁ = .ok (y, s₂) → s₂.flagV = true → outOfRange 16 (y.toInt - x.toInt) = true →
      writeAt l (y - x) ((s₂.setC (decide (y.toNat < x.toNat))).setF true) = .ok t →
      exec (.subw a b) s = takeException (t.advance (Instr.subw a b).length) 13
        (t.pc + BitVec.ofNat 32 (Instr.subw a b).length) false t.psr) ∧
    (∀ x s₁ l y s₂ t, readGen .int 32 s.sp a s = .ok (x, s₁) → rmwLoc .int s.sp b s₁ = .ok l →
      readAt 32 l s₁ = .ok (y, s₂) → s₂.flagV = true → outOfRange 32 (y.toInt - x.toInt) = true →
      writeAt l (y - x) ((s₂.setC (decide (y.toNat < x.toNat))).setF true) = .ok t →
      exec (.subd a b) s = takeException (t.advance (Instr.subd a b).length) 13
        (t.pc + BitVec.ofNat 32 (Instr.subd a b).length) false t.psr)

/-- Trap(FPU) (R253, R258, R264, R506; log 16). -/
def Obligations.FloatTraps : Prop :=
  ∀ (s : State) (a b : Gen), s.cfgF = true →
    (∀ x s₁ l y s₂, readGen .float 32 s.sp a s = .ok (x, s₁) → rmwLoc .float s.sp b s₁ = .ok l →
      readAt 32 l s₁ = .ok (y, s₂) → (fpReserved x || fpReserved y) = true →
      exec (.addf a b) s = trapped { s with fsr := (s.fsr &&& 0xFFFFFFF8) ||| 5 } 3) ∧
    (∀ x s₁ l y s₂, readGen .float 64 s.sp a s = .ok (x, s₁) → rmwLoc .float s.sp b s₁ = .ok l →
      readAt 64 l s₁ = .ok (y, s₂) → (fpReserved x || fpReserved y) = true →
      exec (.addl a b) s = trapped { s with fsr := (s.fsr &&& 0xFFFFFFF8) ||| 5 } 3) ∧
    (∀ x s₁ l y s₂, readGen .float 32 s.sp a s = .ok (x, s₁) → rmwLoc .float s.sp b s₁ = .ok l →
      readAt 32 l s₁ = .ok (y, s₂) → (fpReserved x || fpReserved y) = true →
      exec (.subf a b) s = trapped { s with fsr := (s.fsr &&& 0xFFFFFFF8) ||| 5 } 3) ∧
    (∀ x s₁ l y s₂, readGen .float 64 s.sp a s = .ok (x, s₁) → rmwLoc .float s.sp b s₁ = .ok l →
      readAt 64 l s₁ = .ok (y, s₂) → (fpReserved x || fpReserved y) = true →
      exec (.subl a b) s = trapped { s with fsr := (s.fsr &&& 0xFFFFFFF8) ||| 5 } 3) ∧
    (∀ x s₁ l y s₂, readGen .float 32 s.sp a s = .ok (x, s₁) → rmwLoc .float s.sp b s₁ = .ok l →
      readAt 32 l s₁ = .ok (y, s₂) → (fpReserved x || fpReserved y) = true →
      exec (.mulf a b) s = trapped { s with fsr := (s.fsr &&& 0xFFFFFFF8) ||| 5 } 3) ∧
    (∀ x s₁ l y s₂, readGen .float 64 s.sp a s = .ok (x, s₁) → rmwLoc .float s.sp b s₁ = .ok l →
      readAt 64 l s₁ = .ok (y, s₂) → (fpReserved x || fpReserved y) = true →
      exec (.mull a b) s = trapped { s with fsr := (s.fsr &&& 0xFFFFFFF8) ||| 5 } 3) ∧
    (∀ x s₁ l y s₂, readGen .float 32 s.sp a s = .ok (x, s₁) → rmwLoc .float s.sp b s₁ = .ok l →
      readAt 32 l s₁ = .ok (y, s₂) → (fpReserved x || fpReserved y) = true →
      exec (.divf a b) s = trapped { s with fsr := (s.fsr &&& 0xFFFFFFF8) ||| 5 } 3) ∧
    (∀ x s₁ l y s₂, readGen .float 64 s.sp a s = .ok (x, s₁) → rmwLoc .float s.sp b s₁ = .ok l →
      readAt 64 l s₁ = .ok (y, s₂) → (fpReserved x || fpReserved y) = true →
      exec (.divl a b) s = trapped { s with fsr := (s.fsr &&& 0xFFFFFFF8) ||| 5 } 3) ∧
    (∀ x s₁ l y s₂, readGen .float 32 s.sp a s = .ok (x, s₁) → rmwLoc .float s.sp b s₁ = .ok l →
      readAt 32 l s₁ = .ok (y, s₂) → (fpReserved x || fpReserved y) = true →
      exec (.scalbf a b) s = trapped { s with fsr := (s.fsr &&& 0xFFFFFFF8) ||| 5 } 3) ∧
    (∀ x s₁ l y s₂, readGen .float 64 s.sp a s = .ok (x, s₁) → rmwLoc .float s.sp b s₁ = .ok l →
      readAt 64 l s₁ = .ok (y, s₂) → (fpReserved x || fpReserved y) = true →
      exec (.scalbl a b) s = trapped { s with fsr := (s.fsr &&& 0xFFFFFFF8) ||| 5 } 3) ∧
    (∀ x s₁ l y s₂, readGen .float 32 s.sp a s = .ok (x, s₁) → rmwLoc .float s.sp b s₁ = .ok l →
      readAt 32 l s₁ = .ok (y, s₂) → fpReserved y = false → fpIsZero x = true →
      exec (.divf a b) s = trapped { s with fsr := (s.fsr &&& 0xFFFFFFF8) |||
        (if fpIsZero y then 5 else 3) } 3) ∧
    (∀ x s₁ l y s₂, readGen .float 64 s.sp a s = .ok (x, s₁) → rmwLoc .float s.sp b s₁ = .ok l →
      readAt 64 l s₁ = .ok (y, s₂) → fpReserved y = false → fpIsZero x = true →
      exec (.divl a b) s = trapped { s with fsr := (s.fsr &&& 0xFFFFFFF8) |||
        (if fpIsZero y then 5 else 3) } 3)

/-- Trap(ABT) (R505, R511; logs 8, 10, 14, 16). -/
def Obligations.RefusedAccessAborts : Prop :=
  (∀ (s : State) (k : Access) (u : Bool) (va bad : Word) (w : Nat) (x : BitVec w),
    (s.read w va k u = .error (.abort bad) ↔ s.refuses k u va (w / 8) bad) ∧
    (s.write va x k u = .error (.abort bad) ↔ s.refuses k u va (w / 8) bad)) ∧
  (∀ (f : File) (s : State) (spi ea bad : Word) (m : Mode) (sc : Size) (rx : Reg) (k : Access) (w : Nat)
      (x : BitVec w),
    ((∀ n, m ≠ .reg n) → m ≠ .tos → (∀ v, m ≠ .imm v) → modeAddr spi s m = .ok ea →
      s.refuses .read s.flagU ea (w / 8) bad → readGen f w spi (.plain m) s = .error (.abort bad)) ∧
    (modeAddr spi s m = .ok ea →
      s.refuses .read s.flagU (ea + s.reg rx * BitVec.ofNat 32 sc.bytes) (w / 8) bad →
      readGen f w spi (.indexed sc m rx) s = .error (.abort bad)) ∧
    (s.refuses .read s.flagU s.sp (w / 8) bad → readGen f w spi (.plain .tos) s = .error (.abort bad)) ∧
    (s.refuses k s.flagU ea (w / 8) bad → readAt w (.mem ea k) s = .error (.abort bad) ∧
      writeAt (.mem ea k) x s = .error (.abort bad)) ∧
    (s.refuses .write s.flagU (s.sp - BitVec.ofNat 32 (w / 8)) (w / 8) bad →
      writeAt .push x s = .error (.abort bad))) ∧
  (∀ (s : State) (spi bad lb : Word) (d₁ d₂ : Disp),
    (s.refuses .read s.flagU (s.fp + dispValue d₁) 4 bad →
      modeAddr spi s (.frameRel d₁ d₂) = .error (.abort bad)) ∧
    (s.refuses .read s.flagU (spi + dispValue d₁) 4 bad →
      modeAddr spi s (.stackRel d₁ d₂) = .error (.abort bad)) ∧
    (s.refuses .read s.flagU (s.sb + dispValue d₁) 4 bad →
      modeAddr spi s (.staticRel d₁ d₂) = .error (.abort bad)) ∧
    (s.refuses .read s.flagU (s.mod.setWidth 32 + 4) 4 bad →
      modeAddr spi s (.ext d₁ d₂) = .error (.abort bad)) ∧
    (s.read 32 (s.mod.setWidth 32 + 4) = .ok lb → s.refuses .read s.flagU (lb + 4 * dispValue d₁) 4 bad →
      modeAddr spi s (.ext d₁ d₂) = .error (.abort bad))) ∧
  ∀ (s : State) (a b : Gen) (bad x : Word) (s₁ : State) (l : Loc),
    (readGen .int 32 s.sp a s = .error (.abort bad) →
      exec (.movd a b) s = takeException { s with tear := bad } 2 s.pc true (s.psr &&& 0xFBFF) ∧
      exec (.addd a b) s = takeException { s with tear := bad } 2 s.pc true (s.psr &&& 0xFBFF) ∧
      exec (.cmpd a b) s = takeException { s with tear := bad } 2 s.pc true (s.psr &&& 0xFBFF)) ∧
    (readGen .int 32 s.sp a s = .ok (x, s₁) → writeLoc .int s.sp b s₁ = .ok l →
      writeAt l x s₁ = .error (.abort bad) →
      exec (.movd a b) s = takeException { s with tear := bad } 2 s.pc true (s.psr &&& 0xFBFF)) ∧
    (readGen .int 32 s.sp a s = .ok (x, s₁) → rmwLoc .int s.sp b s₁ = .ok l →
      readAt 32 l s₁ = .error (.abort bad) →
      exec (.addd a b) s = takeException { s with tear := bad } 2 s.pc true (s.psr &&& 0xFBFF))
end

