-- ==== Sys2Proof/Laws/State.lean ====
section
/-! SUPPORT. What each update of the state does to each field: one lemma per field per update. -/

namespace Sys2Proof.Machine

/-! ## setReg -/

@[simp] theorem setReg_regs (s : State) (r : Reg) (v : Word) : (s.setReg r v).regs = s.regs.set r v := rfl
@[simp] theorem setReg_pc (s : State) (r : Reg) (v : Word) : (s.setReg r v).pc = s.pc := rfl
@[simp] theorem setReg_sp0 (s : State) (r : Reg) (v : Word) : (s.setReg r v).sp0 = s.sp0 := rfl
@[simp] theorem setReg_sp1 (s : State) (r : Reg) (v : Word) : (s.setReg r v).sp1 = s.sp1 := rfl
@[simp] theorem setReg_fp (s : State) (r : Reg) (v : Word) : (s.setReg r v).fp = s.fp := rfl
@[simp] theorem setReg_sb (s : State) (r : Reg) (v : Word) : (s.setReg r v).sb = s.sb := rfl
@[simp] theorem setReg_intbase (s : State) (r : Reg) (v : Word) : (s.setReg r v).intbase = s.intbase := rfl
@[simp] theorem setReg_mod (s : State) (r : Reg) (v : Word) : (s.setReg r v).mod = s.mod := rfl
@[simp] theorem setReg_psr (s : State) (r : Reg) (v : Word) : (s.setReg r v).psr = s.psr := rfl
@[simp] theorem setReg_cfg (s : State) (r : Reg) (v : Word) : (s.setReg r v).cfg = s.cfg := rfl
@[simp] theorem setReg_fd (s : State) (r : Reg) (v : Word) : (s.setReg r v).fd = s.fd := rfl
@[simp] theorem setReg_fsr (s : State) (r : Reg) (v : Word) : (s.setReg r v).fsr = s.fsr := rfl
@[simp] theorem setReg_ptb0 (s : State) (r : Reg) (v : Word) : (s.setReg r v).ptb0 = s.ptb0 := rfl
@[simp] theorem setReg_ptb1 (s : State) (r : Reg) (v : Word) : (s.setReg r v).ptb1 = s.ptb1 := rfl
@[simp] theorem setReg_tear (s : State) (r : Reg) (v : Word) : (s.setReg r v).tear = s.tear := rfl
@[simp] theorem setReg_mcr (s : State) (r : Reg) (v : Word) : (s.setReg r v).mcr = s.mcr := rfl
@[simp] theorem setReg_msr (s : State) (r : Reg) (v : Word) : (s.setReg r v).msr = s.msr := rfl
@[simp] theorem setReg_dcr (s : State) (r : Reg) (v : Word) : (s.setReg r v).dcr = s.dcr := rfl
@[simp] theorem setReg_dsr (s : State) (r : Reg) (v : Word) : (s.setReg r v).dsr = s.dsr := rfl
@[simp] theorem setReg_car (s : State) (r : Reg) (v : Word) : (s.setReg r v).car = s.car := rfl
@[simp] theorem setReg_bpc (s : State) (r : Reg) (v : Word) : (s.setReg r v).bpc = s.bpc := rfl
@[simp] theorem setReg_mem (s : State) (r : Reg) (v : Word) : (s.setReg r v).mem = s.mem := rfl
@[simp] theorem setReg_waiting (s : State) (r : Reg) (v : Word) : (s.setReg r v).waiting = s.waiting := rfl
@[simp] theorem setReg_entryFault (s : State) (r : Reg) (v : Word) : (s.setReg r v).entryFault = s.entryFault := rfl
@[simp] theorem setReg_nmiPending (s : State) (r : Reg) (v : Word) : (s.setReg r v).nmiPending = s.nmiPending := rfl
@[simp] theorem setReg_intRequest (s : State) (r : Reg) (v : Word) : (s.setReg r v).intRequest = s.intRequest := rfl
@[simp] theorem setReg_resetRequest (s : State) (r : Reg) (v : Word) : (s.setReg r v).resetRequest = s.resetRequest := rfl
@[simp] theorem setReg_eoiEvents (s : State) (r : Reg) (v : Word) : (s.setReg r v).eoiEvents = s.eoiEvents := rfl
@[simp] theorem setReg_xlate (s : State) (r : Reg) (v : Word) : (s.setReg r v).xlate = s.xlate := rfl
@[simp] theorem setReg_freeCount (s : State) (r : Reg) (v : Word) : (s.setReg r v).freeCount = s.freeCount := rfl
@[simp] theorem setReg_boundary (s : State) (r : Reg) (v : Word) : (s.setReg r v).boundary = s.boundary := rfl

/-! ## setRegLow -/

@[simp] theorem setRegLow_regs {w : Nat} (s : State) (r : Reg) (v : BitVec w) :
    (s.setRegLow r v).regs = s.regs.set r (lowPart (s.reg r) v) := rfl
@[simp] theorem setRegLow_pc {w : Nat} (s : State) (r : Reg) (v : BitVec w) : (s.setRegLow r v).pc = s.pc := rfl
@[simp] theorem setRegLow_sp0 {w : Nat} (s : State) (r : Reg) (v : BitVec w) :
    (s.setRegLow r v).sp0 = s.sp0 := rfl
@[simp] theorem setRegLow_sp1 {w : Nat} (s : State) (r : Reg) (v : BitVec w) :
    (s.setRegLow r v).sp1 = s.sp1 := rfl
@[simp] theorem setRegLow_fp {w : Nat} (s : State) (r : Reg) (v : BitVec w) : (s.setRegLow r v).fp = s.fp := rfl
@[simp] theorem setRegLow_sb {w : Nat} (s : State) (r : Reg) (v : BitVec w) : (s.setRegLow r v).sb = s.sb := rfl
@[simp] theorem setRegLow_intbase {w : Nat} (s : State) (r : Reg) (v : BitVec w) :
    (s.setRegLow r v).intbase = s.intbase := rfl
@[simp] theorem setRegLow_mod {w : Nat} (s : State) (r : Reg) (v : BitVec w) :
    (s.setRegLow r v).mod = s.mod := rfl
@[simp] theorem setRegLow_psr {w : Nat} (s : State) (r : Reg) (v : BitVec w) :
    (s.setRegLow r v).psr = s.psr := rfl
@[simp] theorem setRegLow_cfg {w : Nat} (s : State) (r : Reg) (v : BitVec w) :
    (s.setRegLow r v).cfg = s.cfg := rfl
@[simp] theorem setRegLow_fd {w : Nat} (s : State) (r : Reg) (v : BitVec w) : (s.setRegLow r v).fd = s.fd := rfl
@[simp] theorem setRegLow_fsr {w : Nat} (s : State) (r : Reg) (v : BitVec w) :
    (s.setRegLow r v).fsr = s.fsr := rfl
@[simp] theorem setRegLow_ptb0 {w : Nat} (s : State) (r : Reg) (v : BitVec w) :
    (s.setRegLow r v).ptb0 = s.ptb0 := rfl
@[simp] theorem setRegLow_ptb1 {w : Nat} (s : State) (r : Reg) (v : BitVec w) :
    (s.setRegLow r v).ptb1 = s.ptb1 := rfl
@[simp] theorem setRegLow_tear {w : Nat} (s : State) (r : Reg) (v : BitVec w) :
    (s.setRegLow r v).tear = s.tear := rfl
@[simp] theorem setRegLow_mcr {w : Nat} (s : State) (r : Reg) (v : BitVec w) :
    (s.setRegLow r v).mcr = s.mcr := rfl
@[simp] theorem setRegLow_msr {w : Nat} (s : State) (r : Reg) (v : BitVec w) :
    (s.setRegLow r v).msr = s.msr := rfl
@[simp] theorem setRegLow_dcr {w : Nat} (s : State) (r : Reg) (v : BitVec w) :
    (s.setRegLow r v).dcr = s.dcr := rfl
@[simp] theorem setRegLow_dsr {w : Nat} (s : State) (r : Reg) (v : BitVec w) :
    (s.setRegLow r v).dsr = s.dsr := rfl
@[simp] theorem setRegLow_car {w : Nat} (s : State) (r : Reg) (v : BitVec w) :
    (s.setRegLow r v).car = s.car := rfl
@[simp] theorem setRegLow_bpc {w : Nat} (s : State) (r : Reg) (v : BitVec w) :
    (s.setRegLow r v).bpc = s.bpc := rfl
@[simp] theorem setRegLow_mem {w : Nat} (s : State) (r : Reg) (v : BitVec w) :
    (s.setRegLow r v).mem = s.mem := rfl
@[simp] theorem setRegLow_waiting {w : Nat} (s : State) (r : Reg) (v : BitVec w) :
    (s.setRegLow r v).waiting = s.waiting := rfl
@[simp] theorem setRegLow_entryFault {w : Nat} (s : State) (r : Reg) (v : BitVec w) :
    (s.setRegLow r v).entryFault = s.entryFault := rfl
@[simp] theorem setRegLow_nmiPending {w : Nat} (s : State) (r : Reg) (v : BitVec w) :
    (s.setRegLow r v).nmiPending = s.nmiPending := rfl
@[simp] theorem setRegLow_intRequest {w : Nat} (s : State) (r : Reg) (v : BitVec w) :
    (s.setRegLow r v).intRequest = s.intRequest := rfl
@[simp] theorem setRegLow_resetRequest {w : Nat} (s : State) (r : Reg) (v : BitVec w) :
    (s.setRegLow r v).resetRequest = s.resetRequest := rfl
@[simp] theorem setRegLow_eoiEvents {w : Nat} (s : State) (r : Reg) (v : BitVec w) :
    (s.setRegLow r v).eoiEvents = s.eoiEvents := rfl
@[simp] theorem setRegLow_xlate {w : Nat} (s : State) (r : Reg) (v : BitVec w) :
    (s.setRegLow r v).xlate = s.xlate := rfl
@[simp] theorem setRegLow_freeCount {w : Nat} (s : State) (r : Reg) (v : BitVec w) :
    (s.setRegLow r v).freeCount = s.freeCount := rfl
@[simp] theorem setRegLow_boundary {w : Nat} (s : State) (r : Reg) (v : BitVec w) :
    (s.setRegLow r v).boundary = s.boundary := rfl

/-! ## setSp -/

@[simp] theorem setSp_regs (s : State) (v : Word) : (s.setSp v).regs = s.regs := by unfold State.setSp; split <;> rfl
@[simp] theorem setSp_pc (s : State) (v : Word) : (s.setSp v).pc = s.pc := by unfold State.setSp; split <;> rfl
@[simp] theorem setSp_sp0 (s : State) (v : Word) : (s.setSp v).sp0 = if s.flagS then s.sp0 else v := by unfold State.setSp; split <;> rfl
@[simp] theorem setSp_sp1 (s : State) (v : Word) : (s.setSp v).sp1 = if s.flagS then v else s.sp1 := by unfold State.setSp; split <;> rfl
@[simp] theorem setSp_fp (s : State) (v : Word) : (s.setSp v).fp = s.fp := by unfold State.setSp; split <;> rfl
@[simp] theorem setSp_sb (s : State) (v : Word) : (s.setSp v).sb = s.sb := by unfold State.setSp; split <;> rfl
@[simp] theorem setSp_intbase (s : State) (v : Word) : (s.setSp v).intbase = s.intbase := by unfold State.setSp; split <;> rfl
@[simp] theorem setSp_mod (s : State) (v : Word) : (s.setSp v).mod = s.mod := by unfold State.setSp; split <;> rfl
@[simp] theorem setSp_psr (s : State) (v : Word) : (s.setSp v).psr = s.psr := by unfold State.setSp; split <;> rfl
@[simp] theorem setSp_cfg (s : State) (v : Word) : (s.setSp v).cfg = s.cfg := by unfold State.setSp; split <;> rfl
@[simp] theorem setSp_fd (s : State) (v : Word) : (s.setSp v).fd = s.fd := by unfold State.setSp; split <;> rfl
@[simp] theorem setSp_fsr (s : State) (v : Word) : (s.setSp v).fsr = s.fsr := by unfold State.setSp; split <;> rfl
@[simp] theorem setSp_ptb0 (s : State) (v : Word) : (s.setSp v).ptb0 = s.ptb0 := by unfold State.setSp; split <;> rfl
@[simp] theorem setSp_ptb1 (s : State) (v : Word) : (s.setSp v).ptb1 = s.ptb1 := by unfold State.setSp; split <;> rfl
@[simp] theorem setSp_tear (s : State) (v : Word) : (s.setSp v).tear = s.tear := by unfold State.setSp; split <;> rfl
@[simp] theorem setSp_mcr (s : State) (v : Word) : (s.setSp v).mcr = s.mcr := by unfold State.setSp; split <;> rfl
@[simp] theorem setSp_msr (s : State) (v : Word) : (s.setSp v).msr = s.msr := by unfold State.setSp; split <;> rfl
@[simp] theorem setSp_dcr (s : State) (v : Word) : (s.setSp v).dcr = s.dcr := by unfold State.setSp; split <;> rfl
@[simp] theorem setSp_dsr (s : State) (v : Word) : (s.setSp v).dsr = s.dsr := by unfold State.setSp; split <;> rfl
@[simp] theorem setSp_car (s : State) (v : Word) : (s.setSp v).car = s.car := by unfold State.setSp; split <;> rfl
@[simp] theorem setSp_bpc (s : State) (v : Word) : (s.setSp v).bpc = s.bpc := by unfold State.setSp; split <;> rfl
@[simp] theorem setSp_mem (s : State) (v : Word) : (s.setSp v).mem = s.mem := by unfold State.setSp; split <;> rfl
@[simp] theorem setSp_waiting (s : State) (v : Word) : (s.setSp v).waiting = s.waiting := by unfold State.setSp; split <;> rfl
@[simp] theorem setSp_entryFault (s : State) (v : Word) : (s.setSp v).entryFault = s.entryFault := by unfold State.setSp; split <;> rfl
@[simp] theorem setSp_nmiPending (s : State) (v : Word) : (s.setSp v).nmiPending = s.nmiPending := by unfold State.setSp; split <;> rfl
@[simp] theorem setSp_intRequest (s : State) (v : Word) : (s.setSp v).intRequest = s.intRequest := by unfold State.setSp; split <;> rfl
@[simp] theorem setSp_resetRequest (s : State) (v : Word) : (s.setSp v).resetRequest = s.resetRequest := by unfold State.setSp; split <;> rfl
@[simp] theorem setSp_eoiEvents (s : State) (v : Word) : (s.setSp v).eoiEvents = s.eoiEvents := by unfold State.setSp; split <;> rfl
@[simp] theorem setSp_xlate (s : State) (v : Word) : (s.setSp v).xlate = s.xlate := by unfold State.setSp; split <;> rfl
@[simp] theorem setSp_freeCount (s : State) (v : Word) : (s.setSp v).freeCount = s.freeCount := by unfold State.setSp; split <;> rfl
@[simp] theorem setSp_boundary (s : State) (v : Word) : (s.setSp v).boundary = s.boundary := by unfold State.setSp; split <;> rfl

/-! ## setPsr -/

@[simp] theorem setPsr_regs (s : State) (v : BitVec 16) : (s.setPsr v).regs = s.regs := rfl
@[simp] theorem setPsr_pc (s : State) (v : BitVec 16) : (s.setPsr v).pc = s.pc := rfl
@[simp] theorem setPsr_sp0 (s : State) (v : BitVec 16) : (s.setPsr v).sp0 = s.sp0 := rfl
@[simp] theorem setPsr_sp1 (s : State) (v : BitVec 16) : (s.setPsr v).sp1 = s.sp1 := rfl
@[simp] theorem setPsr_fp (s : State) (v : BitVec 16) : (s.setPsr v).fp = s.fp := rfl
@[simp] theorem setPsr_sb (s : State) (v : BitVec 16) : (s.setPsr v).sb = s.sb := rfl
@[simp] theorem setPsr_intbase (s : State) (v : BitVec 16) : (s.setPsr v).intbase = s.intbase := rfl
@[simp] theorem setPsr_mod (s : State) (v : BitVec 16) : (s.setPsr v).mod = s.mod := rfl
@[simp] theorem setPsr_psr (s : State) (v : BitVec 16) : (s.setPsr v).psr = v &&& psrMask := rfl
@[simp] theorem setPsr_cfg (s : State) (v : BitVec 16) : (s.setPsr v).cfg = s.cfg := rfl
@[simp] theorem setPsr_fd (s : State) (v : BitVec 16) : (s.setPsr v).fd = s.fd := rfl
@[simp] theorem setPsr_fsr (s : State) (v : BitVec 16) : (s.setPsr v).fsr = s.fsr := rfl
@[simp] theorem setPsr_ptb0 (s : State) (v : BitVec 16) : (s.setPsr v).ptb0 = s.ptb0 := rfl
@[simp] theorem setPsr_ptb1 (s : State) (v : BitVec 16) : (s.setPsr v).ptb1 = s.ptb1 := rfl
@[simp] theorem setPsr_tear (s : State) (v : BitVec 16) : (s.setPsr v).tear = s.tear := rfl
@[simp] theorem setPsr_mcr (s : State) (v : BitVec 16) : (s.setPsr v).mcr = s.mcr := rfl
@[simp] theorem setPsr_msr (s : State) (v : BitVec 16) : (s.setPsr v).msr = s.msr := rfl
@[simp] theorem setPsr_dcr (s : State) (v : BitVec 16) : (s.setPsr v).dcr = s.dcr := rfl
@[simp] theorem setPsr_dsr (s : State) (v : BitVec 16) : (s.setPsr v).dsr = s.dsr := rfl
@[simp] theorem setPsr_car (s : State) (v : BitVec 16) : (s.setPsr v).car = s.car := rfl
@[simp] theorem setPsr_bpc (s : State) (v : BitVec 16) : (s.setPsr v).bpc = s.bpc := rfl
@[simp] theorem setPsr_mem (s : State) (v : BitVec 16) : (s.setPsr v).mem = s.mem := rfl
@[simp] theorem setPsr_waiting (s : State) (v : BitVec 16) : (s.setPsr v).waiting = s.waiting := rfl
@[simp] theorem setPsr_entryFault (s : State) (v : BitVec 16) : (s.setPsr v).entryFault = s.entryFault := rfl
@[simp] theorem setPsr_nmiPending (s : State) (v : BitVec 16) : (s.setPsr v).nmiPending = s.nmiPending := rfl
@[simp] theorem setPsr_intRequest (s : State) (v : BitVec 16) : (s.setPsr v).intRequest = s.intRequest := rfl
@[simp] theorem setPsr_resetRequest (s : State) (v : BitVec 16) : (s.setPsr v).resetRequest = s.resetRequest := rfl
@[simp] theorem setPsr_eoiEvents (s : State) (v : BitVec 16) : (s.setPsr v).eoiEvents = s.eoiEvents := rfl
@[simp] theorem setPsr_xlate (s : State) (v : BitVec 16) : (s.setPsr v).xlate = s.xlate := rfl
@[simp] theorem setPsr_freeCount (s : State) (v : BitVec 16) : (s.setPsr v).freeCount = s.freeCount := rfl
@[simp] theorem setPsr_boundary (s : State) (v : BitVec 16) : (s.setPsr v).boundary = s.boundary := rfl

/-! ## setUpsr -/

@[simp] theorem setUpsr_regs (s : State) (v : BitVec 8) : (s.setUpsr v).regs = s.regs := rfl
@[simp] theorem setUpsr_pc (s : State) (v : BitVec 8) : (s.setUpsr v).pc = s.pc := rfl
@[simp] theorem setUpsr_sp0 (s : State) (v : BitVec 8) : (s.setUpsr v).sp0 = s.sp0 := rfl
@[simp] theorem setUpsr_sp1 (s : State) (v : BitVec 8) : (s.setUpsr v).sp1 = s.sp1 := rfl
@[simp] theorem setUpsr_fp (s : State) (v : BitVec 8) : (s.setUpsr v).fp = s.fp := rfl
@[simp] theorem setUpsr_sb (s : State) (v : BitVec 8) : (s.setUpsr v).sb = s.sb := rfl
@[simp] theorem setUpsr_intbase (s : State) (v : BitVec 8) : (s.setUpsr v).intbase = s.intbase := rfl
@[simp] theorem setUpsr_mod (s : State) (v : BitVec 8) : (s.setUpsr v).mod = s.mod := rfl
@[simp] theorem setUpsr_psr (s : State) (v : BitVec 8) :
    (s.setUpsr v).psr = ((s.psr &&& 0xFF00) ||| v.setWidth 16) &&& psrMask := rfl
@[simp] theorem setUpsr_cfg (s : State) (v : BitVec 8) : (s.setUpsr v).cfg = s.cfg := rfl
@[simp] theorem setUpsr_fd (s : State) (v : BitVec 8) : (s.setUpsr v).fd = s.fd := rfl
@[simp] theorem setUpsr_fsr (s : State) (v : BitVec 8) : (s.setUpsr v).fsr = s.fsr := rfl
@[simp] theorem setUpsr_ptb0 (s : State) (v : BitVec 8) : (s.setUpsr v).ptb0 = s.ptb0 := rfl
@[simp] theorem setUpsr_ptb1 (s : State) (v : BitVec 8) : (s.setUpsr v).ptb1 = s.ptb1 := rfl
@[simp] theorem setUpsr_tear (s : State) (v : BitVec 8) : (s.setUpsr v).tear = s.tear := rfl
@[simp] theorem setUpsr_mcr (s : State) (v : BitVec 8) : (s.setUpsr v).mcr = s.mcr := rfl
@[simp] theorem setUpsr_msr (s : State) (v : BitVec 8) : (s.setUpsr v).msr = s.msr := rfl
@[simp] theorem setUpsr_dcr (s : State) (v : BitVec 8) : (s.setUpsr v).dcr = s.dcr := rfl
@[simp] theorem setUpsr_dsr (s : State) (v : BitVec 8) : (s.setUpsr v).dsr = s.dsr := rfl
@[simp] theorem setUpsr_car (s : State) (v : BitVec 8) : (s.setUpsr v).car = s.car := rfl
@[simp] theorem setUpsr_bpc (s : State) (v : BitVec 8) : (s.setUpsr v).bpc = s.bpc := rfl
@[simp] theorem setUpsr_mem (s : State) (v : BitVec 8) : (s.setUpsr v).mem = s.mem := rfl
@[simp] theorem setUpsr_waiting (s : State) (v : BitVec 8) : (s.setUpsr v).waiting = s.waiting := rfl
@[simp] theorem setUpsr_entryFault (s : State) (v : BitVec 8) : (s.setUpsr v).entryFault = s.entryFault := rfl
@[simp] theorem setUpsr_nmiPending (s : State) (v : BitVec 8) : (s.setUpsr v).nmiPending = s.nmiPending := rfl
@[simp] theorem setUpsr_intRequest (s : State) (v : BitVec 8) : (s.setUpsr v).intRequest = s.intRequest := rfl
@[simp] theorem setUpsr_resetRequest (s : State) (v : BitVec 8) : (s.setUpsr v).resetRequest = s.resetRequest := rfl
@[simp] theorem setUpsr_eoiEvents (s : State) (v : BitVec 8) : (s.setUpsr v).eoiEvents = s.eoiEvents := rfl
@[simp] theorem setUpsr_xlate (s : State) (v : BitVec 8) : (s.setUpsr v).xlate = s.xlate := rfl
@[simp] theorem setUpsr_freeCount (s : State) (v : BitVec 8) : (s.setUpsr v).freeCount = s.freeCount := rfl
@[simp] theorem setUpsr_boundary (s : State) (v : BitVec 8) : (s.setUpsr v).boundary = s.boundary := rfl

/-! ## setFlag -/

@[simp] theorem setFlag_regs (s : State) (i : Nat) (b : Bool) : (s.setFlag i b).regs = s.regs := rfl
@[simp] theorem setFlag_pc (s : State) (i : Nat) (b : Bool) : (s.setFlag i b).pc = s.pc := rfl
@[simp] theorem setFlag_sp0 (s : State) (i : Nat) (b : Bool) : (s.setFlag i b).sp0 = s.sp0 := rfl
@[simp] theorem setFlag_sp1 (s : State) (i : Nat) (b : Bool) : (s.setFlag i b).sp1 = s.sp1 := rfl
@[simp] theorem setFlag_fp (s : State) (i : Nat) (b : Bool) : (s.setFlag i b).fp = s.fp := rfl
@[simp] theorem setFlag_sb (s : State) (i : Nat) (b : Bool) : (s.setFlag i b).sb = s.sb := rfl
@[simp] theorem setFlag_intbase (s : State) (i : Nat) (b : Bool) : (s.setFlag i b).intbase = s.intbase := rfl
@[simp] theorem setFlag_mod (s : State) (i : Nat) (b : Bool) : (s.setFlag i b).mod = s.mod := rfl
@[simp] theorem setFlag_psr (s : State) (i : Nat) (b : Bool) : (s.setFlag i b).psr = putBit s.psr i b := rfl
@[simp] theorem setFlag_cfg (s : State) (i : Nat) (b : Bool) : (s.setFlag i b).cfg = s.cfg := rfl
@[simp] theorem setFlag_fd (s : State) (i : Nat) (b : Bool) : (s.setFlag i b).fd = s.fd := rfl
@[simp] theorem setFlag_fsr (s : State) (i : Nat) (b : Bool) : (s.setFlag i b).fsr = s.fsr := rfl
@[simp] theorem setFlag_ptb0 (s : State) (i : Nat) (b : Bool) : (s.setFlag i b).ptb0 = s.ptb0 := rfl
@[simp] theorem setFlag_ptb1 (s : State) (i : Nat) (b : Bool) : (s.setFlag i b).ptb1 = s.ptb1 := rfl
@[simp] theorem setFlag_tear (s : State) (i : Nat) (b : Bool) : (s.setFlag i b).tear = s.tear := rfl
@[simp] theorem setFlag_mcr (s : State) (i : Nat) (b : Bool) : (s.setFlag i b).mcr = s.mcr := rfl
@[simp] theorem setFlag_msr (s : State) (i : Nat) (b : Bool) : (s.setFlag i b).msr = s.msr := rfl
@[simp] theorem setFlag_dcr (s : State) (i : Nat) (b : Bool) : (s.setFlag i b).dcr = s.dcr := rfl
@[simp] theorem setFlag_dsr (s : State) (i : Nat) (b : Bool) : (s.setFlag i b).dsr = s.dsr := rfl
@[simp] theorem setFlag_car (s : State) (i : Nat) (b : Bool) : (s.setFlag i b).car = s.car := rfl
@[simp] theorem setFlag_bpc (s : State) (i : Nat) (b : Bool) : (s.setFlag i b).bpc = s.bpc := rfl
@[simp] theorem setFlag_mem (s : State) (i : Nat) (b : Bool) : (s.setFlag i b).mem = s.mem := rfl
@[simp] theorem setFlag_waiting (s : State) (i : Nat) (b : Bool) : (s.setFlag i b).waiting = s.waiting := rfl
@[simp] theorem setFlag_entryFault (s : State) (i : Nat) (b : Bool) : (s.setFlag i b).entryFault = s.entryFault := rfl
@[simp] theorem setFlag_nmiPending (s : State) (i : Nat) (b : Bool) : (s.setFlag i b).nmiPending = s.nmiPending := rfl
@[simp] theorem setFlag_intRequest (s : State) (i : Nat) (b : Bool) : (s.setFlag i b).intRequest = s.intRequest := rfl
@[simp] theorem setFlag_resetRequest (s : State) (i : Nat) (b : Bool) : (s.setFlag i b).resetRequest = s.resetRequest := rfl
@[simp] theorem setFlag_eoiEvents (s : State) (i : Nat) (b : Bool) : (s.setFlag i b).eoiEvents = s.eoiEvents := rfl
@[simp] theorem setFlag_xlate (s : State) (i : Nat) (b : Bool) : (s.setFlag i b).xlate = s.xlate := rfl
@[simp] theorem setFlag_freeCount (s : State) (i : Nat) (b : Bool) : (s.setFlag i b).freeCount = s.freeCount := rfl
@[simp] theorem setFlag_boundary (s : State) (i : Nat) (b : Bool) : (s.setFlag i b).boundary = s.boundary := rfl

/-! ## setC -/

@[simp] theorem setC_regs (s : State) (b : Bool) : (s.setC b).regs = s.regs := rfl
@[simp] theorem setC_pc (s : State) (b : Bool) : (s.setC b).pc = s.pc := rfl
@[simp] theorem setC_sp0 (s : State) (b : Bool) : (s.setC b).sp0 = s.sp0 := rfl
@[simp] theorem setC_sp1 (s : State) (b : Bool) : (s.setC b).sp1 = s.sp1 := rfl
@[simp] theorem setC_fp (s : State) (b : Bool) : (s.setC b).fp = s.fp := rfl
@[simp] theorem setC_sb (s : State) (b : Bool) : (s.setC b).sb = s.sb := rfl
@[simp] theorem setC_intbase (s : State) (b : Bool) : (s.setC b).intbase = s.intbase := rfl
@[simp] theorem setC_mod (s : State) (b : Bool) : (s.setC b).mod = s.mod := rfl
@[simp] theorem setC_psr (s : State) (b : Bool) : (s.setC b).psr = putBit s.psr 0 b := rfl
@[simp] theorem setC_cfg (s : State) (b : Bool) : (s.setC b).cfg = s.cfg := rfl
@[simp] theorem setC_fd (s : State) (b : Bool) : (s.setC b).fd = s.fd := rfl
@[simp] theorem setC_fsr (s : State) (b : Bool) : (s.setC b).fsr = s.fsr := rfl
@[simp] theorem setC_ptb0 (s : State) (b : Bool) : (s.setC b).ptb0 = s.ptb0 := rfl
@[simp] theorem setC_ptb1 (s : State) (b : Bool) : (s.setC b).ptb1 = s.ptb1 := rfl
@[simp] theorem setC_tear (s : State) (b : Bool) : (s.setC b).tear = s.tear := rfl
@[simp] theorem setC_mcr (s : State) (b : Bool) : (s.setC b).mcr = s.mcr := rfl
@[simp] theorem setC_msr (s : State) (b : Bool) : (s.setC b).msr = s.msr := rfl
@[simp] theorem setC_dcr (s : State) (b : Bool) : (s.setC b).dcr = s.dcr := rfl
@[simp] theorem setC_dsr (s : State) (b : Bool) : (s.setC b).dsr = s.dsr := rfl
@[simp] theorem setC_car (s : State) (b : Bool) : (s.setC b).car = s.car := rfl
@[simp] theorem setC_bpc (s : State) (b : Bool) : (s.setC b).bpc = s.bpc := rfl
@[simp] theorem setC_mem (s : State) (b : Bool) : (s.setC b).mem = s.mem := rfl
@[simp] theorem setC_waiting (s : State) (b : Bool) : (s.setC b).waiting = s.waiting := rfl
@[simp] theorem setC_entryFault (s : State) (b : Bool) : (s.setC b).entryFault = s.entryFault := rfl
@[simp] theorem setC_nmiPending (s : State) (b : Bool) : (s.setC b).nmiPending = s.nmiPending := rfl
@[simp] theorem setC_intRequest (s : State) (b : Bool) : (s.setC b).intRequest = s.intRequest := rfl
@[simp] theorem setC_resetRequest (s : State) (b : Bool) : (s.setC b).resetRequest = s.resetRequest := rfl
@[simp] theorem setC_eoiEvents (s : State) (b : Bool) : (s.setC b).eoiEvents = s.eoiEvents := rfl
@[simp] theorem setC_xlate (s : State) (b : Bool) : (s.setC b).xlate = s.xlate := rfl
@[simp] theorem setC_freeCount (s : State) (b : Bool) : (s.setC b).freeCount = s.freeCount := rfl
@[simp] theorem setC_boundary (s : State) (b : Bool) : (s.setC b).boundary = s.boundary := rfl

/-! ## setF -/

@[simp] theorem setF_regs (s : State) (b : Bool) : (s.setF b).regs = s.regs := rfl
@[simp] theorem setF_pc (s : State) (b : Bool) : (s.setF b).pc = s.pc := rfl
@[simp] theorem setF_sp0 (s : State) (b : Bool) : (s.setF b).sp0 = s.sp0 := rfl
@[simp] theorem setF_sp1 (s : State) (b : Bool) : (s.setF b).sp1 = s.sp1 := rfl
@[simp] theorem setF_fp (s : State) (b : Bool) : (s.setF b).fp = s.fp := rfl
@[simp] theorem setF_sb (s : State) (b : Bool) : (s.setF b).sb = s.sb := rfl
@[simp] theorem setF_intbase (s : State) (b : Bool) : (s.setF b).intbase = s.intbase := rfl
@[simp] theorem setF_mod (s : State) (b : Bool) : (s.setF b).mod = s.mod := rfl
@[simp] theorem setF_psr (s : State) (b : Bool) : (s.setF b).psr = putBit s.psr 5 b := rfl
@[simp] theorem setF_cfg (s : State) (b : Bool) : (s.setF b).cfg = s.cfg := rfl
@[simp] theorem setF_fd (s : State) (b : Bool) : (s.setF b).fd = s.fd := rfl
@[simp] theorem setF_fsr (s : State) (b : Bool) : (s.setF b).fsr = s.fsr := rfl
@[simp] theorem setF_ptb0 (s : State) (b : Bool) : (s.setF b).ptb0 = s.ptb0 := rfl
@[simp] theorem setF_ptb1 (s : State) (b : Bool) : (s.setF b).ptb1 = s.ptb1 := rfl
@[simp] theorem setF_tear (s : State) (b : Bool) : (s.setF b).tear = s.tear := rfl
@[simp] theorem setF_mcr (s : State) (b : Bool) : (s.setF b).mcr = s.mcr := rfl
@[simp] theorem setF_msr (s : State) (b : Bool) : (s.setF b).msr = s.msr := rfl
@[simp] theorem setF_dcr (s : State) (b : Bool) : (s.setF b).dcr = s.dcr := rfl
@[simp] theorem setF_dsr (s : State) (b : Bool) : (s.setF b).dsr = s.dsr := rfl
@[simp] theorem setF_car (s : State) (b : Bool) : (s.setF b).car = s.car := rfl
@[simp] theorem setF_bpc (s : State) (b : Bool) : (s.setF b).bpc = s.bpc := rfl
@[simp] theorem setF_mem (s : State) (b : Bool) : (s.setF b).mem = s.mem := rfl
@[simp] theorem setF_waiting (s : State) (b : Bool) : (s.setF b).waiting = s.waiting := rfl
@[simp] theorem setF_entryFault (s : State) (b : Bool) : (s.setF b).entryFault = s.entryFault := rfl
@[simp] theorem setF_nmiPending (s : State) (b : Bool) : (s.setF b).nmiPending = s.nmiPending := rfl
@[simp] theorem setF_intRequest (s : State) (b : Bool) : (s.setF b).intRequest = s.intRequest := rfl
@[simp] theorem setF_resetRequest (s : State) (b : Bool) : (s.setF b).resetRequest = s.resetRequest := rfl
@[simp] theorem setF_eoiEvents (s : State) (b : Bool) : (s.setF b).eoiEvents = s.eoiEvents := rfl
@[simp] theorem setF_xlate (s : State) (b : Bool) : (s.setF b).xlate = s.xlate := rfl
@[simp] theorem setF_freeCount (s : State) (b : Bool) : (s.setF b).freeCount = s.freeCount := rfl
@[simp] theorem setF_boundary (s : State) (b : Bool) : (s.setF b).boundary = s.boundary := rfl

/-! ## setZNL -/

@[simp] theorem setZNL_regs (s : State) (z n l : Bool) : (s.setZNL z n l).regs = s.regs := rfl
@[simp] theorem setZNL_pc (s : State) (z n l : Bool) : (s.setZNL z n l).pc = s.pc := rfl
@[simp] theorem setZNL_sp0 (s : State) (z n l : Bool) : (s.setZNL z n l).sp0 = s.sp0 := rfl
@[simp] theorem setZNL_sp1 (s : State) (z n l : Bool) : (s.setZNL z n l).sp1 = s.sp1 := rfl
@[simp] theorem setZNL_fp (s : State) (z n l : Bool) : (s.setZNL z n l).fp = s.fp := rfl
@[simp] theorem setZNL_sb (s : State) (z n l : Bool) : (s.setZNL z n l).sb = s.sb := rfl
@[simp] theorem setZNL_intbase (s : State) (z n l : Bool) : (s.setZNL z n l).intbase = s.intbase := rfl
@[simp] theorem setZNL_mod (s : State) (z n l : Bool) : (s.setZNL z n l).mod = s.mod := rfl
@[simp] theorem setZNL_psr (s : State) (z n l : Bool) :
    (s.setZNL z n l).psr = putBit (putBit (putBit s.psr 6 z) 7 n) 2 l := rfl
@[simp] theorem setZNL_cfg (s : State) (z n l : Bool) : (s.setZNL z n l).cfg = s.cfg := rfl
@[simp] theorem setZNL_fd (s : State) (z n l : Bool) : (s.setZNL z n l).fd = s.fd := rfl
@[simp] theorem setZNL_fsr (s : State) (z n l : Bool) : (s.setZNL z n l).fsr = s.fsr := rfl
@[simp] theorem setZNL_ptb0 (s : State) (z n l : Bool) : (s.setZNL z n l).ptb0 = s.ptb0 := rfl
@[simp] theorem setZNL_ptb1 (s : State) (z n l : Bool) : (s.setZNL z n l).ptb1 = s.ptb1 := rfl
@[simp] theorem setZNL_tear (s : State) (z n l : Bool) : (s.setZNL z n l).tear = s.tear := rfl
@[simp] theorem setZNL_mcr (s : State) (z n l : Bool) : (s.setZNL z n l).mcr = s.mcr := rfl
@[simp] theorem setZNL_msr (s : State) (z n l : Bool) : (s.setZNL z n l).msr = s.msr := rfl
@[simp] theorem setZNL_dcr (s : State) (z n l : Bool) : (s.setZNL z n l).dcr = s.dcr := rfl
@[simp] theorem setZNL_dsr (s : State) (z n l : Bool) : (s.setZNL z n l).dsr = s.dsr := rfl
@[simp] theorem setZNL_car (s : State) (z n l : Bool) : (s.setZNL z n l).car = s.car := rfl
@[simp] theorem setZNL_bpc (s : State) (z n l : Bool) : (s.setZNL z n l).bpc = s.bpc := rfl
@[simp] theorem setZNL_mem (s : State) (z n l : Bool) : (s.setZNL z n l).mem = s.mem := rfl
@[simp] theorem setZNL_waiting (s : State) (z n l : Bool) : (s.setZNL z n l).waiting = s.waiting := rfl
@[simp] theorem setZNL_entryFault (s : State) (z n l : Bool) : (s.setZNL z n l).entryFault = s.entryFault := rfl
@[simp] theorem setZNL_nmiPending (s : State) (z n l : Bool) : (s.setZNL z n l).nmiPending = s.nmiPending := rfl
@[simp] theorem setZNL_intRequest (s : State) (z n l : Bool) : (s.setZNL z n l).intRequest = s.intRequest := rfl
@[simp] theorem setZNL_resetRequest (s : State) (z n l : Bool) : (s.setZNL z n l).resetRequest = s.resetRequest := rfl
@[simp] theorem setZNL_eoiEvents (s : State) (z n l : Bool) : (s.setZNL z n l).eoiEvents = s.eoiEvents := rfl
@[simp] theorem setZNL_xlate (s : State) (z n l : Bool) : (s.setZNL z n l).xlate = s.xlate := rfl
@[simp] theorem setZNL_freeCount (s : State) (z n l : Bool) : (s.setZNL z n l).freeCount = s.freeCount := rfl
@[simp] theorem setZNL_boundary (s : State) (z n l : Bool) : (s.setZNL z n l).boundary = s.boundary := rfl

/-! ## setCfg -/

@[simp] theorem setCfg_regs (s : State) (v : Word) : (s.setCfg v).regs = s.regs := rfl
@[simp] theorem setCfg_pc (s : State) (v : Word) : (s.setCfg v).pc = s.pc := rfl
@[simp] theorem setCfg_sp0 (s : State) (v : Word) : (s.setCfg v).sp0 = s.sp0 := rfl
@[simp] theorem setCfg_sp1 (s : State) (v : Word) : (s.setCfg v).sp1 = s.sp1 := rfl
@[simp] theorem setCfg_fp (s : State) (v : Word) : (s.setCfg v).fp = s.fp := rfl
@[simp] theorem setCfg_sb (s : State) (v : Word) : (s.setCfg v).sb = s.sb := rfl
@[simp] theorem setCfg_intbase (s : State) (v : Word) : (s.setCfg v).intbase = s.intbase := rfl
@[simp] theorem setCfg_mod (s : State) (v : Word) : (s.setCfg v).mod = s.mod := rfl
@[simp] theorem setCfg_psr (s : State) (v : Word) : (s.setCfg v).psr = s.psr := rfl
@[simp] theorem setCfg_cfg (s : State) (v : Word) :
    (s.setCfg v).cfg = (v &&& 0x00003F0F) ||| 0x000000F0 := rfl
@[simp] theorem setCfg_fd (s : State) (v : Word) : (s.setCfg v).fd = s.fd := rfl
@[simp] theorem setCfg_fsr (s : State) (v : Word) : (s.setCfg v).fsr = s.fsr := rfl
@[simp] theorem setCfg_ptb0 (s : State) (v : Word) : (s.setCfg v).ptb0 = s.ptb0 := rfl
@[simp] theorem setCfg_ptb1 (s : State) (v : Word) : (s.setCfg v).ptb1 = s.ptb1 := rfl
@[simp] theorem setCfg_tear (s : State) (v : Word) : (s.setCfg v).tear = s.tear := rfl
@[simp] theorem setCfg_mcr (s : State) (v : Word) : (s.setCfg v).mcr = s.mcr := rfl
@[simp] theorem setCfg_msr (s : State) (v : Word) : (s.setCfg v).msr = s.msr := rfl
@[simp] theorem setCfg_dcr (s : State) (v : Word) : (s.setCfg v).dcr = s.dcr := rfl
@[simp] theorem setCfg_dsr (s : State) (v : Word) : (s.setCfg v).dsr = s.dsr := rfl
@[simp] theorem setCfg_car (s : State) (v : Word) : (s.setCfg v).car = s.car := rfl
@[simp] theorem setCfg_bpc (s : State) (v : Word) : (s.setCfg v).bpc = s.bpc := rfl
@[simp] theorem setCfg_mem (s : State) (v : Word) : (s.setCfg v).mem = s.mem := rfl
@[simp] theorem setCfg_waiting (s : State) (v : Word) : (s.setCfg v).waiting = s.waiting := rfl
@[simp] theorem setCfg_entryFault (s : State) (v : Word) : (s.setCfg v).entryFault = s.entryFault := rfl
@[simp] theorem setCfg_nmiPending (s : State) (v : Word) : (s.setCfg v).nmiPending = s.nmiPending := rfl
@[simp] theorem setCfg_intRequest (s : State) (v : Word) : (s.setCfg v).intRequest = s.intRequest := rfl
@[simp] theorem setCfg_resetRequest (s : State) (v : Word) : (s.setCfg v).resetRequest = s.resetRequest := rfl
@[simp] theorem setCfg_eoiEvents (s : State) (v : Word) : (s.setCfg v).eoiEvents = s.eoiEvents := rfl
@[simp] theorem setCfg_xlate (s : State) (v : Word) : (s.setCfg v).xlate = s.xlate := rfl
@[simp] theorem setCfg_freeCount (s : State) (v : Word) : (s.setCfg v).freeCount = s.freeCount := rfl
@[simp] theorem setCfg_boundary (s : State) (v : Word) : (s.setCfg v).boundary = s.boundary := rfl

/-! ## setFreg -/

@[simp] theorem setFreg_regs {w : Nat} (s : State) (r : Reg) (v : BitVec w) :
    (s.setFreg r v).regs = s.regs := rfl
@[simp] theorem setFreg_pc {w : Nat} (s : State) (r : Reg) (v : BitVec w) : (s.setFreg r v).pc = s.pc := rfl
@[simp] theorem setFreg_sp0 {w : Nat} (s : State) (r : Reg) (v : BitVec w) :
    (s.setFreg r v).sp0 = s.sp0 := rfl
@[simp] theorem setFreg_sp1 {w : Nat} (s : State) (r : Reg) (v : BitVec w) :
    (s.setFreg r v).sp1 = s.sp1 := rfl
@[simp] theorem setFreg_fp {w : Nat} (s : State) (r : Reg) (v : BitVec w) : (s.setFreg r v).fp = s.fp := rfl
@[simp] theorem setFreg_sb {w : Nat} (s : State) (r : Reg) (v : BitVec w) : (s.setFreg r v).sb = s.sb := rfl
@[simp] theorem setFreg_intbase {w : Nat} (s : State) (r : Reg) (v : BitVec w) :
    (s.setFreg r v).intbase = s.intbase := rfl
@[simp] theorem setFreg_mod {w : Nat} (s : State) (r : Reg) (v : BitVec w) :
    (s.setFreg r v).mod = s.mod := rfl
@[simp] theorem setFreg_psr {w : Nat} (s : State) (r : Reg) (v : BitVec w) :
    (s.setFreg r v).psr = s.psr := rfl
@[simp] theorem setFreg_cfg {w : Nat} (s : State) (r : Reg) (v : BitVec w) :
    (s.setFreg r v).cfg = s.cfg := rfl
@[simp] theorem setFreg_fsr {w : Nat} (s : State) (r : Reg) (v : BitVec w) :
    (s.setFreg r v).fsr = fsrSetRMB s.fsr := rfl
@[simp] theorem setFreg_ptb0 {w : Nat} (s : State) (r : Reg) (v : BitVec w) :
    (s.setFreg r v).ptb0 = s.ptb0 := rfl
@[simp] theorem setFreg_ptb1 {w : Nat} (s : State) (r : Reg) (v : BitVec w) :
    (s.setFreg r v).ptb1 = s.ptb1 := rfl
@[simp] theorem setFreg_tear {w : Nat} (s : State) (r : Reg) (v : BitVec w) :
    (s.setFreg r v).tear = s.tear := rfl
@[simp] theorem setFreg_mcr {w : Nat} (s : State) (r : Reg) (v : BitVec w) :
    (s.setFreg r v).mcr = s.mcr := rfl
@[simp] theorem setFreg_msr {w : Nat} (s : State) (r : Reg) (v : BitVec w) :
    (s.setFreg r v).msr = s.msr := rfl
@[simp] theorem setFreg_dcr {w : Nat} (s : State) (r : Reg) (v : BitVec w) :
    (s.setFreg r v).dcr = s.dcr := rfl
@[simp] theorem setFreg_dsr {w : Nat} (s : State) (r : Reg) (v : BitVec w) :
    (s.setFreg r v).dsr = s.dsr := rfl
@[simp] theorem setFreg_car {w : Nat} (s : State) (r : Reg) (v : BitVec w) :
    (s.setFreg r v).car = s.car := rfl
@[simp] theorem setFreg_bpc {w : Nat} (s : State) (r : Reg) (v : BitVec w) :
    (s.setFreg r v).bpc = s.bpc := rfl
@[simp] theorem setFreg_mem {w : Nat} (s : State) (r : Reg) (v : BitVec w) :
    (s.setFreg r v).mem = s.mem := rfl
@[simp] theorem setFreg_waiting {w : Nat} (s : State) (r : Reg) (v : BitVec w) :
    (s.setFreg r v).waiting = s.waiting := rfl
@[simp] theorem setFreg_entryFault {w : Nat} (s : State) (r : Reg) (v : BitVec w) :
    (s.setFreg r v).entryFault = s.entryFault := rfl
@[simp] theorem setFreg_nmiPending {w : Nat} (s : State) (r : Reg) (v : BitVec w) :
    (s.setFreg r v).nmiPending = s.nmiPending := rfl
@[simp] theorem setFreg_intRequest {w : Nat} (s : State) (r : Reg) (v : BitVec w) :
    (s.setFreg r v).intRequest = s.intRequest := rfl
@[simp] theorem setFreg_resetRequest {w : Nat} (s : State) (r : Reg) (v : BitVec w) :
    (s.setFreg r v).resetRequest = s.resetRequest := rfl
@[simp] theorem setFreg_eoiEvents {w : Nat} (s : State) (r : Reg) (v : BitVec w) :
    (s.setFreg r v).eoiEvents = s.eoiEvents := rfl
@[simp] theorem setFreg_xlate {w : Nat} (s : State) (r : Reg) (v : BitVec w) :
    (s.setFreg r v).xlate = s.xlate := rfl
@[simp] theorem setFreg_freeCount {w : Nat} (s : State) (r : Reg) (v : BitVec w) :
    (s.setFreg r v).freeCount = s.freeCount := rfl
@[simp] theorem setFreg_boundary {w : Nat} (s : State) (r : Reg) (v : BitVec w) :
    (s.setFreg r v).boundary = s.boundary := rfl

/-! ## draw -/

@[simp] theorem draw_regs (w : Nat) (s : State) : (s.draw w).2.regs = s.regs := rfl
@[simp] theorem draw_pc (w : Nat) (s : State) : (s.draw w).2.pc = s.pc := rfl
@[simp] theorem draw_sp0 (w : Nat) (s : State) : (s.draw w).2.sp0 = s.sp0 := rfl
@[simp] theorem draw_sp1 (w : Nat) (s : State) : (s.draw w).2.sp1 = s.sp1 := rfl
@[simp] theorem draw_fp (w : Nat) (s : State) : (s.draw w).2.fp = s.fp := rfl
@[simp] theorem draw_sb (w : Nat) (s : State) : (s.draw w).2.sb = s.sb := rfl
@[simp] theorem draw_intbase (w : Nat) (s : State) : (s.draw w).2.intbase = s.intbase := rfl
@[simp] theorem draw_mod (w : Nat) (s : State) : (s.draw w).2.mod = s.mod := rfl
@[simp] theorem draw_psr (w : Nat) (s : State) : (s.draw w).2.psr = s.psr := rfl
@[simp] theorem draw_cfg (w : Nat) (s : State) : (s.draw w).2.cfg = s.cfg := rfl
@[simp] theorem draw_fd (w : Nat) (s : State) : (s.draw w).2.fd = s.fd := rfl
@[simp] theorem draw_fsr (w : Nat) (s : State) : (s.draw w).2.fsr = s.fsr := rfl
@[simp] theorem draw_ptb0 (w : Nat) (s : State) : (s.draw w).2.ptb0 = s.ptb0 := rfl
@[simp] theorem draw_ptb1 (w : Nat) (s : State) : (s.draw w).2.ptb1 = s.ptb1 := rfl
@[simp] theorem draw_tear (w : Nat) (s : State) : (s.draw w).2.tear = s.tear := rfl
@[simp] theorem draw_mcr (w : Nat) (s : State) : (s.draw w).2.mcr = s.mcr := rfl
@[simp] theorem draw_msr (w : Nat) (s : State) : (s.draw w).2.msr = s.msr := rfl
@[simp] theorem draw_dcr (w : Nat) (s : State) : (s.draw w).2.dcr = s.dcr := rfl
@[simp] theorem draw_dsr (w : Nat) (s : State) : (s.draw w).2.dsr = s.dsr := rfl
@[simp] theorem draw_car (w : Nat) (s : State) : (s.draw w).2.car = s.car := rfl
@[simp] theorem draw_bpc (w : Nat) (s : State) : (s.draw w).2.bpc = s.bpc := rfl
@[simp] theorem draw_mem (w : Nat) (s : State) : (s.draw w).2.mem = s.mem := rfl
@[simp] theorem draw_waiting (w : Nat) (s : State) : (s.draw w).2.waiting = s.waiting := rfl
@[simp] theorem draw_entryFault (w : Nat) (s : State) : (s.draw w).2.entryFault = s.entryFault := rfl
@[simp] theorem draw_nmiPending (w : Nat) (s : State) : (s.draw w).2.nmiPending = s.nmiPending := rfl
@[simp] theorem draw_intRequest (w : Nat) (s : State) : (s.draw w).2.intRequest = s.intRequest := rfl
@[simp] theorem draw_resetRequest (w : Nat) (s : State) : (s.draw w).2.resetRequest = s.resetRequest := rfl
@[simp] theorem draw_eoiEvents (w : Nat) (s : State) : (s.draw w).2.eoiEvents = s.eoiEvents := rfl
@[simp] theorem draw_xlate (w : Nat) (s : State) : (s.draw w).2.xlate = s.xlate := rfl
@[simp] theorem draw_freeCount (w : Nat) (s : State) : (s.draw w).2.freeCount = s.freeCount + 1 := rfl
@[simp] theorem draw_boundary (w : Nat) (s : State) : (s.draw w).2.boundary = s.boundary := rfl

/-! ## drawRegs -/

@[simp] theorem drawRegs_pc (s : State) : s.drawRegs.pc = s.pc := rfl
@[simp] theorem drawRegs_sp0 (s : State) : s.drawRegs.sp0 = s.sp0 := rfl
@[simp] theorem drawRegs_sp1 (s : State) : s.drawRegs.sp1 = s.sp1 := rfl
@[simp] theorem drawRegs_fp (s : State) : s.drawRegs.fp = s.fp := rfl
@[simp] theorem drawRegs_sb (s : State) : s.drawRegs.sb = s.sb := rfl
@[simp] theorem drawRegs_intbase (s : State) : s.drawRegs.intbase = s.intbase := rfl
@[simp] theorem drawRegs_mod (s : State) : s.drawRegs.mod = s.mod := rfl
@[simp] theorem drawRegs_psr (s : State) : s.drawRegs.psr = s.psr := rfl
@[simp] theorem drawRegs_cfg (s : State) : s.drawRegs.cfg = s.cfg := rfl
@[simp] theorem drawRegs_fd (s : State) : s.drawRegs.fd = s.fd := rfl
@[simp] theorem drawRegs_fsr (s : State) : s.drawRegs.fsr = s.fsr := rfl
@[simp] theorem drawRegs_ptb0 (s : State) : s.drawRegs.ptb0 = s.ptb0 := rfl
@[simp] theorem drawRegs_ptb1 (s : State) : s.drawRegs.ptb1 = s.ptb1 := rfl
@[simp] theorem drawRegs_tear (s : State) : s.drawRegs.tear = s.tear := rfl
@[simp] theorem drawRegs_mcr (s : State) : s.drawRegs.mcr = s.mcr := rfl
@[simp] theorem drawRegs_msr (s : State) : s.drawRegs.msr = s.msr := rfl
@[simp] theorem drawRegs_dcr (s : State) : s.drawRegs.dcr = s.dcr := rfl
@[simp] theorem drawRegs_dsr (s : State) : s.drawRegs.dsr = s.dsr := rfl
@[simp] theorem drawRegs_car (s : State) : s.drawRegs.car = s.car := rfl
@[simp] theorem drawRegs_bpc (s : State) : s.drawRegs.bpc = s.bpc := rfl
@[simp] theorem drawRegs_mem (s : State) : s.drawRegs.mem = s.mem := rfl
@[simp] theorem drawRegs_waiting (s : State) : s.drawRegs.waiting = s.waiting := rfl
@[simp] theorem drawRegs_entryFault (s : State) : s.drawRegs.entryFault = s.entryFault := rfl
@[simp] theorem drawRegs_nmiPending (s : State) : s.drawRegs.nmiPending = s.nmiPending := rfl
@[simp] theorem drawRegs_intRequest (s : State) : s.drawRegs.intRequest = s.intRequest := rfl
@[simp] theorem drawRegs_resetRequest (s : State) : s.drawRegs.resetRequest = s.resetRequest := rfl
@[simp] theorem drawRegs_eoiEvents (s : State) : s.drawRegs.eoiEvents = s.eoiEvents := rfl
@[simp] theorem drawRegs_xlate (s : State) : s.drawRegs.xlate = s.xlate := rfl
@[simp] theorem drawRegs_freeCount (s : State) : s.drawRegs.freeCount = s.freeCount + 8 := rfl
@[simp] theorem drawRegs_boundary (s : State) : s.drawRegs.boundary = s.boundary := rfl

/-! ## advance -/

@[simp] theorem advance_regs (s : State) (n : Nat) : (s.advance n).regs = s.regs := rfl
@[simp] theorem advance_pc (s : State) (n : Nat) : (s.advance n).pc = s.pc + BitVec.ofNat 32 n := rfl
@[simp] theorem advance_sp0 (s : State) (n : Nat) : (s.advance n).sp0 = s.sp0 := rfl
@[simp] theorem advance_sp1 (s : State) (n : Nat) : (s.advance n).sp1 = s.sp1 := rfl
@[simp] theorem advance_fp (s : State) (n : Nat) : (s.advance n).fp = s.fp := rfl
@[simp] theorem advance_sb (s : State) (n : Nat) : (s.advance n).sb = s.sb := rfl
@[simp] theorem advance_intbase (s : State) (n : Nat) : (s.advance n).intbase = s.intbase := rfl
@[simp] theorem advance_mod (s : State) (n : Nat) : (s.advance n).mod = s.mod := rfl
@[simp] theorem advance_psr (s : State) (n : Nat) : (s.advance n).psr = s.psr := rfl
@[simp] theorem advance_cfg (s : State) (n : Nat) : (s.advance n).cfg = s.cfg := rfl
@[simp] theorem advance_fd (s : State) (n : Nat) : (s.advance n).fd = s.fd := rfl
@[simp] theorem advance_fsr (s : State) (n : Nat) : (s.advance n).fsr = s.fsr := rfl
@[simp] theorem advance_ptb0 (s : State) (n : Nat) : (s.advance n).ptb0 = s.ptb0 := rfl
@[simp] theorem advance_ptb1 (s : State) (n : Nat) : (s.advance n).ptb1 = s.ptb1 := rfl
@[simp] theorem advance_tear (s : State) (n : Nat) : (s.advance n).tear = s.tear := rfl
@[simp] theorem advance_mcr (s : State) (n : Nat) : (s.advance n).mcr = s.mcr := rfl
@[simp] theorem advance_msr (s : State) (n : Nat) : (s.advance n).msr = s.msr := rfl
@[simp] theorem advance_dcr (s : State) (n : Nat) : (s.advance n).dcr = s.dcr := rfl
@[simp] theorem advance_dsr (s : State) (n : Nat) : (s.advance n).dsr = s.dsr := rfl
@[simp] theorem advance_car (s : State) (n : Nat) : (s.advance n).car = s.car := rfl
@[simp] theorem advance_bpc (s : State) (n : Nat) : (s.advance n).bpc = s.bpc := rfl
@[simp] theorem advance_mem (s : State) (n : Nat) : (s.advance n).mem = s.mem := rfl
@[simp] theorem advance_waiting (s : State) (n : Nat) : (s.advance n).waiting = s.waiting := rfl
@[simp] theorem advance_entryFault (s : State) (n : Nat) : (s.advance n).entryFault = s.entryFault := rfl
@[simp] theorem advance_nmiPending (s : State) (n : Nat) : (s.advance n).nmiPending = s.nmiPending := rfl
@[simp] theorem advance_intRequest (s : State) (n : Nat) : (s.advance n).intRequest = s.intRequest := rfl
@[simp] theorem advance_resetRequest (s : State) (n : Nat) : (s.advance n).resetRequest = s.resetRequest := rfl
@[simp] theorem advance_eoiEvents (s : State) (n : Nat) : (s.advance n).eoiEvents = s.eoiEvents := rfl
@[simp] theorem advance_xlate (s : State) (n : Nat) : (s.advance n).xlate = s.xlate := rfl
@[simp] theorem advance_freeCount (s : State) (n : Nat) : (s.advance n).freeCount = s.freeCount := rfl
@[simp] theorem advance_boundary (s : State) (n : Nat) : (s.advance n).boundary = .done := rfl

/-! ## jump -/

@[simp] theorem jump_regs (s : State) (a : Word) : (s.jump a).regs = s.regs := rfl
@[simp] theorem jump_pc (s : State) (a : Word) : (s.jump a).pc = a := rfl
@[simp] theorem jump_sp0 (s : State) (a : Word) : (s.jump a).sp0 = s.sp0 := rfl
@[simp] theorem jump_sp1 (s : State) (a : Word) : (s.jump a).sp1 = s.sp1 := rfl
@[simp] theorem jump_fp (s : State) (a : Word) : (s.jump a).fp = s.fp := rfl
@[simp] theorem jump_sb (s : State) (a : Word) : (s.jump a).sb = s.sb := rfl
@[simp] theorem jump_intbase (s : State) (a : Word) : (s.jump a).intbase = s.intbase := rfl
@[simp] theorem jump_mod (s : State) (a : Word) : (s.jump a).mod = s.mod := rfl
@[simp] theorem jump_psr (s : State) (a : Word) : (s.jump a).psr = s.psr := rfl
@[simp] theorem jump_cfg (s : State) (a : Word) : (s.jump a).cfg = s.cfg := rfl
@[simp] theorem jump_fd (s : State) (a : Word) : (s.jump a).fd = s.fd := rfl
@[simp] theorem jump_fsr (s : State) (a : Word) : (s.jump a).fsr = s.fsr := rfl
@[simp] theorem jump_ptb0 (s : State) (a : Word) : (s.jump a).ptb0 = s.ptb0 := rfl
@[simp] theorem jump_ptb1 (s : State) (a : Word) : (s.jump a).ptb1 = s.ptb1 := rfl
@[simp] theorem jump_tear (s : State) (a : Word) : (s.jump a).tear = s.tear := rfl
@[simp] theorem jump_mcr (s : State) (a : Word) : (s.jump a).mcr = s.mcr := rfl
@[simp] theorem jump_msr (s : State) (a : Word) : (s.jump a).msr = s.msr := rfl
@[simp] theorem jump_dcr (s : State) (a : Word) : (s.jump a).dcr = s.dcr := rfl
@[simp] theorem jump_dsr (s : State) (a : Word) : (s.jump a).dsr = s.dsr := rfl
@[simp] theorem jump_car (s : State) (a : Word) : (s.jump a).car = s.car := rfl
@[simp] theorem jump_bpc (s : State) (a : Word) : (s.jump a).bpc = s.bpc := rfl
@[simp] theorem jump_mem (s : State) (a : Word) : (s.jump a).mem = s.mem := rfl
@[simp] theorem jump_waiting (s : State) (a : Word) : (s.jump a).waiting = s.waiting := rfl
@[simp] theorem jump_entryFault (s : State) (a : Word) : (s.jump a).entryFault = s.entryFault := rfl
@[simp] theorem jump_nmiPending (s : State) (a : Word) : (s.jump a).nmiPending = s.nmiPending := rfl
@[simp] theorem jump_intRequest (s : State) (a : Word) : (s.jump a).intRequest = s.intRequest := rfl
@[simp] theorem jump_resetRequest (s : State) (a : Word) : (s.jump a).resetRequest = s.resetRequest := rfl
@[simp] theorem jump_eoiEvents (s : State) (a : Word) : (s.jump a).eoiEvents = s.eoiEvents := rfl
@[simp] theorem jump_xlate (s : State) (a : Word) : (s.jump a).xlate = s.xlate := rfl
@[simp] theorem jump_freeCount (s : State) (a : Word) : (s.jump a).freeCount = s.freeCount := rfl
@[simp] theorem jump_boundary (s : State) (a : Word) : (s.jump a).boundary = .done := rfl

/-! ## failEntry -/

@[simp] theorem failEntry_regs (s : State) : s.failEntry.regs = s.regs := rfl
@[simp] theorem failEntry_pc (s : State) : s.failEntry.pc = s.pc := rfl
@[simp] theorem failEntry_sp0 (s : State) : s.failEntry.sp0 = s.sp0 := rfl
@[simp] theorem failEntry_sp1 (s : State) : s.failEntry.sp1 = s.sp1 := rfl
@[simp] theorem failEntry_fp (s : State) : s.failEntry.fp = s.fp := rfl
@[simp] theorem failEntry_sb (s : State) : s.failEntry.sb = s.sb := rfl
@[simp] theorem failEntry_intbase (s : State) : s.failEntry.intbase = s.intbase := rfl
@[simp] theorem failEntry_mod (s : State) : s.failEntry.mod = s.mod := rfl
@[simp] theorem failEntry_psr (s : State) : s.failEntry.psr = s.psr := rfl
@[simp] theorem failEntry_cfg (s : State) : s.failEntry.cfg = s.cfg := rfl
@[simp] theorem failEntry_fd (s : State) : s.failEntry.fd = s.fd := rfl
@[simp] theorem failEntry_fsr (s : State) : s.failEntry.fsr = s.fsr := rfl
@[simp] theorem failEntry_ptb0 (s : State) : s.failEntry.ptb0 = s.ptb0 := rfl
@[simp] theorem failEntry_ptb1 (s : State) : s.failEntry.ptb1 = s.ptb1 := rfl
@[simp] theorem failEntry_tear (s : State) : s.failEntry.tear = s.tear := rfl
@[simp] theorem failEntry_mcr (s : State) : s.failEntry.mcr = s.mcr := rfl
@[simp] theorem failEntry_msr (s : State) : s.failEntry.msr = s.msr := rfl
@[simp] theorem failEntry_dcr (s : State) : s.failEntry.dcr = s.dcr := rfl
@[simp] theorem failEntry_dsr (s : State) : s.failEntry.dsr = s.dsr := rfl
@[simp] theorem failEntry_car (s : State) : s.failEntry.car = s.car := rfl
@[simp] theorem failEntry_bpc (s : State) : s.failEntry.bpc = s.bpc := rfl
@[simp] theorem failEntry_mem (s : State) : s.failEntry.mem = s.mem := rfl
@[simp] theorem failEntry_waiting (s : State) : s.failEntry.waiting = false := rfl
@[simp] theorem failEntry_entryFault (s : State) : s.failEntry.entryFault = true := rfl
@[simp] theorem failEntry_nmiPending (s : State) : s.failEntry.nmiPending = s.nmiPending := rfl
@[simp] theorem failEntry_intRequest (s : State) : s.failEntry.intRequest = s.intRequest := rfl
@[simp] theorem failEntry_resetRequest (s : State) : s.failEntry.resetRequest = s.resetRequest := rfl
@[simp] theorem failEntry_eoiEvents (s : State) : s.failEntry.eoiEvents = s.eoiEvents := rfl
@[simp] theorem failEntry_xlate (s : State) : s.failEntry.xlate = s.xlate := rfl
@[simp] theorem failEntry_freeCount (s : State) : s.failEntry.freeCount = s.freeCount := rfl
@[simp] theorem failEntry_boundary (s : State) : s.failEntry.boundary = .trapped := rfl

/-! ## latchTrace -/

@[simp] theorem latchTrace_regs (s : State) : (latchTrace s).regs = s.regs := rfl
@[simp] theorem latchTrace_pc (s : State) : (latchTrace s).pc = s.pc := rfl
@[simp] theorem latchTrace_sp0 (s : State) : (latchTrace s).sp0 = s.sp0 := rfl
@[simp] theorem latchTrace_sp1 (s : State) : (latchTrace s).sp1 = s.sp1 := rfl
@[simp] theorem latchTrace_fp (s : State) : (latchTrace s).fp = s.fp := rfl
@[simp] theorem latchTrace_sb (s : State) : (latchTrace s).sb = s.sb := rfl
@[simp] theorem latchTrace_intbase (s : State) : (latchTrace s).intbase = s.intbase := rfl
@[simp] theorem latchTrace_mod (s : State) : (latchTrace s).mod = s.mod := rfl
@[simp] theorem latchTrace_psr (s : State) : (latchTrace s).psr = putBit s.psr 10 s.flagT := rfl
@[simp] theorem latchTrace_cfg (s : State) : (latchTrace s).cfg = s.cfg := rfl
@[simp] theorem latchTrace_fd (s : State) : (latchTrace s).fd = s.fd := rfl
@[simp] theorem latchTrace_fsr (s : State) : (latchTrace s).fsr = s.fsr := rfl
@[simp] theorem latchTrace_ptb0 (s : State) : (latchTrace s).ptb0 = s.ptb0 := rfl
@[simp] theorem latchTrace_ptb1 (s : State) : (latchTrace s).ptb1 = s.ptb1 := rfl
@[simp] theorem latchTrace_tear (s : State) : (latchTrace s).tear = s.tear := rfl
@[simp] theorem latchTrace_mcr (s : State) : (latchTrace s).mcr = s.mcr := rfl
@[simp] theorem latchTrace_msr (s : State) : (latchTrace s).msr = s.msr := rfl
@[simp] theorem latchTrace_dcr (s : State) : (latchTrace s).dcr = s.dcr := rfl
@[simp] theorem latchTrace_dsr (s : State) : (latchTrace s).dsr = s.dsr := rfl
@[simp] theorem latchTrace_car (s : State) : (latchTrace s).car = s.car := rfl
@[simp] theorem latchTrace_bpc (s : State) : (latchTrace s).bpc = s.bpc := rfl
@[simp] theorem latchTrace_mem (s : State) : (latchTrace s).mem = s.mem := rfl
@[simp] theorem latchTrace_waiting (s : State) : (latchTrace s).waiting = s.waiting := rfl
@[simp] theorem latchTrace_entryFault (s : State) : (latchTrace s).entryFault = s.entryFault := rfl
@[simp] theorem latchTrace_nmiPending (s : State) : (latchTrace s).nmiPending = s.nmiPending := rfl
@[simp] theorem latchTrace_intRequest (s : State) : (latchTrace s).intRequest = s.intRequest := rfl
@[simp] theorem latchTrace_resetRequest (s : State) : (latchTrace s).resetRequest = s.resetRequest := rfl
@[simp] theorem latchTrace_eoiEvents (s : State) : (latchTrace s).eoiEvents = s.eoiEvents := rfl
@[simp] theorem latchTrace_xlate (s : State) : (latchTrace s).xlate = s.xlate := rfl
@[simp] theorem latchTrace_freeCount (s : State) : (latchTrace s).freeCount = s.freeCount := rfl
@[simp] theorem latchTrace_boundary (s : State) : (latchTrace s).boundary = s.boundary := rfl

/-! ## The selected stack pointer -/

@[simp] theorem setSp_sp (s : State) (v : Word) : (s.setSp v).sp = v := by
  unfold State.setSp State.sp State.flagS; split <;> simp_all

@[simp] theorem setSp_flagS (s : State) (v : Word) : (s.setSp v).flagS = s.flagS := by
  simp [State.flagS]

/-! ## One register after a write -/

@[simp] theorem reg_setReg_same (s : State) (r : Reg) (v : Word) : (s.setReg r v).reg r = v := by
  simp [State.reg]

theorem reg_setReg_other (s : State) (r q : Reg) (v : Word) (h : q ≠ r) :
    (s.setReg r v).reg q = s.reg q := by
  have h' : r.val ≠ q.val := fun e => h (Fin.ext e.symm)
  simp [State.reg, h']

/-- R21: a write of a part leaves the other registers alone. -/
theorem reg_setRegLow_other {w : Nat} (s : State) (r q : Reg) (v : BitVec w) (h : q ≠ r) :
    (s.setRegLow r v).reg q = s.reg q := reg_setReg_other s r q _ h

/-! ## Reset -/

theorem reset_inv_mem : State.reset.mem.wf = true := rfl

end Sys2Proof.Machine
end

