-- ==== Sys2Proof/Laws/Memory.lean ====
section
/-! SUPPORT. The laws of memory: a read after a write, the canonical form, and what an access to the
address space can do. -/

namespace Sys2Proof.Machine

/-! ## Cells -/

theorem get_cons (m : Memory) (a b : Nat) (v : Byte) (h : m.get a = Memory.unlisted) :
    (Memory.cons a v m).get b = if b = a then v else m.get b := by
  unfold Memory.cons
  by_cases hb : b = a
  · subst hb
    split
    · next hv => rw [if_pos rfl, h, hv]
    · simp [Memory.get]
  · rw [if_neg hb]
    split
    · rfl
    · simp [Memory.get, Ne.symm hb]

/-- A write leaves every other byte alone, in any form of memory. -/
theorem get_set_other (m : Memory) (a b : Nat) (v : Byte) (h : b ≠ a) :
    (m.set a v).get b = m.get b := by
  induction m with
  | nil =>
    simp only [Memory.set, Memory.cons]
    split
    · rfl
    · simp [Memory.get, Ne.symm h]
  | cons c m ih =>
    obtain ⟨k, x⟩ := c
    simp only [Memory.set]
    split
    · unfold Memory.cons
      split
      · rfl
      · simp [Memory.get, Ne.symm h]
    · split
      · next hk =>
        unfold Memory.cons
        subst hk
        split <;> simp [Memory.get, Ne.symm h]
      · simp only [Memory.get]
        split
        · rfl
        · exact ih

theorem all_lt_of_wf {k : Nat} {x : Byte} {m : Memory} (h : Memory.wf ((k, x) :: m) = true) :
    ∀ c ∈ m, k < c.1 := by
  simp only [Memory.wf, Bool.and_eq_true, List.all_eq_true, decide_eq_true_eq] at h
  exact h.1.2

theorem wf_tail {k : Nat} {x : Byte} {m : Memory} (h : Memory.wf ((k, x) :: m) = true) :
    m.wf = true := by
  simp only [Memory.wf, Bool.and_eq_true] at h
  exact h.2

/-- A byte below every listed address is unlisted. -/
theorem get_below (m : Memory) (a : Nat) (h : ∀ c ∈ m, a < c.1) : m.get a = Memory.unlisted := by
  induction m with
  | nil => rfl
  | cons c m ih =>
    obtain ⟨k, x⟩ := c
    have hk : a < k := h (k, x) (by simp)
    simp only [Memory.get]
    rw [if_neg (by omega)]
    exact ih fun c hc => h c (by simp [hc])

theorem wf_cons (a : Nat) (v : Byte) (m : Memory) (ha : a < 2 ^ 32) (hm : m.wf = true)
    (hl : ∀ c ∈ m, a < c.1) : (Memory.cons a v m).wf = true := by
  unfold Memory.cons
  split
  · exact hm
  · next hv =>
    simp only [Memory.wf, Bool.and_eq_true, decide_eq_true_eq, List.all_eq_true]
    exact ⟨⟨⟨ha, hv⟩, hl⟩, hm⟩

theorem mem_set_le (m : Memory) (a : Nat) (v : Byte) (c : Host.Cell) (h : c ∈ m.set a v) :
    c ∈ m ∨ c.1 = a := by
  induction m with
  | nil =>
    simp only [Memory.set, Memory.cons] at h
    split at h <;> simp_all
  | cons d m ih =>
    obtain ⟨k, x⟩ := d
    simp only [Memory.set] at h
    split at h
    · unfold Memory.cons at h
      split at h
      · exact .inl h
      · rcases List.mem_cons.1 h with h | h
        · exact .inr (by rw [h])
        · exact .inl h
    · split at h
      · unfold Memory.cons at h
        split at h
        · exact .inl (by simp [h])
        · rcases List.mem_cons.1 h with h | h
          · exact .inr (by rw [h])
          · exact .inl (by simp [h])
      · rcases List.mem_cons.1 h with h | h
        · exact .inl (by simp [h])
        · rcases ih h with h | h
          · exact .inl (by simp [h])
          · exact .inr h

/-- Every write keeps the canonical form. -/
theorem wf_set (m : Memory) (a : Nat) (v : Byte) (ha : a < 2 ^ 32) (hm : m.wf = true) :
    (m.set a v).wf = true := by
  induction m with
  | nil => exact wf_cons a v [] ha rfl (by simp)
  | cons c m ih =>
    obtain ⟨k, x⟩ := c
    have hl := all_lt_of_wf hm
    have ht := wf_tail hm
    simp only [Memory.set]
    split
    · next hk =>
      refine wf_cons a v _ ha hm fun c hc => ?_
      rcases List.mem_cons.1 hc with h | h
      · rw [h]; exact hk
      · exact Nat.lt_trans hk (hl c h)
    · split
      · next hk => subst hk; exact wf_cons a v m ha ht hl
      · next h1 h2 =>
        have hx := hm
        simp only [Memory.wf, Bool.and_eq_true, decide_eq_true_eq, List.all_eq_true] at hx ⊢
        refine ⟨⟨hx.1.1, fun c hc => ?_⟩, ih ht⟩
        rcases mem_set_le m a v c hc with h | h
        · exact hl c h
        · rw [h]; omega

/-- A read after a write to the same place gives the value written. -/
theorem get_set_same (m : Memory) (a : Nat) (v : Byte) (hm : m.wf = true) : (m.set a v).get a = v := by
  induction m with
  | nil => rw [Memory.set, get_cons [] a a v rfl]; simp
  | cons c m ih =>
    obtain ⟨k, x⟩ := c
    have hl := all_lt_of_wf hm
    simp only [Memory.set]
    split
    · next hk =>
      rw [get_cons _ a a v, if_pos rfl]
      refine get_below _ a fun c hc => ?_
      rcases List.mem_cons.1 hc with h | h
      · rw [h]; exact hk
      · exact Nat.lt_trans hk (hl c h)
    · split
      · next hk =>
        subst hk
        rw [get_cons _ a a v (get_below m a hl), if_pos rfl]
      · next h1 h2 =>
        simp only [Memory.get]
        rw [if_neg (by omega)]
        exact ih (wf_tail hm)

/-! ## Accesses -/

theorem accessible_of_xlate_nil (s : State) (h : s.xlate = []) : s.accessible := by
  intro k u va
  simp [State.translate, State.region, h]

/-- Translation depends on the parameter `Translate` alone. -/
theorem translate_congr {s t : State} (h : t.xlate = s.xlate) : t.translate = s.translate := by
  funext k u va
  simp [State.translate, State.region, h]

theorem accessible_congr {s t : State} (h : t.xlate = s.xlate) (hs : s.accessible) : t.accessible := by
  intro k u va
  rw [translate_congr h]
  exact hs k u va

theorem readByte_ok {s : State} (hs : s.accessible) (k : Access) (u : Bool) (va : Word) :
    ∃ b, s.readByte k u va = .ok b := by
  unfold State.readByte
  cases h : s.translate k u va with
  | none => exact absurd h (hs k u va)
  | some pa => exact ⟨_, rfl⟩

theorem readBytes_ok {s : State} (hs : s.accessible) (k : Access) (u : Bool) (n : Nat) (va : Word) :
    ∃ v, s.readBytes k u va n = .ok v := by
  induction n generalizing va with
  | zero => exact ⟨0, rfl⟩
  | succ n ih =>
    obtain ⟨b, hb⟩ := readByte_ok hs k u va
    obtain ⟨v, hv⟩ := ih (va + 1)
    exact ⟨_, by simp only [State.readBytes, hb, hv]; rfl⟩

/-- Where every access is translated, a read answers. -/
theorem read_ok {s : State} (hs : s.accessible) (w : Nat) (va : Word) (k : Access) (u : Bool) :
    ∃ v, s.read w va k u = .ok v := by
  obtain ⟨v, hv⟩ := readBytes_ok hs k u (w / 8) va
  exact ⟨_, by simp only [State.read, hv]; rfl⟩

/-- ALL THAT A WRITE OF BYTES CAN DO: memory changes, nowhere but at the bytes' physical addresses, and
stays in canonical form. -/
theorem writeBytes_spec {k : Access} {u : Bool} {n : Nat} {va : Word} {v : Nat} {s t : State}
    (h : State.writeBytes k u n va v s = .ok t) :
    (∃ m, t = { s with mem := m }) ∧
    (∀ pa, (¬ ∃ j q, j < n ∧ s.translate k u (va + BitVec.ofNat 32 j) = some q ∧ pa = q.toNat) →
      t.mem.get pa = s.mem.get pa) ∧
    (s.mem.wf = true → t.mem.wf = true) := by
  induction n generalizing va v s with
  | zero =>
    simp only [State.writeBytes, Except.ok.injEq] at h
    subst h
    exact ⟨⟨s.mem, rfl⟩, fun _ _ => rfl, id⟩
  | succ n ih =>
    simp only [State.writeBytes, State.writeByte] at h
    cases ht : s.translate k u va with
    | none => simp [ht] at h
    | some pa0 =>
      simp only [ht] at h
      obtain ⟨⟨m, hm⟩, hget, hwf⟩ := ih h
      refine ⟨⟨m, hm⟩, fun pa hpa => ?_, fun hw => hwf (wf_set _ _ _ pa0.isLt hw)⟩
      rw [hget pa]
      · refine get_set_other _ _ _ _ fun e => hpa ⟨0, pa0, by omega, ?_, e⟩
        simpa using ht
      · rintro ⟨j, q, hj, hq, e⟩
        refine hpa ⟨j + 1, q, by omega, ?_, e⟩
        rw [show va + BitVec.ofNat 32 (j + 1) = va + 1 + BitVec.ofNat 32 j by
          rw [BitVec.add_assoc]; congr 1; simp [BitVec.ofNat_add, BitVec.add_comm]]
        exact hq

theorem writeBytes_ok {s : State} (hs : s.accessible) (k : Access) (u : Bool) (n : Nat) (va : Word)
    (v : Nat) : ∃ t, State.writeBytes k u n va v s = .ok t := by
  induction n generalizing va v s with
  | zero => exact ⟨s, rfl⟩
  | succ n ih =>
    simp only [State.writeBytes, State.writeByte]
    cases h : s.translate k u va with
    | none => exact absurd h (hs k u va)
    | some pa => exact ih (s := { s with mem := s.mem.set pa.toNat _ }) (accessible_congr rfl hs) _ _

/-- Where every access is translated, a write answers. -/
theorem write_ok {w : Nat} {s : State} (hs : s.accessible) (va : Word) (v : BitVec w) (k : Access)
    (u : Bool) : ∃ t, s.write va v k u = .ok t := writeBytes_ok hs k u _ _ _

/-- All that a write can do. -/
theorem write_spec {w : Nat} {s t : State} {va : Word} {v : BitVec w} {k : Access} {u : Bool}
    (h : s.write va v k u = .ok t) :
    (∃ m, t = { s with mem := m }) ∧
    (∀ pa, (¬ ∃ j q, j < w / 8 ∧ s.translate k u (va + BitVec.ofNat 32 j) = some q ∧ pa = q.toNat) →
      t.mem.get pa = s.mem.get pa) ∧
    (s.mem.wf = true → t.mem.wf = true) := writeBytes_spec h

/-- All that a push can do: the selected stack pointer goes down, and the bytes it then points at are
written. -/
theorem push_spec {w : Nat} {s t : State} {v : BitVec w} (h : s.push v = .ok t) :
    (∃ m, t = { s.setSp (s.sp - BitVec.ofNat 32 (w / 8)) with mem := m }) ∧
    (∀ pa, (¬ ∃ j q, j < w / 8 ∧ s.translate .write s.flagU
        (s.sp - BitVec.ofNat 32 (w / 8) + BitVec.ofNat 32 j) = some q ∧ pa = q.toNat) →
      t.mem.get pa = s.mem.get pa) ∧
    (s.mem.wf = true → t.mem.wf = true) := by
  have hx : (s.setSp (s.sp - BitVec.ofNat 32 (w / 8))).translate = s.translate :=
    translate_congr (by simp)
  have hu : (s.setSp (s.sp - BitVec.ofNat 32 (w / 8))).flagU = s.flagU := by simp [State.flagU]
  have := write_spec h
  rw [hx, hu] at this
  simpa using this

theorem push_ok {w : Nat} {s : State} (hs : s.accessible) (v : BitVec w) : ∃ t, s.push v = .ok t :=
  write_ok (accessible_congr (by simp) hs) _ _ _ _

/-- All that a pop can do: the selected stack pointer goes up. -/
theorem pop_spec {w : Nat} {s t : State} {v : BitVec w} (h : s.pop w = .ok (v, t)) :
    s.read w s.sp = .ok v ∧ t = s.setSp (s.sp + BitVec.ofNat 32 (w / 8)) := by
  unfold State.pop at h
  split at h <;> simp_all

theorem pop_ok {s : State} (hs : s.accessible) (w : Nat) : ∃ r, s.pop w = .ok r := by
  obtain ⟨v, hv⟩ := read_ok hs w s.sp .read s.flagU
  exact ⟨_, by simp only [State.pop, hv]; rfl⟩

end Sys2Proof.Machine
end

