-- ==== Sys2Proof/Laws/Operands.lean ====
section
/-! SUPPORT. What evaluating, reading and writing a general operand can do, said once for each shared
operation. -/

namespace Sys2Proof.Machine

/-! ## Addresses -/

/-- A computation that answers has answered at each of its parts. -/
theorem bind_eq_ok {ε α β : Type} {x : Except ε α} {f : α → Except ε β} {b : β}
    (h : x >>= f = .ok b) : ∃ a, x = .ok a ∧ f a = .ok b := by
  cases x with
  | error e => cases h
  | ok a => exact ⟨a, rfl, h⟩

/-- An operand that is no immediate has an address, where every access is translated. -/
theorem modeAddr_ok {s : State} (hs : s.accessible) (spi : Word) (m : Mode) (hm : ∀ v, m ≠ .imm v) :
    ∃ a, modeAddr spi s m = .ok a := by
  have rd : ∀ va, ∃ v, s.read 32 va = .ok v := fun va => read_ok hs 32 va _ _
  cases m with
  | imm v => exact absurd rfl (hm v)
  | frameRel d1 d2 =>
    obtain ⟨p, hp⟩ := rd (s.fp + dispValue d1)
    exact ⟨_, by simp only [modeAddr, hp]; rfl⟩
  | stackRel d1 d2 =>
    obtain ⟨p, hp⟩ := rd (spi + dispValue d1)
    exact ⟨_, by simp only [modeAddr, hp]; rfl⟩
  | staticRel d1 d2 =>
    obtain ⟨p, hp⟩ := rd (s.sb + dispValue d1)
    exact ⟨_, by simp only [modeAddr, hp]; rfl⟩
  | ext d1 d2 =>
    obtain ⟨lb, hl⟩ := rd (s.mod.setWidth 32 + 4)
    obtain ⟨p, hp⟩ := rd (lb + 4 * dispValue d1)
    refine ⟨p + dispValue d2, ?_⟩
    show (s.read 32 (s.mod.setWidth 32 + 4)).bind _ = _
    rw [hl]
    show (s.read 32 (lb + 4 * dispValue d1)).bind _ = _
    rw [hp]
    rfl
  | _ => exact ⟨_, rfl⟩

theorem not_imm_of_wellFormed {m : Mode} (h : m.wellFormed none = true) : ∀ v, m ≠ .imm v := by
  rintro v rfl
  simp [Mode.wellFormed] at h

/-- `EA` of a well-formed operand of a class other than read. -/
theorem genAddr_ok {s : State} (hs : s.accessible) (spi : Word) {t : Attr} {g : Gen}
    (ht : t.immSize = none) (h : g.wellFormed t = true) : ∃ a, genAddr spi s g = .ok a := by
  cases g with
  | plain m =>
    rw [Gen.wellFormed, ht] at h
    exact modeAddr_ok hs spi m (not_imm_of_wellFormed h)
  | indexed sc m r =>
    obtain ⟨a, ha⟩ := modeAddr_ok hs spi m (not_imm_of_wellFormed h)
    exact ⟨_, by simp only [genAddr, ha]; rfl⟩

theorem genAddr_indexed_ok {s : State} (hs : s.accessible) (spi : Word) {t : Attr} {sc : Size}
    {m : Mode} {r : Reg} (h : (Gen.indexed sc m r).wellFormed t = true) :
    ∃ a, genAddr spi s (.indexed sc m r) = .ok a := by
  obtain ⟨a, ha⟩ := modeAddr_ok hs spi m (not_imm_of_wellFormed h)
  exact ⟨_, by simp only [genAddr, ha]; rfl⟩

/-! ## Reading -/

/-- What is read and what is left: a location in memory that is read changes nothing. -/
theorem readMem_spec {w : Nat} {s t : State} {spi : Word} {g : Gen} {x : BitVec w}
    (h : (do let a ← genAddr spi s g; let v ← s.read w a; Except.ok (v, s)) = .ok (x, t)) :
    t = s := by
  cases ha : genAddr spi s g with
  | error e => rw [ha] at h; cases h
  | ok a =>
    rw [ha] at h
    change (s.read w a).bind _ = _ at h
    cases hv : s.read w a with
    | error e => rw [hv] at h; cases h
    | ok v => rw [hv] at h; cases h; rfl

/-- ALL THAT READING AN OPERAND CAN DO to the state: nothing; a pop; or, for a pair that an odd register
names, a free value drawn (U8). -/
theorem readGen_spec {f : File} {w : Nat} {spi : Word} {g : Gen} {s t : State} {x : BitVec w}
    (h : readGen f w spi g s = .ok (x, t)) :
    t = s ∨ (g = .plain .tos ∧ t = s.setSp (s.sp + BitVec.ofNat 32 (w / 8))) ∨
      (∃ r : Reg, g = .plain (.reg r) ∧ f = .pair ∧ r.val % 2 = 1 ∧ t = (s.draw w).2) := by
  cases g with
  | indexed sc m r => exact .inl (readMem_spec h)
  | plain m =>
    cases m with
    | reg r =>
      simp only [readGen, Except.ok.injEq] at h
      cases f with
      | int => cases h; exact .inl rfl
      | float => cases h; exact .inl rfl
      | pair =>
        simp only [readReg] at h
        split at h
        · cases h; exact .inl rfl
        · next hr => exact .inr (.inr ⟨r, rfl, rfl, by omega, by rw [h]⟩)
    | imm v => cases h; exact .inl rfl
    | tos => exact .inr (.inl ⟨rfl, (pop_spec h).2⟩)
    | _ => exact .inl (readMem_spec h)

theorem readMem_ok {s : State} (hs : s.accessible) (w : Nat) {spi : Word} {g : Gen} {a : Word}
    (ha : genAddr spi s g = .ok a) :
    ∃ r, (do let a ← genAddr spi s g; let v ← s.read w a; Except.ok (v, s)) =
      (.ok r : Except Stop (BitVec w × State)) := by
  obtain ⟨v, hv⟩ := read_ok hs w a .read s.flagU
  refine ⟨(v, s), ?_⟩
  rw [ha]
  change (s.read w a).bind _ = _
  rw [hv]
  rfl

/-- A well-formed operand can be read, where every access is translated. -/
theorem readGen_ok {s : State} (hs : s.accessible) (f : File) (w : Nat) (spi : Word) {t : Attr}
    {g : Gen} (h : g.wellFormed t = true) : ∃ x s₁, readGen f w spi g s = .ok (x, s₁) := by
  cases g with
  | indexed sc m r =>
    obtain ⟨a, ha⟩ := genAddr_indexed_ok hs spi h
    obtain ⟨⟨x, t⟩, hx⟩ := readMem_ok hs w ha
    exact ⟨x, t, hx⟩
  | plain m =>
    have fromMem : (∀ v, m ≠ .imm v) → ∃ a, genAddr spi s (.plain m) = .ok a :=
      fun hm => modeAddr_ok hs spi m hm
    cases m with
    | reg r => exact ⟨_, _, rfl⟩
    | imm v => exact ⟨_, _, rfl⟩
    | tos =>
      obtain ⟨⟨x, t⟩, hx⟩ := pop_ok hs w
      exact ⟨x, t, hx⟩
    | _ =>
      obtain ⟨a, ha⟩ := fromMem (by simp)
      obtain ⟨⟨x, t⟩, hx⟩ := readMem_ok hs w ha
      exact ⟨x, t, hx⟩

/-! ## Locations -/

/-- The location of a destination of class write is found, where every access is translated. -/
theorem writeLoc_ok {s : State} (hs : s.accessible) (f : File) (spi : Word) {t : Attr} {g : Gen}
    (ht : t.immSize = none) (h : g.wellFormed t = true) : ∃ l, writeLoc f spi g s = .ok l := by
  obtain ⟨a, ha⟩ := genAddr_ok hs spi ht h
  cases g with
  | indexed sc m r => exact ⟨_, by simp only [writeLoc, ha]; rfl⟩
  | plain m =>
    cases m with
    | reg r => exact ⟨_, rfl⟩
    | tos => exact ⟨_, rfl⟩
    | _ => exact ⟨_, by simp only [writeLoc, ha]; rfl⟩

/-- The location of a destination of class rmw is found, where every access is translated. -/
theorem rmwLoc_ok {s : State} (hs : s.accessible) (f : File) (spi : Word) {t : Attr} {g : Gen}
    (ht : t.immSize = none) (h : g.wellFormed t = true) : ∃ l, rmwLoc f spi g s = .ok l := by
  obtain ⟨a, ha⟩ := genAddr_ok hs spi ht h
  cases g with
  | indexed sc m r => exact ⟨_, by simp only [rmwLoc, ha]; rfl⟩
  | plain m =>
    cases m with
    | reg r => exact ⟨_, rfl⟩
    | _ => exact ⟨_, by simp only [rmwLoc, ha]; rfl⟩

/-- Reading a location changes nothing but, for a pair that an odd register names, the count of free
values. -/
theorem readAt_spec {w : Nat} {l : Loc} {s t : State} {x : BitVec w} (h : readAt w l s = .ok (x, t)) :
    t = s ∨ t = (s.draw w).2 := by
  cases l with
  | reg r => cases h; exact .inl rfl
  | freg r => cases h; exact .inl rfl
  | push => cases h; exact .inl rfl
  | pair r =>
    simp only [readAt, Except.ok.injEq, readReg] at h
    split at h
    · cases h; exact .inl rfl
    · exact .inr (by rw [h])
  | mem a k =>
    change (s.read w a k).bind _ = _ at h
    cases hv : s.read w a k with
    | error e => rw [hv] at h; cases h
    | ok v => rw [hv] at h; cases h; exact .inl rfl

theorem readAt_ok {s : State} (hs : s.accessible) (w : Nat) (l : Loc) :
    ∃ x t, readAt w l s = .ok (x, t) := by
  cases l with
  | mem a k =>
    obtain ⟨v, hv⟩ := read_ok hs w a k s.flagU
    refine ⟨v, s, ?_⟩
    change (s.read w a k).bind _ = _
    rw [hv]
    rfl
  | _ => exact ⟨_, _, rfl⟩

/-- The first bytes of a value that is read. -/
theorem readBytes_prefix {s : State} {k : Access} {u : Bool} {n m v : Nat} {va : Word}
    (h : s.readBytes k u va (n + m) = .ok v) : s.readBytes k u va n = .ok (v % 256 ^ n) := by
  induction n generalizing va v with
  | zero => simp [State.readBytes, Nat.mod_one]
  | succ n ih =>
    rw [Nat.succ_add] at h
    simp only [State.readBytes] at h ⊢
    cases hb : s.readByte k u va with
    | error e => simp [hb] at h
    | ok b =>
      simp only [hb] at h ⊢
      cases hr : s.readBytes k u (va + 1) (n + m) with
      | error e => rw [hr] at h; cases h
      | ok x =>
        simp only [hr, Except.ok.injEq] at h
        have := b.isLt
        rw [ih hr, ← h, Nat.pow_succ, Nat.mul_comm (256 ^ n), Nat.mod_mul]
        rw [Nat.add_mul_mod_self_left, Nat.mod_eq_of_lt b.isLt,
          show (b.toNat + 256 * x) / 256 = x by omega]

/-- The low half of an operand of twice the length is what reading it alone gives, and as much of the
state changes (R213). -/
theorem readLowHalf_of_readAt {w : Nat} {l : Loc} {s t : State} {y : BitVec (2 * w)} (hw : w % 8 = 0)
    (hl : (∃ r, l = .pair r) ∨ ∃ a k, l = .mem a k) (h : readAt (2 * w) l s = .ok (y, t)) :
    readLowHalf w l s = .ok (y.setWidth w, t) := by
  rcases hl with ⟨r, rfl⟩ | ⟨a, k, rfl⟩
  · simp only [readAt, readReg, Except.ok.injEq] at h
    by_cases hr : r.val % 2 = 0
    · simp only [hr, if_true, Prod.mk.injEq] at h
      obtain ⟨rfl, rfl⟩ := h
      simp only [readLowHalf, hr, if_true]
      congr 2
      ext i hi
      have h2 : 2 * w / 2 = w := by omega
      simp [BitVec.getLsbD_append, h2, hi, show i < 2 * w by omega]
    · simp only [hr, if_false] at h
      cases h
      simp only [readLowHalf, hr, if_false, State.draw]
      congr 2
      ext i hi
      simp [show i < 2 * w by omega]
  · obtain ⟨x, hx, h⟩ := bind_eq_ok h
    cases h
    simp only [State.read] at hx
    cases hb : s.readBytes k s.flagU a (2 * w / 8) with
    | error e => simp [hb] at hx
    | ok v =>
      simp only [hb, Except.ok.injEq] at hx
      subst hx
      have := readBytes_prefix (n := w / 8) (m := w / 8) (v := v)
        (by rw [← hb, show w / 8 + w / 8 = 2 * w / 8 by omega])
      change (s.read w a k).bind _ = _
      simp only [State.read, this, Except.bind]
      congr 2
      apply BitVec.eq_of_toNat_eq
      have h256 : 256 ^ (w / 8) = 2 ^ w := by
        rw [show (256 : Nat) = 2 ^ 8 by rfl, ← Nat.pow_mul, show 8 * (w / 8) = w by omega]
      simp [h256, Nat.mod_mod_of_dvd _ (Nat.pow_dvd_pow 2 (show w ≤ 2 * w by omega))]

/-! ## Writing -/

/-- A location can be written, where every access is translated. -/
theorem writeAt_ok {w : Nat} {s : State} (hs : s.accessible) (l : Loc) (v : BitVec w) :
    ∃ t, writeAt l v s = .ok t := by
  cases l with
  | mem a k => exact write_ok hs a v k s.flagU
  | push => exact push_ok hs v
  | _ => exact ⟨_, rfl⟩

/-- ALL THAT WRITING A LOCATION CAN DO: only the registers that it touches, the bytes that it stores to,
the stack pointer for a push, FSR.RMB for a floating-point register, and the count of free values. -/
theorem writeAt_spec {w : Nat} {l : Loc} {v : BitVec w} {s t : State} (h : writeAt l v s = .ok t) :
    (∃ m sp0 sp1 fsr fd regs n, t = { s with
      mem := m, sp0 := sp0, sp1 := sp1, fsr := fsr, fd := fd, regs := regs, freeCount := n }) ∧
    (∀ r, ¬ l.touchesReg r → t.reg r = s.reg r) ∧
    (∀ r : Reg, ¬ l.touchesFloat w r → t.fd[r] = s.fd[r]) ∧
    ((∀ r, l ≠ .freg r) → t.fsr = s.fsr) ∧
    (l ≠ .push → t.sp0 = s.sp0 ∧ t.sp1 = s.sp1) ∧
    (if s.flagS then t.sp0 = s.sp0 else t.sp1 = s.sp1) ∧
    (∀ pa, ¬ l.stores w s pa → t.mem.get pa = s.mem.get pa) ∧
    (s.mem.wf = true → t.mem.wf = true) := by
  have hsp : ∀ u : State, u.sp0 = s.sp0 → u.sp1 = s.sp1 →
      (if s.flagS then u.sp0 = s.sp0 else u.sp1 = s.sp1) := by
    intro u h0 h1; split <;> assumption
  cases l with
  | reg r =>
    cases h
    exact ⟨⟨_, _, _, _, _, _, _, rfl⟩, fun q hq => reg_setReg_other s r q _ hq, fun _ _ => rfl,
      fun _ => rfl, fun _ => ⟨rfl, rfl⟩, hsp _ rfl rfl, fun _ _ => rfl, id⟩
  | pair r =>
    cases h
    by_cases hr : r.val % 2 = 0
    · simp only [writePair, hr, if_true]
      refine ⟨⟨_, _, _, _, _, _, _, rfl⟩, fun q hq => ?_, fun _ _ => rfl,
        fun _ => rfl, fun _ => ⟨rfl, rfl⟩, hsp _ rfl rfl, fun _ _ => rfl, id⟩
      simp only [Loc.touchesReg, not_or] at hq
      rw [reg_setRegLow_other _ _ _ _ hq.2.2, reg_setRegLow_other _ _ _ _ hq.2.1]
    · simp only [writePair, hr, if_false]
      refine ⟨⟨_, _, _, _, _, _, _, rfl⟩, fun q hq => ?_, fun _ _ => rfl,
        fun _ => rfl, fun _ => ⟨rfl, rfl⟩, hsp _ rfl rfl, fun _ _ => rfl, id⟩
      simp only [Loc.touchesReg, not_or] at hq
      omega
  | freg r =>
    cases h
    refine ⟨⟨_, _, _, _, _, _, _, rfl⟩, fun _ _ => rfl, fun q hq => ?_,
      fun hl => absurd rfl (hl r), fun _ => ⟨rfl, rfl⟩, hsp _ rfl rfl, fun _ _ => rfl, id⟩
    simp only [Loc.touchesFloat] at hq
    simp only [State.setFreg]
    split
    · next hw =>
      rw [if_pos hw] at hq
      have : (evenOf r).val ≠ q.val := fun e => hq (Fin.ext e.symm)
      simp [this]
    · next hw =>
      rw [if_neg hw] at hq
      have : r.val ≠ q.val := fun e => hq (Fin.ext e.symm)
      simp [this]
  | mem a k =>
    obtain ⟨⟨m, hm⟩, hg, hw⟩ := write_spec h
    refine ⟨⟨m, s.sp0, s.sp1, s.fsr, s.fd, s.regs, s.freeCount, hm⟩, ?_, ?_, ?_, ?_, ?_, hg, hw⟩
    all_goals subst hm
    · exact fun _ _ => rfl
    · exact fun _ _ => rfl
    · exact fun _ => rfl
    · exact fun _ => ⟨rfl, rfl⟩
    · exact hsp _ rfl rfl
  | push =>
    obtain ⟨⟨m, hm⟩, hg, hw⟩ := push_spec h
    refine ⟨?_, ?_, ?_, ?_, ?_, ?_, hg, hw⟩
    · refine ⟨m, (s.setSp (s.sp - BitVec.ofNat 32 (w / 8))).sp0,
        (s.setSp (s.sp - BitVec.ofNat 32 (w / 8))).sp1, s.fsr, s.fd, s.regs, s.freeCount, ?_⟩
      rw [hm]
      unfold State.setSp
      split <;> rfl
    · intro r _; rw [hm]; simp [State.reg]
    · intro r _; rw [hm]; simp
    · intro _; rw [hm]; simp
    · exact fun h => absurd rfl h
    · rw [hm]; simp; split <;> simp_all

/-! ## Lengths -/

theorem leBytes_length (k w : Nat) : (leBytes k w).length = k := by
  induction k generalizing w with
  | zero => rfl
  | succ k ih => simp [leBytes, ih]

/-- The length of an instruction, from its parts (R128). -/
theorem length_eq (i : Instr) :
    i.length = lenOf (layout i).basic ((layout i).operands.map (·.2)) (layout i).tail := by
  simp only [Instr.length, encode, Layout.bytes, lenOf, List.length_append, leBytes_length,
    List.length_flatMap, List.map_map]
  have : ((layout i).operands.map fun a => a.2.indexBytes.length).sum +
      ((layout i).operands.map fun a => a.2.extension.length).sum =
      ((layout i).operands.map (genLength ∘ fun x => x.2)).sum := by
    induction (layout i).operands with
    | nil => rfl
    | cons o os ih =>
      simp only [Function.comp_def, genLength, List.map_cons, List.sum_cons] at ih ⊢
      omega
  omega

end Sys2Proof.Machine
end

