-- ==== Sys2Proof/Laws/Exceptions.lean ====
section
/-! SUPPORT. Taking an exception: all that the entry sequence can do, and the state EntryFault. -/

namespace Sys2Proof.Machine

/-- The physical addresses of the eight bytes below the Interrupt Stack pointer, as Supervisor-mode
writes reach them: where an exception frame is pushed (R510). -/
def inFrame (s : State) (pa : Nat) : Prop :=
  ∃ j q, j < 8 ∧ s.translate .write false (s.sp0 - 8 + BitVec.ofNat 32 j) = some q ∧ pa = q.toNat

/-- A push on the frame changes SP0 and memory, and of memory only the frame. -/
theorem pushPart_spec {w : Nat} {s t : State} {m : Memory} {p n : Word} {v : BitVec w} (o : Nat)
    (h : State.write { s with mem := m, sp0 := p - n } (p - n) v .write false = .ok t)
    (ha : p - n = s.sp0 - 8 + BitVec.ofNat 32 o) (ho : o + w / 8 ≤ 8) :
    ∃ m', t = { s with mem := m', sp0 := p - n } ∧
      (∀ pa, ¬ inFrame s pa → m'.get pa = m.get pa) ∧ (m.wf = true → m'.wf = true) := by
  obtain ⟨⟨m', hm⟩, hg, hw⟩ := write_spec h
  rw [hm] at hg hw
  refine ⟨m', hm, fun pa hpa => hg pa ?_, hw⟩
  rintro ⟨j, q, hj, hq, e⟩
  refine hpa ⟨o + j, q, by omega, ?_, e⟩
  rw [BitVec.ofNat_add, ← BitVec.add_assoc, ← ha]
  exact hq

/-- ALL THAT PUSHING THE FRAME CAN DO: SP0 goes down by 8, and bytes of the frame change. -/
theorem pushFrame_spec {s t : State} {ret : Word} {image : BitVec 16}
    (h : pushFrame s ret image = .ok t) :
    ∃ m, t = { s with mem := m, sp0 := s.sp0 - 8 } ∧
      (∀ pa, ¬ inFrame s pa → m.get pa = s.mem.get pa) ∧ (s.mem.wf = true → m.wf = true) := by
  obtain ⟨s₁, h₁, h⟩ := bind_eq_ok h
  obtain ⟨m₁, h₁, g₁, w₁⟩ := pushPart_spec (s := s) (m := s.mem) 6 h₁ (by bv_omega) (by decide)
  rw [h₁] at h
  obtain ⟨s₂, h₂, h⟩ := bind_eq_ok h
  obtain ⟨m₂, h₂, g₂, w₂⟩ := pushPart_spec (s := s) (m := m₁) (p := s.sp0 - 2) 4 h₂
    (by bv_omega) (by decide)
  rw [h₂] at h
  obtain ⟨m₃, h₃, g₃, w₃⟩ := pushPart_spec (s := s) (m := m₂) (p := s.sp0 - 2 - 2) 0 h
    (by bv_omega) (by decide)
  refine ⟨m₃, ?_, fun pa hpa => (g₃ pa hpa).trans ((g₂ pa hpa).trans (g₁ pa hpa)),
    fun hw => w₃ (w₂ (w₁ hw))⟩
  rw [h₃, show s.sp0 - 8 = s.sp0 - 2 - 2 - 4 by bv_omega]

/-- ALL THAT EXCEPTION ENTRY CAN DO, where none of its accesses is refused: the frame is pushed, PSR is
cleared as R47 says, and PC, and without Direct-Exception mode MOD and SB, are loaded (R510, R512). -/
theorem enterException_spec {s t : State} {v : Nat} {ret : Word} {clearI : Bool} {image : BitVec 16}
    (h : enterException s v ret clearI image = .ok t) :
    ∃ m pc mod sb, t = { s with
      mem := m, sp0 := s.sp0 - 8, psr := enteredPsr s.psr clearI, waiting := false
      boundary := .trapped, pc := pc, mod := mod, sb := sb } ∧
      (s.cfgDE = true → mod = s.mod ∧ sb = s.sb) ∧
      (∀ pa, ¬ inFrame s pa → m.get pa = s.mem.get pa) ∧ (s.mem.wf = true → m.wf = true) := by
  obtain ⟨d, -, h⟩ := bind_eq_ok h
  by_cases hd : s.cfgDE = true
  · simp only [hd, if_true] at h
    obtain ⟨u, hu, h⟩ := bind_eq_ok h
    obtain ⟨m, rfl, g, w⟩ := pushFrame_spec hu
    cases h
    exact ⟨m, _, s.mod, s.sb, rfl, fun _ => ⟨rfl, rfl⟩, g, w⟩
  · simp only [hd] at h
    obtain ⟨sb, -, h⟩ := bind_eq_ok h
    obtain ⟨pb, -, h⟩ := bind_eq_ok h
    obtain ⟨u, hu, h⟩ := bind_eq_ok h
    obtain ⟨m, rfl, g, w⟩ := pushFrame_spec hu
    cases h
    exact ⟨m, _, _, sb, rfl, fun he => absurd he hd, g, w⟩

/-- Taking an exception always answers: what the entry sequence gives, or EntryFault (R513). -/
theorem takeException_spec (s : State) (v : Nat) (ret : Word) (clearI : Bool) (image : BitVec 16) :
    (∃ t, enterException s v ret clearI image = .ok t ∧
      takeException s v ret clearI image = .next t) ∨
    takeException s v ret clearI image = .next s.failEntry := by
  unfold takeException
  split
  · next h => exact .inl ⟨_, h, rfl⟩
  · exact .inr rfl

/-- After an exception nothing is sampled at the boundary (R524 line 3). -/
theorem takeException_boundary {s t : State} {v : Nat} {ret : Word} {clearI : Bool}
    {image : BitVec 16} (h : takeException s v ret clearI image = .next t) : t.boundary = .trapped := by
  rcases takeException_spec s v ret clearI image with ⟨u, hu, h'⟩ | h' <;> rw [h'] at h <;> cases h
  · obtain ⟨m, pc, mod, sb, rfl, -⟩ := enterException_spec hu
    rfl
  · rfl

/-- The step after an exception is taken ends there. -/
theorem settle_takeException (s : State) (v : Nat) (ret : Word) (clearI : Bool) (image : BitVec 16) :
    settle (takeException s v ret clearI image) = takeException s v ret clearI image := by
  rcases takeException_spec s v ret clearI image with ⟨u, -, h⟩ | h <;>
    simp only [h, settle, atBoundary, takeException_boundary h]

end Sys2Proof.Machine
end

