-- ==== Sys2Proof/Laws/Float.lean ====
section
/-! SUPPORT. The exact operations of floating-point arithmetic, as operations on rational numbers. -/

namespace Sys2Proof.Machine

theorem two_zpow_pos (e : ℤ) : (0 : ℚ) < 2 ^ e := zpow_pos (by norm_num) e

/-- The integer that a value is at an exponent not above its own. -/
theorem at_val (x : Exact) {e : ℤ} (h : e ≤ x.exp) : ((x.at e : ℤ) : ℚ) * 2 ^ e = x.val := by
  obtain ⟨k, hk⟩ := Int.eq_ofNat_of_zero_le (sub_nonneg.mpr h)
  have hp : (2 : ℚ) ^ x.exp = 2 ^ k * 2 ^ e := by
    rw [show x.exp = (k : ℤ) + e by omega, zpow_add₀ (by norm_num), zpow_natCast]
  simp only [Exact.at, Exact.val, hk, Int.toNat_natCast, hp, Nat.shiftLeft_eq]
  split <;> push_cast <;> ring

@[simp] theorem exactOf_val (n e : ℤ) : (exactOf n e).val = n * 2 ^ e := by
  simp only [exactOf, Exact.val, decide_eq_true_eq]
  rw [show ((n.natAbs : ℕ) : ℚ) = ((|n| : ℤ) : ℚ) by rw [Int.abs_eq_natAbs, Int.cast_natCast]]
  split
  · next h => rw [abs_of_neg h]; push_cast; ring
  · next h => rw [abs_of_nonneg (not_lt.mp h)]; ring

@[simp] theorem add_val (x y : Exact) : (x.add y).val = x.val + y.val := by
  rw [Exact.add, exactOf_val, ← at_val x (min_le_left x.exp y.exp), ← at_val y (min_le_right x.exp y.exp)]
  push_cast
  ring

@[simp] theorem mul_val (x y : Exact) : (x.mul y).val = x.val * y.val := by
  simp only [Exact.mul, Exact.val, zpow_add₀ (by norm_num : (2 : ℚ) ≠ 0)]
  by_cases hx : x.neg = true <;> by_cases hy : y.neg = true <;> simp [hx, hy] <;> ring

@[simp] theorem negate_val (x : Exact) : x.negate.val = -x.val := by
  simp only [Exact.negate, Exact.val]
  by_cases hx : x.neg = true <;> simp [hx]

theorem lt_iff (x y : Exact) : x.lt y = true ↔ x.val < y.val := by
  rw [← at_val x (min_le_left x.exp y.exp), ← at_val y (min_le_right x.exp y.exp)]
  simp only [Exact.lt, decide_eq_true_eq]
  rw [mul_lt_mul_iff_left₀ (two_zpow_pos _), Int.cast_lt]

theorem eq_iff (x y : Exact) : x.eq y = true ↔ x.val = y.val := by
  rw [← at_val x (min_le_left x.exp y.exp), ← at_val y (min_le_right x.exp y.exp)]
  simp only [Exact.eq, decide_eq_true_eq]
  rw [mul_left_inj' (two_zpow_pos _).ne', Int.cast_inj]

theorem abs_val (x : Exact) : |x.val| = x.mant * 2 ^ x.exp := by
  have h : (0 : ℚ) ≤ x.mant * 2 ^ x.exp := mul_nonneg (Nat.cast_nonneg _) (two_zpow_pos _).le
  simp only [Exact.val]
  split <;> rw [← abs_of_nonneg h] <;> simp [abs_mul]

/-- The exponent of the leading bit compares as the magnitude does. -/
theorem top_lt_iff (x : Exact) (h : x.mant ≠ 0) (j : ℤ) : x.top < j ↔ |x.val| < (2 : ℚ) ^ j := by
  rw [abs_val]
  have hl : (2 : ℚ) ^ x.mant.log2 ≤ x.mant := by exact_mod_cast Nat.log2_self_le h
  have hu : (x.mant : ℚ) < 2 ^ (x.mant.log2 + 1) := by exact_mod_cast Nat.lt_log2_self
  have e1 : (2 : ℚ) ^ x.top = 2 ^ x.mant.log2 * 2 ^ x.exp := by
    rw [Exact.top, add_comm, zpow_add₀ (by norm_num), zpow_natCast]
  constructor
  · intro hj
    calc (x.mant : ℚ) * 2 ^ x.exp < 2 ^ (x.mant.log2 + 1) * 2 ^ x.exp :=
          mul_lt_mul_of_pos_right hu (two_zpow_pos _)
      _ = 2 ^ (x.top + 1) := by rw [zpow_add₀ (by norm_num), e1, zpow_one]; ring
      _ ≤ 2 ^ j := zpow_le_zpow_right₀ (by norm_num) (by omega)
  · intro hj
    by_contra hc
    have : (2 : ℚ) ^ j ≤ 2 ^ x.top := zpow_le_zpow_right₀ (by norm_num) (not_lt.mp hc)
    rw [e1] at this
    have := mul_le_mul_of_nonneg_right hl (two_zpow_pos x.exp).le
    linarith

end Sys2Proof.Machine
end

