-- ==== Sys2Proof/Laws/PerInstr.lean ====
section
/-! SUPPORT. Facts about every instruction as syntax, one lemma per constructor. -/

namespace Sys2Proof.Laws

/-- The parts of an instruction are as many as R120 allows: a basic instruction of one to three bytes,
at most two general operands and at most two implied operands. -/
def Length.Statement (i : Instr) : Prop :=
  1 ≤ (layout i).basic ∧ (layout i).basic ≤ 3 ∧ (layout i).operands.length ≤ 2 ∧
    (layout i).tail.length ≤ 2

/-- The same as a check that computes. -/
theorem Length.of_check {i : Instr}
    (h : (Nat.ble 1 (layout i).basic && Nat.ble (layout i).basic 3 &&
      Nat.ble (layout i).operands.length 2 && Nat.ble (layout i).tail.length 2) = true) :
    Length.Statement i := by
  simp only [Bool.and_eq_true, Nat.ble_eq] at h
  exact ⟨h.1.1.1, h.1.1.2, h.1.2, h.2⟩

theorem Length.beq (d : Disp) : Length.Statement (.beq d) := of_check rfl
theorem Length.bne (d : Disp) : Length.Statement (.bne d) := of_check rfl
theorem Length.bcs (d : Disp) : Length.Statement (.bcs d) := of_check rfl
theorem Length.bcc (d : Disp) : Length.Statement (.bcc d) := of_check rfl
theorem Length.bhi (d : Disp) : Length.Statement (.bhi d) := of_check rfl
theorem Length.bls (d : Disp) : Length.Statement (.bls d) := of_check rfl
theorem Length.bgt (d : Disp) : Length.Statement (.bgt d) := of_check rfl
theorem Length.ble (d : Disp) : Length.Statement (.ble d) := of_check rfl
theorem Length.bfs (d : Disp) : Length.Statement (.bfs d) := of_check rfl
theorem Length.bfc (d : Disp) : Length.Statement (.bfc d) := of_check rfl
theorem Length.blo (d : Disp) : Length.Statement (.blo d) := of_check rfl
theorem Length.bhs (d : Disp) : Length.Statement (.bhs d) := of_check rfl
theorem Length.blt (d : Disp) : Length.Statement (.blt d) := of_check rfl
theorem Length.bge (d : Disp) : Length.Statement (.bge d) := of_check rfl
theorem Length.br (d : Disp) : Length.Statement (.br d) := of_check rfl
theorem Length.bsr (d : Disp) : Length.Statement (.bsr d) := of_check rfl
theorem Length.ret (d : Disp) : Length.Statement (.ret d) := of_check rfl
theorem Length.cxp (d : Disp) : Length.Statement (.cxp d) := of_check rfl
theorem Length.rxp (d : Disp) : Length.Statement (.rxp d) := of_check rfl
theorem Length.rett (d : Disp) : Length.Statement (.rett d) := of_check rfl
theorem Length.reti : Length.Statement (.reti) := of_check rfl
theorem Length.save (l : BitVec 8) : Length.Statement (.save l) := of_check rfl
theorem Length.restore (l : BitVec 8) : Length.Statement (.restore l) := of_check rfl
theorem Length.enter (l : BitVec 8) (d : Disp) : Length.Statement (.enter l d) := of_check rfl
theorem Length.exit (l : BitVec 8) : Length.Statement (.exit l) := of_check rfl
theorem Length.nop : Length.Statement (.nop) := of_check rfl
theorem Length.wait : Length.Statement (.wait) := of_check rfl
theorem Length.dia : Length.Statement (.dia) := of_check rfl
theorem Length.flag : Length.Statement (.flag) := of_check rfl
theorem Length.svc : Length.Statement (.svc) := of_check rfl
theorem Length.bpt : Length.Statement (.bpt) := of_check rfl
theorem Length.addqb (q : BitVec 4) (g : Gen) : Length.Statement (.addqb q g) := of_check rfl
theorem Length.addqw (q : BitVec 4) (g : Gen) : Length.Statement (.addqw q g) := of_check rfl
theorem Length.addqd (q : BitVec 4) (g : Gen) : Length.Statement (.addqd q g) := of_check rfl
theorem Length.cmpqb (q : BitVec 4) (g : Gen) : Length.Statement (.cmpqb q g) := of_check rfl
theorem Length.cmpqw (q : BitVec 4) (g : Gen) : Length.Statement (.cmpqw q g) := of_check rfl
theorem Length.cmpqd (q : BitVec 4) (g : Gen) : Length.Statement (.cmpqd q g) := of_check rfl
theorem Length.sprb (r : ProcReg) (g : Gen) : Length.Statement (.sprb r g) := of_check rfl
theorem Length.sprw (r : ProcReg) (g : Gen) : Length.Statement (.sprw r g) := of_check rfl
theorem Length.sprd (r : ProcReg) (g : Gen) : Length.Statement (.sprd r g) := of_check rfl
theorem Length.seqb (g : Gen) : Length.Statement (.seqb g) := of_check rfl
theorem Length.sneb (g : Gen) : Length.Statement (.sneb g) := of_check rfl
theorem Length.scsb (g : Gen) : Length.Statement (.scsb g) := of_check rfl
theorem Length.sccb (g : Gen) : Length.Statement (.sccb g) := of_check rfl
theorem Length.shib (g : Gen) : Length.Statement (.shib g) := of_check rfl
theorem Length.slsb (g : Gen) : Length.Statement (.slsb g) := of_check rfl
theorem Length.sgtb (g : Gen) : Length.Statement (.sgtb g) := of_check rfl
theorem Length.sleb (g : Gen) : Length.Statement (.sleb g) := of_check rfl
theorem Length.sfsb (g : Gen) : Length.Statement (.sfsb g) := of_check rfl
theorem Length.sfcb (g : Gen) : Length.Statement (.sfcb g) := of_check rfl
theorem Length.slob (g : Gen) : Length.Statement (.slob g) := of_check rfl
theorem Length.shsb (g : Gen) : Length.Statement (.shsb g) := of_check rfl
theorem Length.sltb (g : Gen) : Length.Statement (.sltb g) := of_check rfl
theorem Length.sgeb (g : Gen) : Length.Statement (.sgeb g) := of_check rfl
theorem Length.seqw (g : Gen) : Length.Statement (.seqw g) := of_check rfl
theorem Length.snew (g : Gen) : Length.Statement (.snew g) := of_check rfl
theorem Length.scsw (g : Gen) : Length.Statement (.scsw g) := of_check rfl
theorem Length.sccw (g : Gen) : Length.Statement (.sccw g) := of_check rfl
theorem Length.shiw (g : Gen) : Length.Statement (.shiw g) := of_check rfl
theorem Length.slsw (g : Gen) : Length.Statement (.slsw g) := of_check rfl
theorem Length.sgtw (g : Gen) : Length.Statement (.sgtw g) := of_check rfl
theorem Length.slew (g : Gen) : Length.Statement (.slew g) := of_check rfl
theorem Length.sfsw (g : Gen) : Length.Statement (.sfsw g) := of_check rfl
theorem Length.sfcw (g : Gen) : Length.Statement (.sfcw g) := of_check rfl
theorem Length.slow (g : Gen) : Length.Statement (.slow g) := of_check rfl
theorem Length.shsw (g : Gen) : Length.Statement (.shsw g) := of_check rfl
theorem Length.sltw (g : Gen) : Length.Statement (.sltw g) := of_check rfl
theorem Length.sgew (g : Gen) : Length.Statement (.sgew g) := of_check rfl
theorem Length.seqd (g : Gen) : Length.Statement (.seqd g) := of_check rfl
theorem Length.sned (g : Gen) : Length.Statement (.sned g) := of_check rfl
theorem Length.scsd (g : Gen) : Length.Statement (.scsd g) := of_check rfl
theorem Length.sccd (g : Gen) : Length.Statement (.sccd g) := of_check rfl
theorem Length.shid (g : Gen) : Length.Statement (.shid g) := of_check rfl
theorem Length.slsd (g : Gen) : Length.Statement (.slsd g) := of_check rfl
theorem Length.sgtd (g : Gen) : Length.Statement (.sgtd g) := of_check rfl
theorem Length.sled (g : Gen) : Length.Statement (.sled g) := of_check rfl
theorem Length.sfsd (g : Gen) : Length.Statement (.sfsd g) := of_check rfl
theorem Length.sfcd (g : Gen) : Length.Statement (.sfcd g) := of_check rfl
theorem Length.slod (g : Gen) : Length.Statement (.slod g) := of_check rfl
theorem Length.shsd (g : Gen) : Length.Statement (.shsd g) := of_check rfl
theorem Length.sltd (g : Gen) : Length.Statement (.sltd g) := of_check rfl
theorem Length.sged (g : Gen) : Length.Statement (.sged g) := of_check rfl
theorem Length.acbb (q : BitVec 4) (g : Gen) (d : Disp) : Length.Statement (.acbb q g d) := of_check rfl
theorem Length.acbw (q : BitVec 4) (g : Gen) (d : Disp) : Length.Statement (.acbw q g d) := of_check rfl
theorem Length.acbd (q : BitVec 4) (g : Gen) (d : Disp) : Length.Statement (.acbd q g d) := of_check rfl
theorem Length.movqb (q : BitVec 4) (g : Gen) : Length.Statement (.movqb q g) := of_check rfl
theorem Length.movqw (q : BitVec 4) (g : Gen) : Length.Statement (.movqw q g) := of_check rfl
theorem Length.movqd (q : BitVec 4) (g : Gen) : Length.Statement (.movqd q g) := of_check rfl
theorem Length.lprb (r : ProcReg) (g : Gen) : Length.Statement (.lprb r g) := of_check rfl
theorem Length.lprw (r : ProcReg) (g : Gen) : Length.Statement (.lprw r g) := of_check rfl
theorem Length.lprd (r : ProcReg) (g : Gen) : Length.Statement (.lprd r g) := of_check rfl
theorem Length.cxpd (g : Gen) : Length.Statement (.cxpd g) := of_check rfl
theorem Length.bicpsrb (g : Gen) : Length.Statement (.bicpsrb g) := of_check rfl
theorem Length.bicpsrw (g : Gen) : Length.Statement (.bicpsrw g) := of_check rfl
theorem Length.jump (g : Gen) : Length.Statement (.jump g) := of_check rfl
theorem Length.bispsrb (g : Gen) : Length.Statement (.bispsrb g) := of_check rfl
theorem Length.bispsrw (g : Gen) : Length.Statement (.bispsrw g) := of_check rfl
theorem Length.adjspb (g : Gen) : Length.Statement (.adjspb g) := of_check rfl
theorem Length.adjspw (g : Gen) : Length.Statement (.adjspw g) := of_check rfl
theorem Length.adjspd (g : Gen) : Length.Statement (.adjspd g) := of_check rfl
theorem Length.jsr (g : Gen) : Length.Statement (.jsr g) := of_check rfl
theorem Length.caseb (g : Gen) : Length.Statement (.caseb g) := of_check rfl
theorem Length.casew (g : Gen) : Length.Statement (.casew g) := of_check rfl
theorem Length.cased (g : Gen) : Length.Statement (.cased g) := of_check rfl
theorem Length.addb (a : Gen) (b : Gen) : Length.Statement (.addb a b) := of_check rfl
theorem Length.addw (a : Gen) (b : Gen) : Length.Statement (.addw a b) := of_check rfl
theorem Length.addd (a : Gen) (b : Gen) : Length.Statement (.addd a b) := of_check rfl
theorem Length.cmpb (a : Gen) (b : Gen) : Length.Statement (.cmpb a b) := of_check rfl
theorem Length.cmpw (a : Gen) (b : Gen) : Length.Statement (.cmpw a b) := of_check rfl
theorem Length.cmpd (a : Gen) (b : Gen) : Length.Statement (.cmpd a b) := of_check rfl
theorem Length.bicb (a : Gen) (b : Gen) : Length.Statement (.bicb a b) := of_check rfl
theorem Length.bicw (a : Gen) (b : Gen) : Length.Statement (.bicw a b) := of_check rfl
theorem Length.bicd (a : Gen) (b : Gen) : Length.Statement (.bicd a b) := of_check rfl
theorem Length.addcb (a : Gen) (b : Gen) : Length.Statement (.addcb a b) := of_check rfl
theorem Length.addcw (a : Gen) (b : Gen) : Length.Statement (.addcw a b) := of_check rfl
theorem Length.addcd (a : Gen) (b : Gen) : Length.Statement (.addcd a b) := of_check rfl
theorem Length.movb (a : Gen) (b : Gen) : Length.Statement (.movb a b) := of_check rfl
theorem Length.movw (a : Gen) (b : Gen) : Length.Statement (.movw a b) := of_check rfl
theorem Length.movd (a : Gen) (b : Gen) : Length.Statement (.movd a b) := of_check rfl
theorem Length.orb (a : Gen) (b : Gen) : Length.Statement (.orb a b) := of_check rfl
theorem Length.orw (a : Gen) (b : Gen) : Length.Statement (.orw a b) := of_check rfl
theorem Length.ord (a : Gen) (b : Gen) : Length.Statement (.ord a b) := of_check rfl
theorem Length.subb (a : Gen) (b : Gen) : Length.Statement (.subb a b) := of_check rfl
theorem Length.subw (a : Gen) (b : Gen) : Length.Statement (.subw a b) := of_check rfl
theorem Length.subd (a : Gen) (b : Gen) : Length.Statement (.subd a b) := of_check rfl
theorem Length.addr (a : Gen) (b : Gen) : Length.Statement (.addr a b) := of_check rfl
theorem Length.andb (a : Gen) (b : Gen) : Length.Statement (.andb a b) := of_check rfl
theorem Length.andw (a : Gen) (b : Gen) : Length.Statement (.andw a b) := of_check rfl
theorem Length.andd (a : Gen) (b : Gen) : Length.Statement (.andd a b) := of_check rfl
theorem Length.subcb (a : Gen) (b : Gen) : Length.Statement (.subcb a b) := of_check rfl
theorem Length.subcw (a : Gen) (b : Gen) : Length.Statement (.subcw a b) := of_check rfl
theorem Length.subcd (a : Gen) (b : Gen) : Length.Statement (.subcd a b) := of_check rfl
theorem Length.tbitb (a : Gen) (b : Gen) : Length.Statement (.tbitb a b) := of_check rfl
theorem Length.tbitw (a : Gen) (b : Gen) : Length.Statement (.tbitw a b) := of_check rfl
theorem Length.tbitd (a : Gen) (b : Gen) : Length.Statement (.tbitd a b) := of_check rfl
theorem Length.xorb (a : Gen) (b : Gen) : Length.Statement (.xorb a b) := of_check rfl
theorem Length.xorw (a : Gen) (b : Gen) : Length.Statement (.xorw a b) := of_check rfl
theorem Length.xord (a : Gen) (b : Gen) : Length.Statement (.xord a b) := of_check rfl
theorem Length.movsb (u : Until) (bk : Bool) : Length.Statement (.movsb u bk) := of_check rfl
theorem Length.movsw (u : Until) (bk : Bool) : Length.Statement (.movsw u bk) := of_check rfl
theorem Length.movsd (u : Until) (bk : Bool) : Length.Statement (.movsd u bk) := of_check rfl
theorem Length.movst (u : Until) (bk : Bool) : Length.Statement (.movst u bk) := of_check rfl
theorem Length.cmpsb (u : Until) (bk : Bool) : Length.Statement (.cmpsb u bk) := of_check rfl
theorem Length.cmpsw (u : Until) (bk : Bool) : Length.Statement (.cmpsw u bk) := of_check rfl
theorem Length.cmpsd (u : Until) (bk : Bool) : Length.Statement (.cmpsd u bk) := of_check rfl
theorem Length.cmpst (u : Until) (bk : Bool) : Length.Statement (.cmpst u bk) := of_check rfl
theorem Length.skpsb (u : Until) (bk : Bool) : Length.Statement (.skpsb u bk) := of_check rfl
theorem Length.skpsw (u : Until) (bk : Bool) : Length.Statement (.skpsw u bk) := of_check rfl
theorem Length.skpsd (u : Until) (bk : Bool) : Length.Statement (.skpsd u bk) := of_check rfl
theorem Length.skpst (u : Until) (bk : Bool) : Length.Statement (.skpst u bk) := of_check rfl
theorem Length.setcfg (k : BitVec 4) : Length.Statement (.setcfg k) := of_check rfl
theorem Length.rotb (a : Gen) (b : Gen) : Length.Statement (.rotb a b) := of_check rfl
theorem Length.rotw (a : Gen) (b : Gen) : Length.Statement (.rotw a b) := of_check rfl
theorem Length.rotd (a : Gen) (b : Gen) : Length.Statement (.rotd a b) := of_check rfl
theorem Length.ashb (a : Gen) (b : Gen) : Length.Statement (.ashb a b) := of_check rfl
theorem Length.ashw (a : Gen) (b : Gen) : Length.Statement (.ashw a b) := of_check rfl
theorem Length.ashd (a : Gen) (b : Gen) : Length.Statement (.ashd a b) := of_check rfl
theorem Length.cbitb (a : Gen) (b : Gen) : Length.Statement (.cbitb a b) := of_check rfl
theorem Length.cbitw (a : Gen) (b : Gen) : Length.Statement (.cbitw a b) := of_check rfl
theorem Length.cbitd (a : Gen) (b : Gen) : Length.Statement (.cbitd a b) := of_check rfl
theorem Length.cbitib (a : Gen) (b : Gen) : Length.Statement (.cbitib a b) := of_check rfl
theorem Length.cbitiw (a : Gen) (b : Gen) : Length.Statement (.cbitiw a b) := of_check rfl
theorem Length.cbitid (a : Gen) (b : Gen) : Length.Statement (.cbitid a b) := of_check rfl
theorem Length.lshb (a : Gen) (b : Gen) : Length.Statement (.lshb a b) := of_check rfl
theorem Length.lshw (a : Gen) (b : Gen) : Length.Statement (.lshw a b) := of_check rfl
theorem Length.lshd (a : Gen) (b : Gen) : Length.Statement (.lshd a b) := of_check rfl
theorem Length.sbitb (a : Gen) (b : Gen) : Length.Statement (.sbitb a b) := of_check rfl
theorem Length.sbitw (a : Gen) (b : Gen) : Length.Statement (.sbitw a b) := of_check rfl
theorem Length.sbitd (a : Gen) (b : Gen) : Length.Statement (.sbitd a b) := of_check rfl
theorem Length.sbitib (a : Gen) (b : Gen) : Length.Statement (.sbitib a b) := of_check rfl
theorem Length.sbitiw (a : Gen) (b : Gen) : Length.Statement (.sbitiw a b) := of_check rfl
theorem Length.sbitid (a : Gen) (b : Gen) : Length.Statement (.sbitid a b) := of_check rfl
theorem Length.negb (a : Gen) (b : Gen) : Length.Statement (.negb a b) := of_check rfl
theorem Length.negw (a : Gen) (b : Gen) : Length.Statement (.negw a b) := of_check rfl
theorem Length.negd (a : Gen) (b : Gen) : Length.Statement (.negd a b) := of_check rfl
theorem Length.notb (a : Gen) (b : Gen) : Length.Statement (.notb a b) := of_check rfl
theorem Length.notw (a : Gen) (b : Gen) : Length.Statement (.notw a b) := of_check rfl
theorem Length.notd (a : Gen) (b : Gen) : Length.Statement (.notd a b) := of_check rfl
theorem Length.subpb (a : Gen) (b : Gen) : Length.Statement (.subpb a b) := of_check rfl
theorem Length.subpw (a : Gen) (b : Gen) : Length.Statement (.subpw a b) := of_check rfl
theorem Length.subpd (a : Gen) (b : Gen) : Length.Statement (.subpd a b) := of_check rfl
theorem Length.absb (a : Gen) (b : Gen) : Length.Statement (.absb a b) := of_check rfl
theorem Length.absw (a : Gen) (b : Gen) : Length.Statement (.absw a b) := of_check rfl
theorem Length.absd (a : Gen) (b : Gen) : Length.Statement (.absd a b) := of_check rfl
theorem Length.comb (a : Gen) (b : Gen) : Length.Statement (.comb a b) := of_check rfl
theorem Length.comw (a : Gen) (b : Gen) : Length.Statement (.comw a b) := of_check rfl
theorem Length.comd (a : Gen) (b : Gen) : Length.Statement (.comd a b) := of_check rfl
theorem Length.ibitb (a : Gen) (b : Gen) : Length.Statement (.ibitb a b) := of_check rfl
theorem Length.ibitw (a : Gen) (b : Gen) : Length.Statement (.ibitw a b) := of_check rfl
theorem Length.ibitd (a : Gen) (b : Gen) : Length.Statement (.ibitd a b) := of_check rfl
theorem Length.addpb (a : Gen) (b : Gen) : Length.Statement (.addpb a b) := of_check rfl
theorem Length.addpw (a : Gen) (b : Gen) : Length.Statement (.addpw a b) := of_check rfl
theorem Length.addpd (a : Gen) (b : Gen) : Length.Statement (.addpd a b) := of_check rfl
theorem Length.movmb (a : Gen) (b : Gen) (d : Disp) : Length.Statement (.movmb a b d) := of_check rfl
theorem Length.movmw (a : Gen) (b : Gen) (d : Disp) : Length.Statement (.movmw a b d) := of_check rfl
theorem Length.movmd (a : Gen) (b : Gen) (d : Disp) : Length.Statement (.movmd a b d) := of_check rfl
theorem Length.cmpmb (a : Gen) (b : Gen) (d : Disp) : Length.Statement (.cmpmb a b d) := of_check rfl
theorem Length.cmpmw (a : Gen) (b : Gen) (d : Disp) : Length.Statement (.cmpmw a b d) := of_check rfl
theorem Length.cmpmd (a : Gen) (b : Gen) (d : Disp) : Length.Statement (.cmpmd a b d) := of_check rfl
theorem Length.inssb (a : Gen) (b : Gen) (im : BitVec 8) : Length.Statement (.inssb a b im) := of_check rfl
theorem Length.inssw (a : Gen) (b : Gen) (im : BitVec 8) : Length.Statement (.inssw a b im) := of_check rfl
theorem Length.inssd (a : Gen) (b : Gen) (im : BitVec 8) : Length.Statement (.inssd a b im) := of_check rfl
theorem Length.extsb (a : Gen) (b : Gen) (im : BitVec 8) : Length.Statement (.extsb a b im) := of_check rfl
theorem Length.extsw (a : Gen) (b : Gen) (im : BitVec 8) : Length.Statement (.extsw a b im) := of_check rfl
theorem Length.extsd (a : Gen) (b : Gen) (im : BitVec 8) : Length.Statement (.extsd a b im) := of_check rfl
theorem Length.movxbw (a : Gen) (b : Gen) : Length.Statement (.movxbw a b) := of_check rfl
theorem Length.movzbw (a : Gen) (b : Gen) : Length.Statement (.movzbw a b) := of_check rfl
theorem Length.movzbd (a : Gen) (b : Gen) : Length.Statement (.movzbd a b) := of_check rfl
theorem Length.movzwd (a : Gen) (b : Gen) : Length.Statement (.movzwd a b) := of_check rfl
theorem Length.movxbd (a : Gen) (b : Gen) : Length.Statement (.movxbd a b) := of_check rfl
theorem Length.movxwd (a : Gen) (b : Gen) : Length.Statement (.movxwd a b) := of_check rfl
theorem Length.mulb (a : Gen) (b : Gen) : Length.Statement (.mulb a b) := of_check rfl
theorem Length.mulw (a : Gen) (b : Gen) : Length.Statement (.mulw a b) := of_check rfl
theorem Length.muld (a : Gen) (b : Gen) : Length.Statement (.muld a b) := of_check rfl
theorem Length.meib (a : Gen) (b : Gen) : Length.Statement (.meib a b) := of_check rfl
theorem Length.meiw (a : Gen) (b : Gen) : Length.Statement (.meiw a b) := of_check rfl
theorem Length.meid (a : Gen) (b : Gen) : Length.Statement (.meid a b) := of_check rfl
theorem Length.deib (a : Gen) (b : Gen) : Length.Statement (.deib a b) := of_check rfl
theorem Length.deiw (a : Gen) (b : Gen) : Length.Statement (.deiw a b) := of_check rfl
theorem Length.deid (a : Gen) (b : Gen) : Length.Statement (.deid a b) := of_check rfl
theorem Length.quob (a : Gen) (b : Gen) : Length.Statement (.quob a b) := of_check rfl
theorem Length.quow (a : Gen) (b : Gen) : Length.Statement (.quow a b) := of_check rfl
theorem Length.quod (a : Gen) (b : Gen) : Length.Statement (.quod a b) := of_check rfl
theorem Length.remb (a : Gen) (b : Gen) : Length.Statement (.remb a b) := of_check rfl
theorem Length.remw (a : Gen) (b : Gen) : Length.Statement (.remw a b) := of_check rfl
theorem Length.remd (a : Gen) (b : Gen) : Length.Statement (.remd a b) := of_check rfl
theorem Length.modb (a : Gen) (b : Gen) : Length.Statement (.modb a b) := of_check rfl
theorem Length.modw (a : Gen) (b : Gen) : Length.Statement (.modw a b) := of_check rfl
theorem Length.modd (a : Gen) (b : Gen) : Length.Statement (.modd a b) := of_check rfl
theorem Length.divb (a : Gen) (b : Gen) : Length.Statement (.divb a b) := of_check rfl
theorem Length.divw (a : Gen) (b : Gen) : Length.Statement (.divw a b) := of_check rfl
theorem Length.divd (a : Gen) (b : Gen) : Length.Statement (.divd a b) := of_check rfl
theorem Length.extb (r : Reg) (a : Gen) (b : Gen) (d : Disp) : Length.Statement (.extb r a b d) := of_check rfl
theorem Length.extw (r : Reg) (a : Gen) (b : Gen) (d : Disp) : Length.Statement (.extw r a b d) := of_check rfl
theorem Length.extd (r : Reg) (a : Gen) (b : Gen) (d : Disp) : Length.Statement (.extd r a b d) := of_check rfl
theorem Length.cvtp (r : Reg) (a : Gen) (b : Gen) : Length.Statement (.cvtp r a b) := of_check rfl
theorem Length.insb (r : Reg) (a : Gen) (b : Gen) (d : Disp) : Length.Statement (.insb r a b d) := of_check rfl
theorem Length.insw (r : Reg) (a : Gen) (b : Gen) (d : Disp) : Length.Statement (.insw r a b d) := of_check rfl
theorem Length.insd (r : Reg) (a : Gen) (b : Gen) (d : Disp) : Length.Statement (.insd r a b d) := of_check rfl
theorem Length.checkb (r : Reg) (a : Gen) (b : Gen) : Length.Statement (.checkb r a b) := of_check rfl
theorem Length.checkw (r : Reg) (a : Gen) (b : Gen) : Length.Statement (.checkw r a b) := of_check rfl
theorem Length.checkd (r : Reg) (a : Gen) (b : Gen) : Length.Statement (.checkd r a b) := of_check rfl
theorem Length.indexb (r : Reg) (a : Gen) (b : Gen) : Length.Statement (.indexb r a b) := of_check rfl
theorem Length.indexw (r : Reg) (a : Gen) (b : Gen) : Length.Statement (.indexw r a b) := of_check rfl
theorem Length.indexd (r : Reg) (a : Gen) (b : Gen) : Length.Statement (.indexd r a b) := of_check rfl
theorem Length.ffsb (a : Gen) (b : Gen) : Length.Statement (.ffsb a b) := of_check rfl
theorem Length.ffsw (a : Gen) (b : Gen) : Length.Statement (.ffsw a b) := of_check rfl
theorem Length.ffsd (a : Gen) (b : Gen) : Length.Statement (.ffsd a b) := of_check rfl
theorem Length.movsub (a : Gen) (b : Gen) : Length.Statement (.movsub a b) := of_check rfl
theorem Length.movsuw (a : Gen) (b : Gen) : Length.Statement (.movsuw a b) := of_check rfl
theorem Length.movsud (a : Gen) (b : Gen) : Length.Statement (.movsud a b) := of_check rfl
theorem Length.movusb (a : Gen) (b : Gen) : Length.Statement (.movusb a b) := of_check rfl
theorem Length.movusw (a : Gen) (b : Gen) : Length.Statement (.movusw a b) := of_check rfl
theorem Length.movusd (a : Gen) (b : Gen) : Length.Statement (.movusd a b) := of_check rfl
theorem Length.movbf (a : Gen) (b : Gen) : Length.Statement (.movbf a b) := of_check rfl
theorem Length.movwf (a : Gen) (b : Gen) : Length.Statement (.movwf a b) := of_check rfl
theorem Length.movdf (a : Gen) (b : Gen) : Length.Statement (.movdf a b) := of_check rfl
theorem Length.movbl (a : Gen) (b : Gen) : Length.Statement (.movbl a b) := of_check rfl
theorem Length.movwl (a : Gen) (b : Gen) : Length.Statement (.movwl a b) := of_check rfl
theorem Length.movdl (a : Gen) (b : Gen) : Length.Statement (.movdl a b) := of_check rfl
theorem Length.lfsr (g : Gen) : Length.Statement (.lfsr g) := of_check rfl
theorem Length.movlf (a : Gen) (b : Gen) : Length.Statement (.movlf a b) := of_check rfl
theorem Length.movfl (a : Gen) (b : Gen) : Length.Statement (.movfl a b) := of_check rfl
theorem Length.roundfb (a : Gen) (b : Gen) : Length.Statement (.roundfb a b) := of_check rfl
theorem Length.roundfw (a : Gen) (b : Gen) : Length.Statement (.roundfw a b) := of_check rfl
theorem Length.roundfd (a : Gen) (b : Gen) : Length.Statement (.roundfd a b) := of_check rfl
theorem Length.roundlb (a : Gen) (b : Gen) : Length.Statement (.roundlb a b) := of_check rfl
theorem Length.roundlw (a : Gen) (b : Gen) : Length.Statement (.roundlw a b) := of_check rfl
theorem Length.roundld (a : Gen) (b : Gen) : Length.Statement (.roundld a b) := of_check rfl
theorem Length.truncfb (a : Gen) (b : Gen) : Length.Statement (.truncfb a b) := of_check rfl
theorem Length.truncfw (a : Gen) (b : Gen) : Length.Statement (.truncfw a b) := of_check rfl
theorem Length.truncfd (a : Gen) (b : Gen) : Length.Statement (.truncfd a b) := of_check rfl
theorem Length.trunclb (a : Gen) (b : Gen) : Length.Statement (.trunclb a b) := of_check rfl
theorem Length.trunclw (a : Gen) (b : Gen) : Length.Statement (.trunclw a b) := of_check rfl
theorem Length.truncld (a : Gen) (b : Gen) : Length.Statement (.truncld a b) := of_check rfl
theorem Length.floorfb (a : Gen) (b : Gen) : Length.Statement (.floorfb a b) := of_check rfl
theorem Length.floorfw (a : Gen) (b : Gen) : Length.Statement (.floorfw a b) := of_check rfl
theorem Length.floorfd (a : Gen) (b : Gen) : Length.Statement (.floorfd a b) := of_check rfl
theorem Length.floorlb (a : Gen) (b : Gen) : Length.Statement (.floorlb a b) := of_check rfl
theorem Length.floorlw (a : Gen) (b : Gen) : Length.Statement (.floorlw a b) := of_check rfl
theorem Length.floorld (a : Gen) (b : Gen) : Length.Statement (.floorld a b) := of_check rfl
theorem Length.sfsr (g : Gen) : Length.Statement (.sfsr g) := of_check rfl
theorem Length.addf (a : Gen) (b : Gen) : Length.Statement (.addf a b) := of_check rfl
theorem Length.addl (a : Gen) (b : Gen) : Length.Statement (.addl a b) := of_check rfl
theorem Length.movf (a : Gen) (b : Gen) : Length.Statement (.movf a b) := of_check rfl
theorem Length.movl (a : Gen) (b : Gen) : Length.Statement (.movl a b) := of_check rfl
theorem Length.cmpf (a : Gen) (b : Gen) : Length.Statement (.cmpf a b) := of_check rfl
theorem Length.cmpl (a : Gen) (b : Gen) : Length.Statement (.cmpl a b) := of_check rfl
theorem Length.subf (a : Gen) (b : Gen) : Length.Statement (.subf a b) := of_check rfl
theorem Length.subl (a : Gen) (b : Gen) : Length.Statement (.subl a b) := of_check rfl
theorem Length.negf (a : Gen) (b : Gen) : Length.Statement (.negf a b) := of_check rfl
theorem Length.negl (a : Gen) (b : Gen) : Length.Statement (.negl a b) := of_check rfl
theorem Length.divf (a : Gen) (b : Gen) : Length.Statement (.divf a b) := of_check rfl
theorem Length.divl (a : Gen) (b : Gen) : Length.Statement (.divl a b) := of_check rfl
theorem Length.mulf (a : Gen) (b : Gen) : Length.Statement (.mulf a b) := of_check rfl
theorem Length.mull (a : Gen) (b : Gen) : Length.Statement (.mull a b) := of_check rfl
theorem Length.absf (a : Gen) (b : Gen) : Length.Statement (.absf a b) := of_check rfl
theorem Length.absl (a : Gen) (b : Gen) : Length.Statement (.absl a b) := of_check rfl
theorem Length.polyf (a : Gen) (b : Gen) : Length.Statement (.polyf a b) := of_check rfl
theorem Length.polyl (a : Gen) (b : Gen) : Length.Statement (.polyl a b) := of_check rfl
theorem Length.dotf (a : Gen) (b : Gen) : Length.Statement (.dotf a b) := of_check rfl
theorem Length.dotl (a : Gen) (b : Gen) : Length.Statement (.dotl a b) := of_check rfl
theorem Length.scalbf (a : Gen) (b : Gen) : Length.Statement (.scalbf a b) := of_check rfl
theorem Length.scalbl (a : Gen) (b : Gen) : Length.Statement (.scalbl a b) := of_check rfl
theorem Length.logbf (a : Gen) (b : Gen) : Length.Statement (.logbf a b) := of_check rfl
theorem Length.logbl (a : Gen) (b : Gen) : Length.Statement (.logbl a b) := of_check rfl
theorem Length.illegalFp0011 (c1 : BitVec 5) (c2 : BitVec 5) (lo : BitVec 2) : Length.Statement (.illegalFp0011 c1 c2 lo) := of_check rfl
theorem Length.illegalFp1001 (c1 : BitVec 5) (c2 : BitVec 5) (lo : BitVec 2) : Length.Statement (.illegalFp1001 c1 c2 lo) := of_check rfl
theorem Length.rdval (g : Gen) : Length.Statement (.rdval g) := of_check rfl
theorem Length.wrval (g : Gen) : Length.Statement (.wrval g) := of_check rfl
theorem Length.lmr (r : MmuReg) (g : Gen) : Length.Statement (.lmr r g) := of_check rfl
theorem Length.smr (r : MmuReg) (g : Gen) : Length.Statement (.smr r g) := of_check rfl
theorem Length.cinv (al : Bool) (ic : Bool) (dc : Bool) (g : Gen) : Length.Statement (.cinv al ic dc g) := of_check rfl
theorem Length.custom16 : Length.Statement (.custom16) := of_check rfl
theorem Length.custom36 : Length.Statement (.custom36) := of_check rfl
theorem Length.customB6 : Length.Statement (.customB6) := of_check rfl

end Sys2Proof.Laws
end

