-- ==== Sys2Proof/Laws/Shapes.lean ====
section
/-! SUPPORT. The shapes that instructions are made of complete: one lemma per shape, which says in terms
of Sys2Proof.Safety when it answers a next state and which. -/

namespace Sys2Proof.Machine

/-! ## Operands of a well-formed instruction -/

theorem wellFormed_one {i : Instr} {ta : Attr} {a : Gen} (h : i.wellFormed = true)
    (hl : (layout i).operands = [(ta, a)]) : a.wellFormed ta = true := by
  simp only [Instr.wellFormed, hl, Bool.and_eq_true, List.all_cons] at h
  exact h.1.1

theorem wellFormed_two {i : Instr} {ta tb : Attr} {a b : Gen} (h : i.wellFormed = true)
    (hl : (layout i).operands = [(ta, a), (tb, b)]) :
    a.wellFormed ta = true ∧ b.wellFormed tb = true := by
  simp only [Instr.wellFormed, hl, Bool.and_eq_true, List.all_cons] at h
  exact ⟨h.1.1, h.1.2.1⟩

/-! ## What a location leaves alone -/

theorem writeAt_psr {w : Nat} {l : Loc} {v : BitVec w} {s t : State} (h : writeAt l v s = .ok t) :
    t.psr = s.psr := by
  obtain ⟨⟨m, a, b, c, d, e, n, rfl⟩, -⟩ := writeAt_spec h
  rfl

theorem writeAt_xlate {w : Nat} {l : Loc} {v : BitVec w} {s t : State} (h : writeAt l v s = .ok t) :
    t.xlate = s.xlate := by
  obtain ⟨⟨m, a, b, c, d, e, n, rfl⟩, -⟩ := writeAt_spec h
  rfl

theorem readGen_xlate {f : File} {w : Nat} {spi : Word} {g : Gen} {s t : State} {x : BitVec w}
    (h : readGen f w spi g s = .ok (x, t)) : t.xlate = s.xlate := by
  rcases readGen_spec h with rfl | ⟨-, rfl⟩ | ⟨-, -, -, -, rfl⟩ <;> simp

theorem readGen_psr {f : File} {w : Nat} {spi : Word} {g : Gen} {s t : State} {x : BitVec w}
    (h : readGen f w spi g s = .ok (x, t)) : t.psr = s.psr := by
  rcases readGen_spec h with rfl | ⟨-, rfl⟩ | ⟨-, -, -, -, rfl⟩ <;> simp

theorem readAt_xlate {w : Nat} {l : Loc} {s t : State} {x : BitVec w}
    (h : readAt w l s = .ok (x, t)) : t.xlate = s.xlate := by
  rcases readAt_spec h with rfl | rfl <;> simp

theorem readAt_psr {w : Nat} {l : Loc} {s t : State} {x : BitVec w}
    (h : readAt w l s = .ok (x, t)) : t.psr = s.psr := by
  rcases readAt_spec h with rfl | rfl <;> simp

/-- A result is delivered: it is written, and PC passes the instruction, unless it overflows with the
trap enabled. -/
theorem deliver_ok {w : Nat} {len : Nat} {l : Loc} {r : Result w} {t : State}
    (hw : writeAt l r.value r.state = .ok t) (hv : (r.state.flagV && r.ovf) = false) :
    deliver len l r = .ok (t.advance len) := by
  have hp : (t.advance len).flagV = r.state.flagV := by
    simp only [State.flagV, advance_psr, writeAt_psr hw]
  change (writeAt l r.value r.state).bind _ = _
  rw [hw]
  change ovfTrap r.ovf (t.advance len) = _
  rw [ovfTrap, hp, hv]
  rfl

/-- What the operation of a shape answers where a statement's `out` gives a result. -/
def Answers {w : Nat} (op : Except Stop (Result w)) (s : State) (v : BitVec w) (s₃ : State) : Prop :=
  ∃ r, op = .ok r ∧ r.value = v ∧ r.state = s₃ ∧ (s₃.flagV && r.ovf) = false ∧ s₃.xlate = s.xlate

/-! ## The shapes complete -/

theorem completesRmw_of {i : Instr} {fa fb : File} {wa wb : Nat} {a b : Gen} {s : State}
    {out : BitVec wa → BitVec wb → State → Option (BitVec wb × State)}
    {op : BitVec wa → BitVec wb → State → Except Stop (Result wb)} {ta tb : Attr}
    (hs : s.accessible) (ha : a.wellFormed ta = true) (hb : b.wellFormed tb = true)
    (htb : tb.immSize = none)
    (he : exec i s = conclude s (binary fa fb wa wb i.length a b s op))
    (hop : ∀ x y s₂ v s₃, s₂.cfg = s.cfg → out x y s₂ = some (v, s₃) → Answers (op x y s₂) s₂ v s₃) :
    CompletesRmw i fa fb wa wb a b s out := by
  obtain ⟨x, s₁, hx⟩ := readGen_ok hs fa wa s.sp ha
  have hs₁ := accessible_congr (readGen_xlate hx) hs
  obtain ⟨l, hl⟩ := rmwLoc_ok hs₁ fb s.sp htb hb
  obtain ⟨y, s₂, hy⟩ := readAt_ok hs₁ wb l
  have hs₂ := accessible_congr (readAt_xlate hy) hs₁
  have hcfg : s₂.cfg = s.cfg := by
    have h1 : s₁.cfg = s.cfg := by
      rcases readGen_spec hx with rfl | ⟨-, rfl⟩ | ⟨-, -, -, -, rfl⟩ <;> simp
    rw [← h1]
    rcases readAt_spec hy with rfl | rfl <;> simp
  refine ⟨x, s₁, l, y, s₂, hx, hl, hy, fun v s₃ ho => ?_⟩
  obtain ⟨r, hr, rfl, rfl, hv, hxl⟩ := hop x y s₂ v s₃ hcfg ho
  obtain ⟨t, ht⟩ := writeAt_ok (accessible_congr hxl hs₂) l r.value
  refine ⟨t, ht, ?_⟩
  rw [he]
  simp only [binary, bind, Except.bind, hx, hl, hy, hr, deliver_ok ht hv, conclude]

theorem completesModify_of {i : Instr} {fb : File} {wb : Nat} {b : Gen} {s : State}
    {out : BitVec wb → State → Option (BitVec wb × State)}
    {op : BitVec wb → State → Except Stop (Result wb)} {tb : Attr}
    (hs : s.accessible) (hb : b.wellFormed tb = true) (htb : tb.immSize = none)
    (he : exec i s = conclude s (modify fb wb i.length b s op))
    (hop : ∀ y s₂ v s₃, out y s₂ = some (v, s₃) → Answers (op y s₂) s₂ v s₃) :
    CompletesModify i fb wb b s out := by
  obtain ⟨l, hl⟩ := rmwLoc_ok hs fb s.sp htb hb
  obtain ⟨y, s₂, hy⟩ := readAt_ok hs wb l
  have hs₂ := accessible_congr (readAt_xlate hy) hs
  refine ⟨l, y, s₂, hl, hy, fun v s₃ ho => ?_⟩
  obtain ⟨r, hr, rfl, rfl, hv, hxl⟩ := hop y s₂ v s₃ ho
  obtain ⟨t, ht⟩ := writeAt_ok (accessible_congr hxl hs₂) l r.value
  refine ⟨t, ht, ?_⟩
  rw [he]
  simp only [modify, bind, Except.bind, hl, hy, hr, deliver_ok ht hv, conclude]

theorem completesWrite_of {i : Instr} {fa fb : File} {wa wb : Nat} {a b : Gen} {s : State}
    {out : BitVec wa → State → Option (BitVec wb × State)}
    {op : BitVec wa → State → Except Stop (Result wb)} {ta tb : Attr}
    (hs : s.accessible) (ha : a.wellFormed ta = true) (hb : b.wellFormed tb = true)
    (htb : tb.immSize = none)
    (he : exec i s = conclude s (unary fa fb wa wb i.length a b s op))
    (hop : ∀ x s₁ v s₃, out x s₁ = some (v, s₃) → Answers (op x s₁) s₁ v s₃) :
    CompletesWrite i fa fb wa wb a b s out := by
  obtain ⟨x, s₁, hx⟩ := readGen_ok hs fa wa s.sp ha
  have hs₁ := accessible_congr (readGen_xlate hx) hs
  obtain ⟨l, hl⟩ := writeLoc_ok hs₁ fb s.sp htb hb
  refine ⟨x, s₁, l, hx, hl, fun v s₃ ho => ?_⟩
  obtain ⟨r, hr, rfl, rfl, hv, hxl⟩ := hop x s₁ v s₃ ho
  obtain ⟨t, ht⟩ := writeAt_ok (accessible_congr hxl hs₁) l r.value
  refine ⟨t, ht, ?_⟩
  rw [he]
  simp only [unary, bind, Except.bind, hx, hl, hr, deliver_ok ht hv, conclude]

theorem completesStore_of {i : Instr} {w : Nat} {b : Gen} {s s₁ : State} {v : BitVec w}
    {op : State → Result w} {tb : Attr} (hs : s.accessible) (hb : b.wellFormed tb = true)
    (htb : tb.immSize = none) (he : exec i s = conclude s (store .int w i.length b s op))
    (hop : (op s).value = v ∧ (op s).state = s₁ ∧ (op s).ovf = false ∧ s₁.xlate = s.xlate) :
    CompletesStore i w b s v s₁ := by
  obtain ⟨l, hl⟩ := writeLoc_ok hs .int s.sp htb hb
  obtain ⟨hv, hst, ho, hx⟩ := hop
  obtain ⟨t, ht⟩ := writeAt_ok (accessible_congr hx hs) l v
  refine ⟨l, t, hl, ht, ?_⟩
  rw [he]
  have : deliver i.length l (op s) = .ok (t.advance i.length) :=
    deliver_ok (by rw [hv, hst]; exact ht) (by rw [ho]; simp)
  simp only [store, bind, Except.bind, hl, this, conclude]

theorem completesCompare_of {i : Instr} {f : File} {w : Nat} {a b : Gen} {s : State}
    {out : BitVec w → BitVec w → State → Option State}
    {op : BitVec w → BitVec w → State → Except Stop State} {ta tb : Attr}
    (hs : s.accessible) (ha : a.wellFormed ta = true) (hb : b.wellFormed tb = true)
    (he : exec i s = conclude s (sources f f w w i.length a b s op))
    (hop : ∀ x y s₂ t, out x y s₂ = some t → op x y s₂ = .ok t) :
    CompletesCompare i f w a b s out := by
  obtain ⟨x, s₁, hx⟩ := readGen_ok hs f w s.sp ha
  have hs₁ := accessible_congr (readGen_xlate hx) hs
  obtain ⟨y, s₂, hy⟩ := readGen_ok hs₁ f w s.sp hb
  refine ⟨x, s₁, y, s₂, hx, hy, fun t ho => ?_⟩
  rw [he]
  simp only [sources, bind, Except.bind, hx, hy, hop x y s₂ t ho, conclude]

theorem completesRead_of {i : Instr} {w : Nat} {a : Gen} {s : State} {out : BitVec w → State → State}
    {op : BitVec w → State → Except Stop State} {ta : Attr} (hs : s.accessible)
    (ha : a.wellFormed ta = true) (he : exec i s = conclude s (source .int w i.length a s op))
    (hop : ∀ x s₁, op x s₁ = .ok (out x s₁)) : CompletesRead i w a s out := by
  obtain ⟨x, s₁, hx⟩ := readGen_ok hs .int w s.sp ha
  refine ⟨x, s₁, hx, ?_⟩
  rw [he]
  simp only [source, bind, Except.bind, hx, hop x s₁, conclude]

end Sys2Proof.Machine
end

