-- ==== Sys2Proof/Tests/Slice0.lean ====
section
/-! SUPPORT. The model's own tests: what `wellFormed` refuses, a decoded word for every instruction, single
steps whose results the spec prints, and a witness for the hypotheses of each statement. -/

namespace Sys2Proof.Tests

open Sys2Proof Sys2Proof.Machine

set_option maxRecDepth 20000

/-! ## What `wellFormed` refuses -/

/-- A displacement whose first byte would be 0xE0 is reserved (R143). -/
theorem test_refuses_reserved_displacement :
    (Instr.br (.d30 0x20000000)).wellFormed = false ∧
      (Instr.movb (.plain (.abs (.d30 0x20000000))) (.plain (.reg 0))).wellFormed = false ∧
      (Instr.movb (.plain (.frameRel (.d7 0) (.d30 0x20000000))) (.plain (.reg 0))).wellFormed = false ∧
      (Instr.movb (.indexed .b (.ext (.d30 0x20000000) (.d7 0)) 0) (.plain (.reg 0))).wellFormed =
        false := by decide
/-- No immediate stands for an operand of class write, rmw, addr or regaddr (R155). -/
theorem test_refuses_immediate_destination :
    (Instr.movb (.plain (.reg 0)) (.plain (.imm (.b 1)))).wellFormed = false ∧
      (Instr.addb (.plain (.reg 0)) (.plain (.imm (.b 1)))).wellFormed = false ∧
      (Instr.jump (.plain (.imm (.d 1)))).wellFormed = false ∧
      (Instr.sbitb (.plain (.reg 0)) (.plain (.imm (.b 1)))).wellFormed = false := by decide
/-- An immediate has the length of its operand (R146). -/
theorem test_refuses_immediate_of_wrong_length :
    (Instr.movw (.plain (.imm (.b 1))) (.plain (.reg 0))).wellFormed = false ∧
      (Instr.addl (.plain (.imm (.d 1))) (.plain (.reg 0))).wellFormed = false := by decide
/-- The base mode of Scaled Indexing is not Immediate (R162). -/
theorem test_refuses_immediate_base :
    (Instr.movb (.indexed .b (.imm (.b 1)) 0) (.plain (.reg 0))).wellFormed = false := by decide
/-- An implied displacement is checked too (R143). -/
theorem test_refuses_reserved_implied_displacement :
    (Instr.acbb 1 (.plain (.reg 0)) (.d30 0x20000000)).wellFormed = false ∧
      (Instr.enter 0 (.d30 0x20FFFFFF)).wellFormed = false := by decide
theorem test_accepts_the_neighbours :
    (Instr.br (.d30 0x1FFFFFFF)).wellFormed = true ∧ (Instr.br (.d30 0x21000000)).wellFormed = true ∧
      (Instr.movw (.plain (.imm (.w 1))) (.plain (.reg 0))).wellFormed = true := by decide

/-! ## Decoding: a word for every instruction, written from spec/opcode_table.json

Each word has its fixed bits from the table's `match` and, in the operand fields, registers and short
values that differ from one another. Operand bytes past the table's bits are zero. -/

theorem test_decode_format_0_1 :
    decodeTableWord 8 0xA = some (.beq (.d7 0)) ∧
    decodeTableWord 8 0x1A = some (.bne (.d7 0)) ∧
    decodeTableWord 8 0x2A = some (.bcs (.d7 0)) ∧
    decodeTableWord 8 0x3A = some (.bcc (.d7 0)) ∧
    decodeTableWord 8 0x4A = some (.bhi (.d7 0)) ∧
    decodeTableWord 8 0x5A = some (.bls (.d7 0)) ∧
    decodeTableWord 8 0x6A = some (.bgt (.d7 0)) ∧
    decodeTableWord 8 0x7A = some (.ble (.d7 0)) ∧
    decodeTableWord 8 0x8A = some (.bfs (.d7 0)) ∧
    decodeTableWord 8 0x9A = some (.bfc (.d7 0)) ∧
    decodeTableWord 8 0xAA = some (.blo (.d7 0)) ∧
    decodeTableWord 8 0xBA = some (.bhs (.d7 0)) ∧
    decodeTableWord 8 0xCA = some (.blt (.d7 0)) ∧
    decodeTableWord 8 0xDA = some (.bge (.d7 0)) ∧
    decodeTableWord 8 0xEA = some (.br (.d7 0)) := by
  exact ⟨rfl, rfl, rfl, rfl, rfl, rfl, rfl, rfl, rfl, rfl, rfl, rfl, rfl, rfl, rfl⟩
theorem test_decode_format_1_1 :
    decodeTableWord 8 0x2 = some (.bsr (.d7 0)) ∧
    decodeTableWord 8 0x12 = some (.ret (.d7 0)) ∧
    decodeTableWord 8 0x22 = some (.cxp (.d7 0)) ∧
    decodeTableWord 8 0x32 = some (.rxp (.d7 0)) ∧
    decodeTableWord 8 0x42 = some (.rett (.d7 0)) ∧
    decodeTableWord 8 0x52 = some .reti ∧
    decodeTableWord 8 0x62 = some (.save 0) ∧
    decodeTableWord 8 0x72 = some (.restore 0) ∧
    decodeTableWord 8 0x82 = some (.enter 0 (.d7 0)) ∧
    decodeTableWord 8 0x92 = some (.exit 0) ∧
    decodeTableWord 8 0xA2 = some .nop ∧
    decodeTableWord 8 0xB2 = some .wait ∧
    decodeTableWord 8 0xC2 = some .dia ∧
    decodeTableWord 8 0xD2 = some .flag ∧
    decodeTableWord 8 0xE2 = some .svc ∧
    decodeTableWord 8 0xF2 = some .bpt := by
  exact ⟨rfl, rfl, rfl, rfl, rfl, rfl, rfl, rfl, rfl, rfl, rfl, rfl, rfl, rfl, rfl, rfl⟩
theorem test_decode_format_2_1 :
    decodeTableWord 16 0x220C = some (.addqb 4 (.plain (.reg 4))) ∧
    decodeTableWord 16 0x2C8D = some (.addqw 9 (.plain (.reg 5))) ∧
    decodeTableWord 16 0x370F = some (.addqd 14 (.plain (.reg 6))) ∧
    decodeTableWord 16 0x399C = some (.cmpqb 3 (.plain (.reg 7))) ∧
    decodeTableWord 16 0xC1D = some (.cmpqw 8 (.plain (.reg 1))) ∧
    decodeTableWord 16 0x169F = some (.cmpqd 13 (.plain (.reg 2))) ∧
    decodeTableWord 16 0x1CAC = some (.sprb .sp (.plain (.reg 3))) ∧
    decodeTableWord 16 0x272D = some (.sprw .intbase (.plain (.reg 4))) ∧
    decodeTableWord 16 0x29AF = some (.sprd .dsr (.plain (.reg 5))) ∧
    decodeTableWord 16 0x303C = some (.seqb (.plain (.reg 6))) ∧
    decodeTableWord 16 0x38BC = some (.sneb (.plain (.reg 7))) ∧
    decodeTableWord 16 0x93C = some (.scsb (.plain (.reg 1))) ∧
    decodeTableWord 16 0x11BC = some (.sccb (.plain (.reg 2))) ∧
    decodeTableWord 16 0x1A3C = some (.shib (.plain (.reg 3))) ∧
    decodeTableWord 16 0x22BC = some (.slsb (.plain (.reg 4))) ∧
    decodeTableWord 16 0x2B3C = some (.sgtb (.plain (.reg 5))) ∧
    decodeTableWord 16 0x33BC = some (.sleb (.plain (.reg 6))) ∧
    decodeTableWord 16 0x3C3C = some (.sfsb (.plain (.reg 7))) ∧
    decodeTableWord 16 0xCBC = some (.sfcb (.plain (.reg 1))) ∧
    decodeTableWord 16 0x153C = some (.slob (.plain (.reg 2))) ∧
    decodeTableWord 16 0x1DBC = some (.shsb (.plain (.reg 3))) ∧
    decodeTableWord 16 0x263C = some (.sltb (.plain (.reg 4))) ∧
    decodeTableWord 16 0x2EBC = some (.sgeb (.plain (.reg 5))) ∧
    decodeTableWord 16 0x303D = some (.seqw (.plain (.reg 6))) := by
  exact ⟨rfl, rfl, rfl, rfl, rfl, rfl, rfl, rfl, rfl, rfl, rfl, rfl, rfl, rfl, rfl, rfl, rfl, rfl, rfl, rfl, rfl, rfl, rfl, rfl⟩
theorem test_decode_format_2_2 :
    decodeTableWord 16 0x38BD = some (.snew (.plain (.reg 7))) ∧
    decodeTableWord 16 0x93D = some (.scsw (.plain (.reg 1))) ∧
    decodeTableWord 16 0x11BD = some (.sccw (.plain (.reg 2))) ∧
    decodeTableWord 16 0x1A3D = some (.shiw (.plain (.reg 3))) ∧
    decodeTableWord 16 0x22BD = some (.slsw (.plain (.reg 4))) ∧
    decodeTableWord 16 0x2B3D = some (.sgtw (.plain (.reg 5))) ∧
    decodeTableWord 16 0x33BD = some (.slew (.plain (.reg 6))) ∧
    decodeTableWord 16 0x3C3D = some (.sfsw (.plain (.reg 7))) ∧
    decodeTableWord 16 0xCBD = some (.sfcw (.plain (.reg 1))) ∧
    decodeTableWord 16 0x153D = some (.slow (.plain (.reg 2))) ∧
    decodeTableWord 16 0x1DBD = some (.shsw (.plain (.reg 3))) ∧
    decodeTableWord 16 0x263D = some (.sltw (.plain (.reg 4))) ∧
    decodeTableWord 16 0x2EBD = some (.sgew (.plain (.reg 5))) ∧
    decodeTableWord 16 0x303F = some (.seqd (.plain (.reg 6))) ∧
    decodeTableWord 16 0x38BF = some (.sned (.plain (.reg 7))) ∧
    decodeTableWord 16 0x93F = some (.scsd (.plain (.reg 1))) ∧
    decodeTableWord 16 0x11BF = some (.sccd (.plain (.reg 2))) ∧
    decodeTableWord 16 0x1A3F = some (.shid (.plain (.reg 3))) ∧
    decodeTableWord 16 0x22BF = some (.slsd (.plain (.reg 4))) ∧
    decodeTableWord 16 0x2B3F = some (.sgtd (.plain (.reg 5))) ∧
    decodeTableWord 16 0x33BF = some (.sled (.plain (.reg 6))) ∧
    decodeTableWord 16 0x3C3F = some (.sfsd (.plain (.reg 7))) ∧
    decodeTableWord 16 0xCBF = some (.sfcd (.plain (.reg 1))) ∧
    decodeTableWord 16 0x153F = some (.slod (.plain (.reg 2))) := by
  exact ⟨rfl, rfl, rfl, rfl, rfl, rfl, rfl, rfl, rfl, rfl, rfl, rfl, rfl, rfl, rfl, rfl, rfl, rfl, rfl, rfl, rfl, rfl, rfl, rfl⟩
theorem test_decode_format_2_3 :
    decodeTableWord 16 0x1DBF = some (.shsd (.plain (.reg 3))) ∧
    decodeTableWord 16 0x263F = some (.sltd (.plain (.reg 4))) ∧
    decodeTableWord 16 0x2EBF = some (.sged (.plain (.reg 5))) ∧
    decodeTableWord 16 0x31CC = some (.acbb 3 (.plain (.reg 6)) (.d7 0)) ∧
    decodeTableWord 16 0x3C4D = some (.acbw 8 (.plain (.reg 7)) (.d7 0)) ∧
    decodeTableWord 16 0xECF = some (.acbd 13 (.plain (.reg 1)) (.d7 0)) ∧
    decodeTableWord 16 0x115C = some (.movqb 2 (.plain (.reg 2))) ∧
    decodeTableWord 16 0x1BDD = some (.movqw 7 (.plain (.reg 3))) ∧
    decodeTableWord 16 0x265F = some (.movqd 12 (.plain (.reg 4))) ∧
    decodeTableWord 16 0x28EC = some (.lprb .dcr (.plain (.reg 5))) ∧
    decodeTableWord 16 0x34ED = some (.lprw .sp (.plain (.reg 6))) ∧
    decodeTableWord 16 0x3F6F = some (.lprd .intbase (.plain (.reg 7))) := by
  exact ⟨rfl, rfl, rfl, rfl, rfl, rfl, rfl, rfl, rfl, rfl, rfl, rfl⟩
theorem test_decode_format_3_1 :
    decodeTableWord 16 0x87F = some (.cxpd (.plain (.reg 1))) ∧
    decodeTableWord 16 0x117C = some (.bicpsrb (.plain (.reg 2))) ∧
    decodeTableWord 16 0x197D = some (.bicpsrw (.plain (.reg 3))) ∧
    decodeTableWord 16 0x227F = some (.jump (.plain (.reg 4))) ∧
    decodeTableWord 16 0x2B7C = some (.bispsrb (.plain (.reg 5))) ∧
    decodeTableWord 16 0x337D = some (.bispsrw (.plain (.reg 6))) ∧
    decodeTableWord 16 0x3D7C = some (.adjspb (.plain (.reg 7))) ∧
    decodeTableWord 16 0xD7D = some (.adjspw (.plain (.reg 1))) ∧
    decodeTableWord 16 0x157F = some (.adjspd (.plain (.reg 2))) ∧
    decodeTableWord 16 0x1E7F = some (.jsr (.plain (.reg 3))) ∧
    decodeTableWord 16 0x277C = some (.caseb (.plain (.reg 4))) ∧
    decodeTableWord 16 0x2F7D = some (.casew (.plain (.reg 5))) ∧
    decodeTableWord 16 0x377F = some (.cased (.plain (.reg 6))) := by
  exact ⟨rfl, rfl, rfl, rfl, rfl, rfl, rfl, rfl, rfl, rfl, rfl, rfl, rfl⟩
theorem test_decode_format_4_1 :
    decodeTableWord 16 0x3800 = some (.addb (.plain (.reg 7)) (.plain (.reg 0))) ∧
    decodeTableWord 16 0x8C1 = some (.addw (.plain (.reg 1)) (.plain (.reg 3))) ∧
    decodeTableWord 16 0x1183 = some (.addd (.plain (.reg 2)) (.plain (.reg 6))) ∧
    decodeTableWord 16 0x1844 = some (.cmpb (.plain (.reg 3)) (.plain (.reg 1))) ∧
    decodeTableWord 16 0x2145 = some (.cmpw (.plain (.reg 4)) (.plain (.reg 5))) ∧
    decodeTableWord 16 0x29C7 = some (.cmpd (.plain (.reg 5)) (.plain (.reg 7))) ∧
    decodeTableWord 16 0x3088 = some (.bicb (.plain (.reg 6)) (.plain (.reg 2))) ∧
    decodeTableWord 16 0x3949 = some (.bicw (.plain (.reg 7)) (.plain (.reg 5))) ∧
    decodeTableWord 16 0x80B = some (.bicd (.plain (.reg 1)) (.plain (.reg 0))) ∧
    decodeTableWord 16 0x10D0 = some (.addcb (.plain (.reg 2)) (.plain (.reg 3))) ∧
    decodeTableWord 16 0x1991 = some (.addcw (.plain (.reg 3)) (.plain (.reg 6))) ∧
    decodeTableWord 16 0x2053 = some (.addcd (.plain (.reg 4)) (.plain (.reg 1))) ∧
    decodeTableWord 16 0x2914 = some (.movb (.plain (.reg 5)) (.plain (.reg 4))) ∧
    decodeTableWord 16 0x31D5 = some (.movw (.plain (.reg 6)) (.plain (.reg 7))) ∧
    decodeTableWord 16 0x3897 = some (.movd (.plain (.reg 7)) (.plain (.reg 2))) ∧
    decodeTableWord 16 0x958 = some (.orb (.plain (.reg 1)) (.plain (.reg 5))) ∧
    decodeTableWord 16 0x1019 = some (.orw (.plain (.reg 2)) (.plain (.reg 0))) ∧
    decodeTableWord 16 0x191B = some (.ord (.plain (.reg 3)) (.plain (.reg 4))) ∧
    decodeTableWord 16 0x21A0 = some (.subb (.plain (.reg 4)) (.plain (.reg 6))) ∧
    decodeTableWord 16 0x2861 = some (.subw (.plain (.reg 5)) (.plain (.reg 1))) ∧
    decodeTableWord 16 0x3123 = some (.subd (.plain (.reg 6)) (.plain (.reg 4))) ∧
    decodeTableWord 16 0x3827 = some (.addr (.plain (.reg 7)) (.plain (.reg 0))) ∧
    decodeTableWord 16 0x8A8 = some (.andb (.plain (.reg 1)) (.plain (.reg 2))) ∧
    decodeTableWord 16 0x1169 = some (.andw (.plain (.reg 2)) (.plain (.reg 5))) := by
  exact ⟨rfl, rfl, rfl, rfl, rfl, rfl, rfl, rfl, rfl, rfl, rfl, rfl, rfl, rfl, rfl, rfl, rfl, rfl, rfl, rfl, rfl, rfl, rfl, rfl⟩
theorem test_decode_format_4_2 :
    decodeTableWord 16 0x182B = some (.andd (.plain (.reg 3)) (.plain (.reg 0))) ∧
    decodeTableWord 16 0x20F0 = some (.subcb (.plain (.reg 4)) (.plain (.reg 3))) ∧
    decodeTableWord 16 0x29B1 = some (.subcw (.plain (.reg 5)) (.plain (.reg 6))) ∧
    decodeTableWord 16 0x3073 = some (.subcd (.plain (.reg 6)) (.plain (.reg 1))) ∧
    decodeTableWord 16 0x3934 = some (.tbitb (.plain (.reg 7)) (.plain (.reg 4))) ∧
    decodeTableWord 16 0x9F5 = some (.tbitw (.plain (.reg 1)) (.plain (.reg 7))) ∧
    decodeTableWord 16 0x10F7 = some (.tbitd (.plain (.reg 2)) (.plain (.reg 3))) ∧
    decodeTableWord 16 0x1978 = some (.xorb (.plain (.reg 3)) (.plain (.reg 5))) ∧
    decodeTableWord 16 0x2039 = some (.xorw (.plain (.reg 4)) (.plain (.reg 0))) ∧
    decodeTableWord 16 0x28FB = some (.xord (.plain (.reg 5)) (.plain (.reg 3))) := by
  exact ⟨rfl, rfl, rfl, rfl, rfl, rfl, rfl, rfl, rfl, rfl⟩
theorem test_decode_format_5_1 :
    decodeTableWord 24 0x1000E = some (.movsb .none true) ∧
    decodeTableWord 24 0x3010E = some (.movsw .whileMatch true) ∧
    decodeTableWord 24 0x6030E = some (.movsd .untilMatch false) ∧
    decodeTableWord 24 0x800E = some (.movst .none false) ∧
    decodeTableWord 24 0x3040E = some (.cmpsb .whileMatch true) ∧
    decodeTableWord 24 0x7050E = some (.cmpsw .untilMatch true) ∧
    decodeTableWord 24 0x70E = some (.cmpsd .none false) ∧
    decodeTableWord 24 0x2840E = some (.cmpst .whileMatch false) ∧
    decodeTableWord 24 0x70C0E = some (.skpsb .untilMatch true) ∧
    decodeTableWord 24 0x10D0E = some (.skpsw .none true) ∧
    decodeTableWord 24 0x20F0E = some (.skpsd .whileMatch false) ∧
    decodeTableWord 24 0x68C0E = some (.skpst .untilMatch false) ∧
    decodeTableWord 24 0x78B0E = some (.setcfg 15) := by
  exact ⟨rfl, rfl, rfl, rfl, rfl, rfl, rfl, rfl, rfl, rfl, rfl, rfl, rfl⟩
theorem test_decode_format_6_1 :
    decodeTableWord 24 0x29804E = some (.rotb (.plain (.reg 5)) (.plain (.reg 6))) ∧
    decodeTableWord 24 0x30014E = some (.rotw (.plain (.reg 6)) (.plain (.reg 0))) ∧
    decodeTableWord 24 0x38C34E = some (.rotd (.plain (.reg 7)) (.plain (.reg 3))) ∧
    decodeTableWord 24 0x9844E = some (.ashb (.plain (.reg 1)) (.plain (.reg 6))) ∧
    decodeTableWord 24 0x10454E = some (.ashw (.plain (.reg 2)) (.plain (.reg 1))) ∧
    decodeTableWord 24 0x19074E = some (.ashd (.plain (.reg 3)) (.plain (.reg 4))) ∧
    decodeTableWord 24 0x21C84E = some (.cbitb (.plain (.reg 4)) (.plain (.reg 7))) ∧
    decodeTableWord 24 0x28894E = some (.cbitw (.plain (.reg 5)) (.plain (.reg 2))) ∧
    decodeTableWord 24 0x314B4E = some (.cbitd (.plain (.reg 6)) (.plain (.reg 5))) ∧
    decodeTableWord 24 0x380C4E = some (.cbitib (.plain (.reg 7)) (.plain (.reg 0))) ∧
    decodeTableWord 24 0x8CD4E = some (.cbitiw (.plain (.reg 1)) (.plain (.reg 3))) ∧
    decodeTableWord 24 0x118F4E = some (.cbitid (.plain (.reg 2)) (.plain (.reg 6))) ∧
    decodeTableWord 24 0x18544E = some (.lshb (.plain (.reg 3)) (.plain (.reg 1))) ∧
    decodeTableWord 24 0x21554E = some (.lshw (.plain (.reg 4)) (.plain (.reg 5))) ∧
    decodeTableWord 24 0x29D74E = some (.lshd (.plain (.reg 5)) (.plain (.reg 7))) ∧
    decodeTableWord 24 0x30984E = some (.sbitb (.plain (.reg 6)) (.plain (.reg 2))) ∧
    decodeTableWord 24 0x39594E = some (.sbitw (.plain (.reg 7)) (.plain (.reg 5))) ∧
    decodeTableWord 24 0x81B4E = some (.sbitd (.plain (.reg 1)) (.plain (.reg 0))) ∧
    decodeTableWord 24 0x10DC4E = some (.sbitib (.plain (.reg 2)) (.plain (.reg 3))) ∧
    decodeTableWord 24 0x199D4E = some (.sbitiw (.plain (.reg 3)) (.plain (.reg 6))) ∧
    decodeTableWord 24 0x205F4E = some (.sbitid (.plain (.reg 4)) (.plain (.reg 1))) ∧
    decodeTableWord 24 0x29204E = some (.negb (.plain (.reg 5)) (.plain (.reg 4))) ∧
    decodeTableWord 24 0x31E14E = some (.negw (.plain (.reg 6)) (.plain (.reg 7))) ∧
    decodeTableWord 24 0x38A34E = some (.negd (.plain (.reg 7)) (.plain (.reg 2))) := by
  exact ⟨rfl, rfl, rfl, rfl, rfl, rfl, rfl, rfl, rfl, rfl, rfl, rfl, rfl, rfl, rfl, rfl, rfl, rfl, rfl, rfl, rfl, rfl, rfl, rfl⟩
theorem test_decode_format_6_2 :
    decodeTableWord 24 0x9644E = some (.notb (.plain (.reg 1)) (.plain (.reg 5))) ∧
    decodeTableWord 24 0x10254E = some (.notw (.plain (.reg 2)) (.plain (.reg 0))) ∧
    decodeTableWord 24 0x19274E = some (.notd (.plain (.reg 3)) (.plain (.reg 4))) ∧
    decodeTableWord 24 0x21AC4E = some (.subpb (.plain (.reg 4)) (.plain (.reg 6))) ∧
    decodeTableWord 24 0x286D4E = some (.subpw (.plain (.reg 5)) (.plain (.reg 1))) ∧
    decodeTableWord 24 0x312F4E = some (.subpd (.plain (.reg 6)) (.plain (.reg 4))) ∧
    decodeTableWord 24 0x38304E = some (.absb (.plain (.reg 7)) (.plain (.reg 0))) ∧
    decodeTableWord 24 0x8B14E = some (.absw (.plain (.reg 1)) (.plain (.reg 2))) ∧
    decodeTableWord 24 0x11734E = some (.absd (.plain (.reg 2)) (.plain (.reg 5))) ∧
    decodeTableWord 24 0x18344E = some (.comb (.plain (.reg 3)) (.plain (.reg 0))) ∧
    decodeTableWord 24 0x20F54E = some (.comw (.plain (.reg 4)) (.plain (.reg 3))) ∧
    decodeTableWord 24 0x29B74E = some (.comd (.plain (.reg 5)) (.plain (.reg 6))) ∧
    decodeTableWord 24 0x30784E = some (.ibitb (.plain (.reg 6)) (.plain (.reg 1))) ∧
    decodeTableWord 24 0x39394E = some (.ibitw (.plain (.reg 7)) (.plain (.reg 4))) ∧
    decodeTableWord 24 0x9FB4E = some (.ibitd (.plain (.reg 1)) (.plain (.reg 7))) ∧
    decodeTableWord 24 0x10FC4E = some (.addpb (.plain (.reg 2)) (.plain (.reg 3))) ∧
    decodeTableWord 24 0x197D4E = some (.addpw (.plain (.reg 3)) (.plain (.reg 5))) ∧
    decodeTableWord 24 0x203F4E = some (.addpd (.plain (.reg 4)) (.plain (.reg 0))) := by
  exact ⟨rfl, rfl, rfl, rfl, rfl, rfl, rfl, rfl, rfl, rfl, rfl, rfl, rfl, rfl, rfl, rfl, rfl, rfl⟩
theorem test_decode_format_7_1 :
    decodeTableWord 24 0x28C0CE = some (.movmb (.plain (.reg 5)) (.plain (.reg 3)) (.d7 0)) ∧
    decodeTableWord 24 0x31C1CE = some (.movmw (.plain (.reg 6)) (.plain (.reg 7)) (.d7 0)) ∧
    decodeTableWord 24 0x3843CE = some (.movmd (.plain (.reg 7)) (.plain (.reg 1)) (.d7 0)) ∧
    decodeTableWord 24 0x904CE = some (.cmpmb (.plain (.reg 1)) (.plain (.reg 4)) (.d7 0)) ∧
    decodeTableWord 24 0x11C5CE = some (.cmpmw (.plain (.reg 2)) (.plain (.reg 7)) (.d7 0)) ∧
    decodeTableWord 24 0x1887CE = some (.cmpmd (.plain (.reg 3)) (.plain (.reg 2)) (.d7 0)) ∧
    decodeTableWord 24 0x2148CE = some (.inssb (.plain (.reg 4)) (.plain (.reg 5)) 0) ∧
    decodeTableWord 24 0x2809CE = some (.inssw (.plain (.reg 5)) (.plain (.reg 0)) 0) ∧
    decodeTableWord 24 0x30CBCE = some (.inssd (.plain (.reg 6)) (.plain (.reg 3)) 0) ∧
    decodeTableWord 24 0x398CCE = some (.extsb (.plain (.reg 7)) (.plain (.reg 6)) 0) ∧
    decodeTableWord 24 0x88DCE = some (.extsw (.plain (.reg 1)) (.plain (.reg 2)) 0) ∧
    decodeTableWord 24 0x110FCE = some (.extsd (.plain (.reg 2)) (.plain (.reg 4)) 0) ∧
    decodeTableWord 24 0x19D0CE = some (.movxbw (.plain (.reg 3)) (.plain (.reg 7))) ∧
    decodeTableWord 24 0x2094CE = some (.movzbw (.plain (.reg 4)) (.plain (.reg 2))) ∧
    decodeTableWord 24 0x2998CE = some (.movzbd (.plain (.reg 5)) (.plain (.reg 6))) ∧
    decodeTableWord 24 0x3019CE = some (.movzwd (.plain (.reg 6)) (.plain (.reg 0))) ∧
    decodeTableWord 24 0x38DCCE = some (.movxbd (.plain (.reg 7)) (.plain (.reg 3))) ∧
    decodeTableWord 24 0x99DCE = some (.movxwd (.plain (.reg 1)) (.plain (.reg 6))) ∧
    decodeTableWord 24 0x1060CE = some (.mulb (.plain (.reg 2)) (.plain (.reg 1))) ∧
    decodeTableWord 24 0x1921CE = some (.mulw (.plain (.reg 3)) (.plain (.reg 4))) ∧
    decodeTableWord 24 0x21E3CE = some (.muld (.plain (.reg 4)) (.plain (.reg 7))) ∧
    decodeTableWord 24 0x28A4CE = some (.meib (.plain (.reg 5)) (.plain (.reg 2))) ∧
    decodeTableWord 24 0x3165CE = some (.meiw (.plain (.reg 6)) (.plain (.reg 5))) ∧
    decodeTableWord 24 0x3827CE = some (.meid (.plain (.reg 7)) (.plain (.reg 0))) := by
  exact ⟨rfl, rfl, rfl, rfl, rfl, rfl, rfl, rfl, rfl, rfl, rfl, rfl, rfl, rfl, rfl, rfl, rfl, rfl, rfl, rfl, rfl, rfl, rfl, rfl⟩
theorem test_decode_format_7_2 :
    decodeTableWord 24 0x8ECCE = some (.deib (.plain (.reg 1)) (.plain (.reg 3))) ∧
    decodeTableWord 24 0x11ADCE = some (.deiw (.plain (.reg 2)) (.plain (.reg 6))) ∧
    decodeTableWord 24 0x186FCE = some (.deid (.plain (.reg 3)) (.plain (.reg 1))) ∧
    decodeTableWord 24 0x2170CE = some (.quob (.plain (.reg 4)) (.plain (.reg 5))) ∧
    decodeTableWord 24 0x29F1CE = some (.quow (.plain (.reg 5)) (.plain (.reg 7))) ∧
    decodeTableWord 24 0x30B3CE = some (.quod (.plain (.reg 6)) (.plain (.reg 2))) ∧
    decodeTableWord 24 0x3974CE = some (.remb (.plain (.reg 7)) (.plain (.reg 5))) ∧
    decodeTableWord 24 0x835CE = some (.remw (.plain (.reg 1)) (.plain (.reg 0))) ∧
    decodeTableWord 24 0x10F7CE = some (.remd (.plain (.reg 2)) (.plain (.reg 3))) ∧
    decodeTableWord 24 0x19B8CE = some (.modb (.plain (.reg 3)) (.plain (.reg 6))) ∧
    decodeTableWord 24 0x2079CE = some (.modw (.plain (.reg 4)) (.plain (.reg 1))) ∧
    decodeTableWord 24 0x293BCE = some (.modd (.plain (.reg 5)) (.plain (.reg 4))) ∧
    decodeTableWord 24 0x31FCCE = some (.divb (.plain (.reg 6)) (.plain (.reg 7))) ∧
    decodeTableWord 24 0x38BDCE = some (.divw (.plain (.reg 7)) (.plain (.reg 2))) ∧
    decodeTableWord 24 0x97FCE = some (.divd (.plain (.reg 1)) (.plain (.reg 5))) := by
  exact ⟨rfl, rfl, rfl, rfl, rfl, rfl, rfl, rfl, rfl, rfl, rfl, rfl, rfl, rfl, rfl⟩
theorem test_decode_format_8_1 :
    decodeTableWord 24 0x10282E = some (.extb 5 (.plain (.reg 2)) (.plain (.reg 0)) (.d7 0)) ∧
    decodeTableWord 24 0x19312E = some (.extw 6 (.plain (.reg 3)) (.plain (.reg 4)) (.d7 0)) ∧
    decodeTableWord 24 0x21BB2E = some (.extd 7 (.plain (.reg 4)) (.plain (.reg 6)) (.d7 0)) ∧
    decodeTableWord 24 0x28436E = some (.cvtp 0 (.plain (.reg 5)) (.plain (.reg 1))) ∧
    decodeTableWord 24 0x3108AE = some (.insb 1 (.plain (.reg 6)) (.plain (.reg 4)) (.d7 0)) ∧
    decodeTableWord 24 0x3811AE = some (.insw 2 (.plain (.reg 7)) (.plain (.reg 0)) (.d7 0)) ∧
    decodeTableWord 24 0x89BAE = some (.insd 3 (.plain (.reg 1)) (.plain (.reg 2)) (.d7 0)) ∧
    decodeTableWord 24 0x1160EE = some (.checkb 4 (.plain (.reg 2)) (.plain (.reg 5))) ∧
    decodeTableWord 24 0x1829EE = some (.checkw 5 (.plain (.reg 3)) (.plain (.reg 0))) ∧
    decodeTableWord 24 0x20F3EE = some (.checkd 6 (.plain (.reg 4)) (.plain (.reg 3))) ∧
    decodeTableWord 24 0x29BC2E = some (.indexb 7 (.plain (.reg 5)) (.plain (.reg 6))) ∧
    decodeTableWord 24 0x30452E = some (.indexw 0 (.plain (.reg 6)) (.plain (.reg 1))) ∧
    decodeTableWord 24 0x390F2E = some (.indexd 1 (.plain (.reg 7)) (.plain (.reg 4))) ∧
    decodeTableWord 24 0x9C46E = some (.ffsb (.plain (.reg 1)) (.plain (.reg 7))) ∧
    decodeTableWord 24 0x10C56E = some (.ffsw (.plain (.reg 2)) (.plain (.reg 3))) ∧
    decodeTableWord 24 0x19476E = some (.ffsd (.plain (.reg 3)) (.plain (.reg 5))) ∧
    decodeTableWord 24 0x200CAE = some (.movsub (.plain (.reg 4)) (.plain (.reg 0))) ∧
    decodeTableWord 24 0x28CDAE = some (.movsuw (.plain (.reg 5)) (.plain (.reg 3))) ∧
    decodeTableWord 24 0x31CFAE = some (.movsud (.plain (.reg 6)) (.plain (.reg 7))) ∧
    decodeTableWord 24 0x385CAE = some (.movusb (.plain (.reg 7)) (.plain (.reg 1))) ∧
    decodeTableWord 24 0x91DAE = some (.movusw (.plain (.reg 1)) (.plain (.reg 4))) ∧
    decodeTableWord 24 0x11DFAE = some (.movusd (.plain (.reg 2)) (.plain (.reg 7))) := by
  exact ⟨rfl, rfl, rfl, rfl, rfl, rfl, rfl, rfl, rfl, rfl, rfl, rfl, rfl, rfl, rfl, rfl, rfl, rfl, rfl, rfl, rfl, rfl⟩
theorem test_decode_format_9_1 :
    decodeTableWord 24 0x18843E = some (.movbf (.plain (.reg 3)) (.plain (.reg 2))) ∧
    decodeTableWord 24 0x21453E = some (.movwf (.plain (.reg 4)) (.plain (.reg 5))) ∧
    decodeTableWord 24 0x28073E = some (.movdf (.plain (.reg 5)) (.plain (.reg 0))) ∧
    decodeTableWord 24 0x30C03E = some (.movbl (.plain (.reg 6)) (.plain (.reg 3))) ∧
    decodeTableWord 24 0x39813E = some (.movwl (.plain (.reg 7)) (.plain (.reg 6))) ∧
    decodeTableWord 24 0x8833E = some (.movdl (.plain (.reg 1)) (.plain (.reg 2))) ∧
    decodeTableWord 24 0x100F3E = some (.lfsr (.plain (.reg 2))) ∧
    decodeTableWord 24 0x19D63E = some (.movlf (.plain (.reg 3)) (.plain (.reg 7))) ∧
    decodeTableWord 24 0x209B3E = some (.movfl (.plain (.reg 4)) (.plain (.reg 2))) ∧
    decodeTableWord 24 0x29A43E = some (.roundfb (.plain (.reg 5)) (.plain (.reg 6))) ∧
    decodeTableWord 24 0x30253E = some (.roundfw (.plain (.reg 6)) (.plain (.reg 0))) ∧
    decodeTableWord 24 0x38E73E = some (.roundfd (.plain (.reg 7)) (.plain (.reg 3))) ∧
    decodeTableWord 24 0x9A03E = some (.roundlb (.plain (.reg 1)) (.plain (.reg 6))) ∧
    decodeTableWord 24 0x10613E = some (.roundlw (.plain (.reg 2)) (.plain (.reg 1))) ∧
    decodeTableWord 24 0x19233E = some (.roundld (.plain (.reg 3)) (.plain (.reg 4))) ∧
    decodeTableWord 24 0x21EC3E = some (.truncfb (.plain (.reg 4)) (.plain (.reg 7))) ∧
    decodeTableWord 24 0x28AD3E = some (.truncfw (.plain (.reg 5)) (.plain (.reg 2))) ∧
    decodeTableWord 24 0x316F3E = some (.truncfd (.plain (.reg 6)) (.plain (.reg 5))) ∧
    decodeTableWord 24 0x38283E = some (.trunclb (.plain (.reg 7)) (.plain (.reg 0))) ∧
    decodeTableWord 24 0x8E93E = some (.trunclw (.plain (.reg 1)) (.plain (.reg 3))) ∧
    decodeTableWord 24 0x11AB3E = some (.truncld (.plain (.reg 2)) (.plain (.reg 6))) ∧
    decodeTableWord 24 0x187C3E = some (.floorfb (.plain (.reg 3)) (.plain (.reg 1))) ∧
    decodeTableWord 24 0x217D3E = some (.floorfw (.plain (.reg 4)) (.plain (.reg 5))) ∧
    decodeTableWord 24 0x29FF3E = some (.floorfd (.plain (.reg 5)) (.plain (.reg 7))) := by
  exact ⟨rfl, rfl, rfl, rfl, rfl, rfl, rfl, rfl, rfl, rfl, rfl, rfl, rfl, rfl, rfl, rfl, rfl, rfl, rfl, rfl, rfl, rfl, rfl, rfl⟩
theorem test_decode_format_9_2 :
    decodeTableWord 24 0x30B83E = some (.floorlb (.plain (.reg 6)) (.plain (.reg 2))) ∧
    decodeTableWord 24 0x39793E = some (.floorlw (.plain (.reg 7)) (.plain (.reg 5))) ∧
    decodeTableWord 24 0x83B3E = some (.floorld (.plain (.reg 1)) (.plain (.reg 0))) ∧
    decodeTableWord 24 0xB73E = some (.sfsr (.plain (.reg 2))) := by
  exact ⟨rfl, rfl, rfl, rfl⟩
theorem test_decode_format_11_1 :
    decodeTableWord 24 0x1981BE = some (.addf (.plain (.reg 3)) (.plain (.reg 6))) ∧
    decodeTableWord 24 0x2040BE = some (.addl (.plain (.reg 4)) (.plain (.reg 1))) ∧
    decodeTableWord 24 0x2905BE = some (.movf (.plain (.reg 5)) (.plain (.reg 4))) ∧
    decodeTableWord 24 0x31C4BE = some (.movl (.plain (.reg 6)) (.plain (.reg 7))) ∧
    decodeTableWord 24 0x3889BE = some (.cmpf (.plain (.reg 7)) (.plain (.reg 2))) ∧
    decodeTableWord 24 0x948BE = some (.cmpl (.plain (.reg 1)) (.plain (.reg 5))) ∧
    decodeTableWord 24 0x1011BE = some (.subf (.plain (.reg 2)) (.plain (.reg 0))) ∧
    decodeTableWord 24 0x1910BE = some (.subl (.plain (.reg 3)) (.plain (.reg 4))) ∧
    decodeTableWord 24 0x2195BE = some (.negf (.plain (.reg 4)) (.plain (.reg 6))) ∧
    decodeTableWord 24 0x2854BE = some (.negl (.plain (.reg 5)) (.plain (.reg 1))) ∧
    decodeTableWord 24 0x3121BE = some (.divf (.plain (.reg 6)) (.plain (.reg 4))) ∧
    decodeTableWord 24 0x3820BE = some (.divl (.plain (.reg 7)) (.plain (.reg 0))) ∧
    decodeTableWord 24 0x8B1BE = some (.mulf (.plain (.reg 1)) (.plain (.reg 2))) ∧
    decodeTableWord 24 0x1170BE = some (.mull (.plain (.reg 2)) (.plain (.reg 5))) ∧
    decodeTableWord 24 0x1835BE = some (.absf (.plain (.reg 3)) (.plain (.reg 0))) ∧
    decodeTableWord 24 0x20F4BE = some (.absl (.plain (.reg 4)) (.plain (.reg 3))) ∧
    decodeTableWord 24 0xAA8DBE = some (.illegalFp0011 0x15 0x0A 1) ∧
    decodeTableWord 24 0xAAA5BE = some (.illegalFp1001 0x15 0x0A 1) := by
  exact ⟨rfl, rfl, rfl, rfl, rfl, rfl, rfl, rfl, rfl, rfl, rfl, rfl, rfl, rfl, rfl, rfl, rfl, rfl⟩
theorem test_decode_format_12_1 :
    decodeTableWord 24 0x2989FE = some (.polyf (.plain (.reg 5)) (.plain (.reg 6))) ∧
    decodeTableWord 24 0x3048FE = some (.polyl (.plain (.reg 6)) (.plain (.reg 1))) ∧
    decodeTableWord 24 0x390DFE = some (.dotf (.plain (.reg 7)) (.plain (.reg 4))) ∧
    decodeTableWord 24 0x9CCFE = some (.dotl (.plain (.reg 1)) (.plain (.reg 7))) ∧
    decodeTableWord 24 0x10D1FE = some (.scalbf (.plain (.reg 2)) (.plain (.reg 3))) ∧
    decodeTableWord 24 0x1950FE = some (.scalbl (.plain (.reg 3)) (.plain (.reg 5))) ∧
    decodeTableWord 24 0x2015FE = some (.logbf (.plain (.reg 4)) (.plain (.reg 0))) ∧
    decodeTableWord 24 0x28D4FE = some (.logbl (.plain (.reg 5)) (.plain (.reg 3))) := by
  exact ⟨rfl, rfl, rfl, rfl, rfl, rfl, rfl, rfl⟩
theorem test_decode_format_14_1 :
    decodeTableWord 24 0x8031E = some (.rdval (.plain (.reg 1))) ∧
    decodeTableWord 24 0x10071E = some (.wrval (.plain (.reg 2))) ∧
    decodeTableWord 24 0x1D8B1E = some (.lmr .tear (.plain (.reg 3))) ∧
    decodeTableWord 24 0x258F1E = some (.smr .tear (.plain (.reg 4))) ∧
    decodeTableWord 24 0x2AA71E = some (.cinv true false true (.plain (.reg 5))) := by
  exact ⟨rfl, rfl, rfl, rfl, rfl⟩
theorem test_decode_format_custom_1 :
    decodeTableWord 8 0x16 = some .custom16 ∧
    decodeTableWord 8 0x36 = some .custom36 ∧
    decodeTableWord 8 0xB6 = some .customB6 := by
  exact ⟨rfl, rfl, rfl⟩
/-! ## Single steps: a small state, one instruction at PC, and what the spec says of the result

The name of each theorem ends in the number of its vector in spec/96_derived_vectors.md. -/

/-- Writes n bytes of a number to memory. -/
def poke : Nat → Nat → Nat → State → State
  | 0, _, _, s => s
  | n + 1, a, v, s => poke n (a + 1) (v / 256) { s with mem := s.mem.set (a % 2 ^ 32) (BitVec.ofNat 8 v) }

/-- Reads n bytes of memory as a number. -/
def peek : Nat → Nat → State → Nat
  | 0, _, _ => 0
  | n + 1, a, s => (s.mem.get (a % 2 ^ 32)).toNat + 256 * peek n (a + 1) s

/-- The state the vectors start from: PC 0x1000, both stacks, INTBASE 0x400, CFG 0xF6. -/
def start : State :=
  { State.reset with
    pc := 0x1000, sp0 := 0x1020, sp1 := 0xFFF0, fp := 0x77777777, sb := 0x9080, mod := 0x10
    cfg := 0xF6, intbase := 0x400
    regs := #v[0xA5A5A5A0, 0xA5A5A5A1, 0xA5A5A5A2, 0xA5A5A5A3, 0xA5A5A5A4, 0xA5A5A5A5, 0xA5A5A5A6,
      0xA5A5A5A7] }

/-- Dispatch-table entry v, whose procedure is at 0xF100 + 16 v in the module at 0x20 (Program Base
0xF000). -/
def entry (v : Nat) (s : State) : State :=
  poke 4 (0x400 + 4 * v) ((0x100 + 16 * v) * 65536 + 0x20) (poke 2 0x28 0xF000 s)

/-- Whether the step that runs a word at PC gives a next state with a property. -/
noncomputable def after (nbits w : Nat) (s : State) (p : State → Bool) : Bool :=
  match step (s.withFetchWord nbits w) with
  | .next t => p t
  | _ => false

/-- ADDB R0,R1 (I1) -/
theorem test_step_addb_I1 : after 16 0x40
    ({ start with regs := ((start.regs.set 0 0xA5A5A57F).set 1 0xA5A5A501) }) (fun t =>
      decide (t.reg 1 = 0xA5A5A580) &&
      decide (t.psr = 0x20) &&
      decide (t.pc = 0x1002)) = true := by decide
/-- ADDQD -1,R0 (I8) -/
theorem test_step_addqd_I8 : after 16 0x78F
    ({ start with regs := (start.regs.set 0 0x0) }) (fun t =>
      decide (t.reg 0 = 0xFFFFFFFF) &&
      decide (t.psr = 0x0) &&
      decide (t.pc = 0x1002)) = true := by decide
/-- ADDCB R0,R1 (I12) -/
theorem test_step_addcb_I12 : after 16 0x50
    ({ start with regs := ((start.regs.set 0 0xA5A5A500).set 1 0xA5A5A5FF), psr := 0x1 }) (fun t =>
      decide (t.reg 1 = 0xA5A5A500) &&
      decide (t.psr = 0x1) &&
      decide (t.pc = 0x1002)) = true := by decide
/-- SUBB R0,R1 (I15) -/
theorem test_step_subb_I15 : after 16 0x60
    ({ start with regs := ((start.regs.set 0 0xA5A5A501).set 1 0xA5A5A500) }) (fun t =>
      decide (t.reg 1 = 0xA5A5A5FF) &&
      decide (t.psr = 0x1) &&
      decide (t.pc = 0x1002)) = true := by decide
/-- SUBCB R0,R1 (I19) -/
theorem test_step_subcb_I19 : after 16 0x70
    ({ start with regs := ((start.regs.set 0 0xA5A5A500).set 1 0xA5A5A500), psr := 0x1 }) (fun t =>
      decide (t.reg 1 = 0xA5A5A5FF) &&
      decide (t.psr = 0x1) &&
      decide (t.pc = 0x1002)) = true := by decide
/-- NEGB R0,R1 (I22) -/
theorem test_step_negb_I22 : after 24 0x604E
    ({ start with regs := (start.regs.set 0 0xA5A5A500) }) (fun t =>
      decide (t.reg 1 = 0xA5A5A500) &&
      decide (t.psr = 0x0) &&
      decide (t.pc = 0x1003)) = true := by decide
/-- ABSB R0,R1 (I27) -/
theorem test_step_absb_I27 : after 24 0x704E
    ({ start with regs := (start.regs.set 0 0xA5A5A580) }) (fun t =>
      decide (t.reg 1 = 0xA5A5A580) &&
      decide (t.psr = 0x20) &&
      decide (t.pc = 0x1003)) = true := by decide
/-- MULB R0,R1 (I31) -/
theorem test_step_mulb_I31 : after 24 0x60CE
    ({ start with regs := ((start.regs.set 0 0xA5A5A510).set 1 0xA5A5A510) }) (fun t =>
      decide (t.reg 1 = 0xA5A5A500) &&
      decide (t.pc = 0x1003)) = true := by decide
/-- MEID R0,R2 (I37) -/
theorem test_step_meid_I37 : after 24 0xA7CE
    ({ start with regs := (((start.regs.set 0 0xFFFFFFFF).set 2 0xFFFFFFFF).set 3 0x12345678) }) (fun t =>
      decide (t.reg 2 = 0x1) &&
      decide (t.reg 3 = 0xFFFFFFFE) &&
      decide (t.pc = 0x1003)) = true := by decide
/-- DIVB R0,R1 (I39) -/
theorem test_step_divb_I39 : after 24 0x7CCE
    ({ start with regs := ((start.regs.set 0 0xA5A5A502).set 1 0xA5A5A507) }) (fun t =>
      decide (t.reg 1 = 0xA5A5A503) &&
      decide (t.pc = 0x1003)) = true := by decide
/-- MODB R0,R1 (I45) -/
theorem test_step_modb_I45 : after 24 0x78CE
    ({ start with regs := ((start.regs.set 0 0xA5A5A502).set 1 0xA5A5A507) }) (fun t =>
      decide (t.reg 1 = 0xA5A5A501) &&
      decide (t.pc = 0x1003)) = true := by decide
/-- QUOB R0,R1 (I51) -/
theorem test_step_quob_I51 : after 24 0x70CE
    ({ start with regs := ((start.regs.set 0 0xA5A5A502).set 1 0xA5A5A507) }) (fun t =>
      decide (t.reg 1 = 0xA5A5A503) &&
      decide (t.pc = 0x1003)) = true := by decide
/-- REMB R0,R1 (I57) -/
theorem test_step_remb_I57 : after 24 0x74CE
    ({ start with regs := ((start.regs.set 0 0xA5A5A502).set 1 0xA5A5A507) }) (fun t =>
      decide (t.reg 1 = 0xA5A5A501) &&
      decide (t.pc = 0x1003)) = true := by decide
/-- DEIB R0,R2 (I72) -/
theorem test_step_deib_I72 : after 24 0xACCE
    ({ start with regs := (((start.regs.set 0 0xA5A5A556).set 2 0xAAAAAA34).set 3 0xBBBBBB12) }) (fun t =>
      decide (t.reg 2 = 0xAAAAAA10) &&
      decide (t.reg 3 = 0xBBBBBB36) &&
      decide (t.pc = 0x1003)) = true := by decide
/-- MOVB R0,R1 (I76) -/
theorem test_step_movb_I76 : after 16 0x54
    ({ start with regs := ((start.regs.set 0 0x12345678).set 1 0xAAAAAAAA) }) (fun t =>
      decide (t.reg 1 = 0xAAAAAA78) &&
      decide (t.pc = 0x1002)) = true := by decide
/-- MOVQD -8,R0 (I80) -/
theorem test_step_movqd_I80 : after 16 0x45F
    ({ start with regs := (start.regs.set 0 0xAAAAAAAA) }) (fun t =>
      decide (t.reg 0 = 0xFFFFFFF8) &&
      decide (t.pc = 0x1002)) = true := by decide
/-- MOVXBD R1,R0 (I83) -/
theorem test_step_movxbd_I83 : after 24 0x81CCE
    ({ start with regs := (start.regs.set 1 0xA5A5A57F) }) (fun t =>
      decide (t.reg 0 = 0x7F) &&
      decide (t.pc = 0x1003)) = true := by decide
/-- MOVZBW R1,R0 (I85) -/
theorem test_step_movzbw_I85 : after 24 0x814CE
    ({ start with regs := ((start.regs.set 0 0xAAAAAAAA).set 1 0xA5A5A580) }) (fun t =>
      decide (t.reg 0 = 0xAAAA0080) &&
      decide (t.pc = 0x1003)) = true := by decide
/-- CMPB R0,R1 (I86) -/
theorem test_step_cmpb_I86 : after 16 0x44
    ({ start with regs := ((start.regs.set 0 0xA5A5A555).set 1 0xA5A5A555) }) (fun t =>
      decide (t.psr = 0x40) &&
      decide (t.pc = 0x1002)) = true := by decide
/-- CMPQD -1,R0 (I91) -/
theorem test_step_cmpqd_I91 : after 16 0x79F
    ({ start with regs := (start.regs.set 0 0xFFFFFFFF) }) (fun t =>
      decide (t.psr = 0x40) &&
      decide (t.pc = 0x1002)) = true := by decide
/-- ADDPB R0,R1 (P1) -/
theorem test_step_addpb_P1 : after 24 0x7C4E
    ({ start with regs := ((start.regs.set 0 0xA5A5A545).set 1 0xA5A5A555), psr := 0x20 }) (fun t =>
      decide (t.reg 1 = 0xA5A5A500) &&
      decide (t.psr = 0x1) &&
      decide (t.pc = 0x1003)) = true := by decide
/-- SUBPB R0,R1 (P7) -/
theorem test_step_subpb_P7 : after 24 0x6C4E
    ({ start with regs := ((start.regs.set 0 0xA5A5A501).set 1 0xA5A5A500) }) (fun t =>
      decide (t.reg 1 = 0xA5A5A599) &&
      decide (t.psr = 0x1) &&
      decide (t.pc = 0x1003)) = true := by decide
/-- ADDF F0,F2 (F1_0) -/
theorem test_step_addf_F1_0 : after 24 0x81BE
    ({ start with fd := ((start.fd.set 0 0x33800000).set 2 0x3F800000) }) (fun t =>
      decide (t.fsr = 0x10046) &&
      decide (t.fd[2] = 0x3F800000) &&
      decide (t.pc = 0x1003)) = true := by decide
/-- SUBF F0,F2 (F7_0) -/
theorem test_step_subf_F7_0 : after 24 0x91BE
    ({ start with fd := ((start.fd.set 0 0x3F800000).set 2 0x3F800001) }) (fun t =>
      decide (t.fsr = 0x10000) &&
      decide (t.fd[2] = 0x34000000) &&
      decide (t.pc = 0x1003)) = true := by decide
/-- MULF F0,F2 (F8_0) -/
theorem test_step_mulf_F8_0 : after 24 0xB1BE
    ({ start with fd := ((start.fd.set 0 0x3F000000).set 2 0x800000) }) (fun t =>
      decide (t.fsr = 0x10011) &&
      decide (t.fd[2] = 0x0) &&
      decide (t.pc = 0x1003)) = true := by decide
/-- DIVF F0,F2 (F12_0) -/
theorem test_step_divf_F12_0 : after 24 0xA1BE
    ({ start with fd := ((start.fd.set 0 0x40400000).set 2 0x3F800000) }) (fun t =>
      decide (t.fsr = 0x10046) &&
      decide (t.fd[2] = 0x3EAAAAAB) &&
      decide (t.pc = 0x1003)) = true := by decide
/-- MOVDF R0,F0 (F17_0) -/
theorem test_step_movdf_F17_0 : after 24 0x73E
    ({ start with regs := (start.regs.set 0 0x1000001) }) (fun t =>
      decide (t.fsr = 0x10046) &&
      decide (t.fd[0] = 0x4B800000) &&
      decide (t.pc = 0x1003)) = true := by decide
/-- MOVBF R0,F0 (F25_0) -/
theorem test_step_movbf_F25_0 : after 24 0x43E
    ({ start with regs := (start.regs.set 0 0xA5A5A580) }) (fun t =>
      decide (t.fsr = 0x10000) &&
      decide (t.fd[0] = 0xC3000000) &&
      decide (t.pc = 0x1003)) = true := by decide
/-- MOVDL R0,F0 (F26_0) -/
theorem test_step_movdl_F26_0 : after 24 0x33E
    ({ start with regs := (start.regs.set 0 0x7FFFFFFF) }) (fun t =>
      decide (t.fsr = 0x10000) &&
      decide (t.fd[0] = 0x41DFFFFFFFC00000) &&
      decide (t.pc = 0x1003)) = true := by decide
/-- MOVLF F0,F2 (F27_0) -/
theorem test_step_movlf_F27_0 : after 24 0x963E
    ({ start with fd := (start.fd.set 0 0x3FF0000010000000) }) (fun t =>
      decide (t.fsr = 0x10046) &&
      decide (t.fd[2] = 0x3F800000) &&
      decide (t.pc = 0x1003)) = true := by decide
/-- MOVFL F0,F2 (F37_0) -/
theorem test_step_movfl_F37_0 : after 24 0x9B3E
    ({ start with fd := (start.fd.set 0 0x800000) }) (fun t =>
      decide (t.fsr = 0x10000) &&
      decide (t.fd[2] = 0x3810000000000000) &&
      decide (t.pc = 0x1003)) = true := by decide
/-- 40200000 (F38_0) -/
theorem test_step_roundfb_F38_0 : after 24 0x243E
    ({ start with regs := (start.regs.set 0 0xAAAAAAAA), fd := (start.fd.set 0 0x40200000) }) (fun t =>
      decide (t.reg 0 = 0xAAAAAA02) &&
      decide (t.fsr = 0x46) &&
      decide (t.pc = 0x1003)) = true := by decide
/-- 40200000 (F38_1) -/
theorem test_step_truncfb_F38_1 : after 24 0x2C3E
    ({ start with regs := (start.regs.set 0 0xAAAAAAAA), fd := (start.fd.set 0 0x40200000) }) (fun t =>
      decide (t.reg 0 = 0xAAAAAA02) &&
      decide (t.fsr = 0x46) &&
      decide (t.pc = 0x1003)) = true := by decide
/-- 40200000 (F38_2) -/
theorem test_step_floorfb_F38_2 : after 24 0x3C3E
    ({ start with regs := (start.regs.set 0 0xAAAAAAAA), fd := (start.fd.set 0 0x40200000) }) (fun t =>
      decide (t.reg 0 = 0xAAAAAA02) &&
      decide (t.fsr = 0x46) &&
      decide (t.pc = 0x1003)) = true := by decide
/-- MOVF H'7F800000,F0 (F63) -/
theorem test_step_movf_F63 : after 56 0x807FA005BE
    ({ start with fsr := 0x5 }) (fun t =>
      decide (t.fd[0] = 0x7F800000) &&
      decide (t.fsr = 0x10000) &&
      decide (t.pc = 0x1007)) = true := by decide
/-- CMPF F0,F2 (F75) -/
theorem test_step_cmpf_F75 : after 24 0x89BE
    ({ start with fd := (start.fd.set 0 0x80000000), psr := 0xE5 }) (fun t =>
      decide (t.psr = 0x61) &&
      decide (t.pc = 0x1003)) = true := by decide
/-- NEGF F0,F2 (F79) -/
theorem test_step_negf_F79 : after 24 0x95BE
    (start) (fun t =>
      decide (t.fd[2] = 0x80000000) &&
      decide (t.fsr = 0x10000) &&
      decide (t.pc = 0x1003)) = true := by decide
/-- ABSF F0,F2 (F80) -/
theorem test_step_absf_F80 : after 24 0xB5BE
    ({ start with fd := (start.fd.set 0 0x80000000) }) (fun t =>
      decide (t.fd[2] = 0x0) &&
      decide (t.pc = 0x1003)) = true := by decide
/-- LOGBF F0,F2 (F100) -/
theorem test_step_logbf_F100 : after 24 0x95FE
    ({ start with fd := (start.fd.set 0 0x3F000000) }) (fun t =>
      decide (t.fd[2] = 0xBF800000) &&
      decide (t.pc = 0x1003)) = true := by decide
/-- SCALBF F0,F2 (F104) -/
theorem test_step_scalbf_F104 : after 24 0x91FE
    ({ start with fd := ((start.fd.set 0 0xC0200000).set 2 0x41000000) }) (fun t =>
      decide (t.fd[2] = 0x40000000) &&
      decide (t.pc = 0x1003)) = true := by decide
/-- DOTF F2,F3 (F107) -/
theorem test_step_dotf_F107 : after 24 0x10CDFE
    ({ start with fd := ((start.fd.set 0 0x3F800000).set 2 0x4040000040000000) }) (fun t =>
      decide (t.fd[0] = 0x40E00000) &&
      decide (t.pc = 0x1003)) = true := by decide
/-- POLYF F2,F3 (F108) -/
theorem test_step_polyf_F108 : after 24 0x10C9FE
    ({ start with fd := ((start.fd.set 0 0x3F800000).set 2 0x4040000040000000) }) (fun t =>
      decide (t.fd[0] = 0x40A00000) &&
      decide (t.pc = 0x1003)) = true := by decide
/-- ANDD R0,R1 (G1) -/
theorem test_step_andd_G1 : after 16 0x6B
    ({ start with regs := ((start.regs.set 0 0xFF00FF00).set 1 0x12345678) }) (fun t =>
      decide (t.reg 1 = 0x12005600) &&
      decide (t.pc = 0x1002)) = true := by decide
/-- ORW R0,R1 (G2) -/
theorem test_step_orw_G2 : after 16 0x59
    ({ start with regs := ((start.regs.set 0 0xA5A500FF).set 1 0xAAAA5500) }) (fun t =>
      decide (t.reg 1 = 0xAAAA55FF) &&
      decide (t.pc = 0x1002)) = true := by decide
/-- BICD R0,R1 (G3) -/
theorem test_step_bicd_G3 : after 16 0x4B
    ({ start with regs := ((start.regs.set 0 0xFFFF).set 1 0x12345678) }) (fun t =>
      decide (t.reg 1 = 0x12340000) &&
      decide (t.pc = 0x1002)) = true := by decide
/-- XORD R0,R0 (G4) -/
theorem test_step_xord_G4 : after 16 0x3B
    ({ start with regs := (start.regs.set 0 0x12345678) }) (fun t =>
      decide (t.reg 0 = 0x0) &&
      decide (t.pc = 0x1002)) = true := by decide
/-- COMD R0,R1 (G5) -/
theorem test_step_comd_G5 : after 24 0x774E
    ({ start with regs := (start.regs.set 0 0x0) }) (fun t =>
      decide (t.reg 1 = 0xFFFFFFFF) &&
      decide (t.pc = 0x1003)) = true := by decide
/-- NOTD R0,R1 (G6) -/
theorem test_step_notd_G6 : after 24 0x674E
    ({ start with regs := (start.regs.set 0 0x2) }) (fun t =>
      decide (t.reg 1 = 0x3) &&
      decide (t.pc = 0x1003)) = true := by decide
/-- ASHB 7,R0 (G7) -/
theorem test_step_ashb_G7 : after 32 0x7A0044E
    ({ start with regs := (start.regs.set 0 0xA5A5A501) }) (fun t =>
      decide (t.reg 0 = 0xA5A5A580) &&
      decide (t.pc = 0x1004)) = true := by decide
/-- LSHB -7,R0 (G18) -/
theorem test_step_lshb_G18 : after 32 0xF9A0144E
    ({ start with regs := (start.regs.set 0 0xA5A5A580) }) (fun t =>
      decide (t.reg 0 = 0xA5A5A501) &&
      decide (t.pc = 0x1004)) = true := by decide
/-- ROTB 7,R0 (G24) -/
theorem test_step_rotb_G24 : after 32 0x7A0004E
    ({ start with regs := (start.regs.set 0 0xA5A5A581) }) (fun t =>
      decide (t.reg 0 = 0xA5A5A5C0) &&
      decide (t.pc = 0x1004)) = true := by decide
/-- SGED R1 (G34) -/
theorem test_step_sged_G34 : after 16 0xEBF
    ({ start with regs := (start.regs.set 1 0xAAAAAAAA), psr := 0x80 }) (fun t =>
      decide (t.reg 1 = 0x1) &&
      decide (t.pc = 0x1002)) = true := by decide
/-- TBITD R0,@H'1003 (B1) -/
theorem test_step_tbitd_B1 : after 32 0x3900577
    (poke 1 0x1001 0x8 ({ start with regs := (start.regs.set 0 0xFFFFFFF3), pc := 0x8000 })) (fun t =>
      decide (t.psr = 0x20) &&
      decide (t.pc = 0x8004)) = true := by decide
/-- SBITB 7,R1 (B5) -/
theorem test_step_sbitb_B5 : after 32 0x7A0584E
    ({ start with regs := (start.regs.set 1 0x0), pc := 0x8000, psr := 0x20 }) (fun t =>
      decide (t.reg 1 = 0x80) &&
      decide (t.psr = 0x0) &&
      decide (t.pc = 0x8004)) = true := by decide
/-- CBITD R0,@H'1000 (B7) -/
theorem test_step_cbitd_B7 : after 40 0x90054B4E
    (poke 1 0x1003 0xFF ({ start with regs := (start.regs.set 0 0x1C), pc := 0x8000 })) (fun t =>
      decide (peek 1 0x1003 t = 0xEF) &&
      decide (t.psr = 0x20) &&
      decide (t.pc = 0x8005)) = true := by decide
/-- IBITB 0,TOS (B9) -/
theorem test_step_ibitb_B9 : after 32 0xA5F84E
    (poke 1 0x2000 0x1 ({ start with pc := 0x8000, sp0 := 0x2000 })) (fun t =>
      decide (peek 1 0x2000 t = 0x0) &&
      decide (t.psr = 0x20) &&
      decide (t.sp = 0x2000) &&
      decide (t.pc = 0x8004)) = true := by decide
/-- SBITIB 0,@H'1000 (B10) -/
theorem test_step_sbitib_B10 : after 48 0x9000A55C4E
    ({ start with pc := 0x8000 }) (fun t =>
      decide (peek 1 0x1000 t = 0x1) &&
      decide (t.psr = 0x0) &&
      decide (t.pc = 0x8006)) = true := by decide
/-- CBITIB 0,@H'1000 (B11) -/
theorem test_step_cbitib_B11 : after 48 0x9000A54C4E
    (poke 1 0x1000 0x1 ({ start with pc := 0x8000 })) (fun t =>
      decide (peek 1 0x1000 t = 0x0) &&
      decide (t.psr = 0x20) &&
      decide (t.pc = 0x8006)) = true := by decide
/-- FFSD R1,R0 (B12) -/
theorem test_step_ffsd_B12 : after 24 0x8076E
    ({ start with regs := ((start.regs.set 0 0xAAAAAA00).set 1 0x80000000), pc := 0x8000 }) (fun t =>
      decide (t.reg 0 = 0xAAAAAA1F) &&
      decide (t.psr = 0x0) &&
      decide (t.pc = 0x8003)) = true := by decide
/-- CVTP R0,@H'1000,R1 (B17) -/
theorem test_step_cvtp_B17 : after 40 0x90A8436E
    ({ start with regs := (start.regs.set 0 0xFFFFFFFF), pc := 0x8000 }) (fun t =>
      decide (t.reg 1 = 0x7FFF) &&
      decide (t.pc = 0x8005)) = true := by decide
/-- EXTD R0,@H'1004,R2,8 (B19) -/
theorem test_step_extd_B19 : after 48 0x80490A8832E
    (poke 2 0x1003 0x3CA5 ({ start with regs := (start.regs.set 0 0xFFFFFFFC), pc := 0x8000 })) (fun t =>
      decide (t.reg 2 = 0xCA) &&
      decide (t.pc = 0x8006)) = true := by decide
/-- EXTSD R1,R0,0,32 (B24) -/
theorem test_step_extsd_B24 : after 32 0x1F080FCE
    ({ start with regs := (start.regs.set 1 0xDEADBEEF), pc := 0x8000 }) (fun t =>
      decide (t.reg 0 = 0xDEADBEEF) &&
      decide (t.pc = 0x8004)) = true := by decide
/-- INSD R0,R2,@H'1004,8 (B26) -/
theorem test_step_insd_B26 : after 48 0x804901543AE
    (poke 4 0x1003 0xFFFFFFFF ({ start with regs := ((start.regs.set 0 0xFFFFFFFC).set 2 0xA5A5A55A), pc := 0x8000 })) (fun t =>
      decide (peek 4 0x1003 t = 0xFFFFF5AF) &&
      decide (t.pc = 0x8006)) = true := by decide
/-- INSSD R2,R1,4,8 (B28) -/
theorem test_step_inssd_B28 : after 32 0x87104BCE
    ({ start with regs := ((start.regs.set 1 0xFFFFFFFF).set 2 0x1A5), pc := 0x8000 }) (fun t =>
      decide (t.reg 1 = 0xFFFFFA5F) &&
      decide (t.pc = 0x8004)) = true := by decide
/-- MOVMB @H'1000,@H'2000,16 (K1) -/
theorem test_step_movmb_K1 : after 80 0xF002000C00090AD40CE
    (poke 3 0x100D 0xF0E0D (poke 4 0x1009 0xC0B0A09 (poke 4 0x1005 0x8070605 (poke 4 0x1001 0x4030201 ({ start with pc := 0x8000 }))))) (fun t =>
      decide (peek 16 0x2000 t = 0xF0E0D0C0B0A09080706050403020100) &&
      decide (t.pc = 0x800A)) = true := by decide
/-- CMPMB @H'1000,@H'2000,4 (K6) -/
theorem test_step_cmpmb_K6 : after 80 0x3002000C00090AD44CE
    (poke 4 0x2000 0x4030201 (poke 4 0x1000 0x4030201 ({ start with pc := 0x8000, psr := 0x84 }))) (fun t =>
      decide (t.psr = 0x40) &&
      decide (t.pc = 0x800A)) = true := by decide
/-- CHECKB R0,@H'1000,R1 (K10) -/
theorem test_step_checkb_K10 : after 40 0x90A840EE
    (poke 2 0x1000 0xFB0A ({ start with regs := ((start.regs.set 0 0xAAAAAAAA).set 1 0xA5A5A5FB), pc := 0x8000 })) (fun t =>
      decide (t.reg 0 = 0x0) &&
      decide (t.psr = 0x0) &&
      decide (t.pc = 0x8005)) = true := by decide
/-- INDEXB R0,R1,R2 (K16) -/
theorem test_step_indexb_K16 : after 24 0x8842E
    ({ start with regs := (((start.regs.set 0 0x3).set 1 0xA5A5A5FF).set 2 0xA5A5A5FF), pc := 0x8000 }) (fun t =>
      decide (t.reg 0 = 0x3FF) &&
      decide (t.pc = 0x8003)) = true := by decide
/-- BEQ *+63 (C1) -/
theorem test_step_beq_C1 : after 16 0x3F0A
    ({ start with psr := 0x40 }) (fun t =>
      decide (t.pc = 0x103F)) = true := by decide
/-- BNE *+8191 (C4) -/
theorem test_step_bne_C4 : after 24 0xFF9F1A
    (start) (fun t =>
      decide (t.pc = 0x2FFF)) = true := by decide
/-- BR *-8192 (C5) -/
theorem test_step_br_C5 : after 24 0xA0EA
    ({ start with pc := 0x3000 }) (fun t =>
      decide (t.pc = 0x1000)) = true := by decide
/-- BCS *+16 (C15) -/
theorem test_step_bcs_C15 : after 16 0x102A
    ({ start with psr := 0x1 }) (fun t =>
      decide (t.pc = 0x1010)) = true := by decide
/-- BCC *+16 (C16) -/
theorem test_step_bcc_C16 : after 16 0x103A
    (start) (fun t =>
      decide (t.pc = 0x1010)) = true := by decide
/-- BHI *+16 (C17) -/
theorem test_step_bhi_C17 : after 16 0x104A
    ({ start with psr := 0x4 }) (fun t =>
      decide (t.pc = 0x1010)) = true := by decide
/-- BLS *+16 (C18) -/
theorem test_step_bls_C18 : after 16 0x105A
    (start) (fun t =>
      decide (t.pc = 0x1010)) = true := by decide
/-- BGT *+16 (C19) -/
theorem test_step_bgt_C19 : after 16 0x106A
    ({ start with psr := 0x80 }) (fun t =>
      decide (t.pc = 0x1010)) = true := by decide
/-- BLE *+16 (C20) -/
theorem test_step_ble_C20 : after 16 0x107A
    (start) (fun t =>
      decide (t.pc = 0x1010)) = true := by decide
/-- BFS *+16 (C21) -/
theorem test_step_bfs_C21 : after 16 0x108A
    ({ start with psr := 0x20 }) (fun t =>
      decide (t.pc = 0x1010)) = true := by decide
/-- BFC *+16 (C22) -/
theorem test_step_bfc_C22 : after 16 0x109A
    (start) (fun t =>
      decide (t.pc = 0x1010)) = true := by decide
/-- BLO *+16 (C23) -/
theorem test_step_blo_C23 : after 16 0x10AA
    (start) (fun t =>
      decide (t.pc = 0x1010)) = true := by decide
/-- BHS *+16 (C24) -/
theorem test_step_bhs_C24 : after 16 0x10BA
    ({ start with psr := 0x40 }) (fun t =>
      decide (t.pc = 0x1010)) = true := by decide
/-- BLT *+16 (C25) -/
theorem test_step_blt_C25 : after 16 0x10CA
    (start) (fun t =>
      decide (t.pc = 0x1010)) = true := by decide
/-- BGE *+16 (C26) -/
theorem test_step_bge_C26 : after 16 0x10DA
    ({ start with psr := 0x40 }) (fun t =>
      decide (t.pc = 0x1010)) = true := by decide
/-- JUMP R0 (C28) -/
theorem test_step_jump_C28 : after 16 0x27F
    ({ start with regs := (start.regs.set 0 0x3000) }) (fun t =>
      decide (t.pc = 0x3000)) = true := by decide
/-- ACBB -1,R0,*-3 (C34) -/
theorem test_step_acbb_C34 : after 24 0x7D07CC
    ({ start with regs := (start.regs.set 0 0xAAAAAA01), pc := 0x1003 }) (fun t =>
      decide (t.reg 0 = 0xAAAAAA00) &&
      decide (t.pc = 0x1006)) = true := by decide
/-- BSR *+0 (C40) -/
theorem test_step_bsr_C40 : after 16 0x2
    ({ start with sp0 := 0x2000 }) (fun t =>
      decide (t.sp = 0x1FFC) &&
      decide (peek 4 0x1FFC t = 0x1002) &&
      decide (t.pc = 0x1000)) = true := by decide
/-- JSR 0(SP) (C42) -/
theorem test_step_jsr_C42 : after 24 0xCE7F
    ({ start with sp0 := 0x2000 }) (fun t =>
      decide (t.sp = 0x1FFC) &&
      decide (peek 4 0x1FFC t = 0x1003) &&
      decide (t.pc = 0x2000)) = true := by decide
/-- RET 0 (C44) -/
theorem test_step_ret_C44 : after 16 0x12
    (poke 2 0x2000 0x1234 ({ start with sp0 := 0x2000 })) (fun t =>
      decide (t.sp = 0x2004) &&
      decide (t.pc = 0x1234)) = true := by decide
/-- FLAG (C55) -/
theorem test_step_flag_C55 : after 8 0xD2
    (entry 7 ({ start with psr := 0x20 })) (fun t =>
      decide (t.pc = 0xF170) &&
      decide (peek 4 0x1018 t = 0x1000)) = true := by decide
/-- BPT (C56) -/
theorem test_step_bpt_C56 : after 8 0xF2
    (entry 8 (start)) (fun t =>
      decide (t.pc = 0xF180) &&
      decide (peek 4 0x1018 t = 0x1000)) = true := by decide
/-- SVC (C57) -/
theorem test_step_svc_C57 : after 8 0xE2
    (entry 5 (start)) (fun t =>
      decide (t.pc = 0xF150) &&
      decide (peek 4 0x1018 t = 0x1000)) = true := by decide
/-- ADDR 4(FP),R0 (V1) -/
theorem test_step_addr_V1 : after 24 0x4C027
    ({ start with fp := 0x1000 }) (fun t =>
      decide (t.reg 0 = 0x1004) &&
      decide (t.pc = 0x1003)) = true := by decide
/-- ENTER [R0,R2,R7],8 (V9) -/
theorem test_step_enter_V9 : after 24 0x88582
    ({ start with sp0 := 0x2000, fp := 0xAAAA }) (fun t =>
      decide (peek 4 0x1FFC t = 0xAAAA) &&
      decide (t.fp = 0x1FFC) &&
      decide (t.sp = 0x1FE8) &&
      decide (t.pc = 0x1003)) = true := by decide
/-- ADJSPB H'FC (V12) -/
theorem test_step_adjspb_V12 : after 24 0xFCA57C
    ({ start with sp0 := 0x2000 }) (fun t =>
      decide (t.sp = 0x2004) &&
      decide (t.pc = 0x1003)) = true := by decide
/-- BISPSRB H'FF (V15) -/
theorem test_step_bispsrb_V15 : after 24 0xFFA37C
    ({ start with psr := 0x300 }) (fun t =>
      decide (t.psr = 0x3F7) &&
      decide (t.pc = 0x1003)) = true := by decide
/-- BICPSRW H'FFFF (V19) -/
theorem test_step_bicpsrw_V19 : after 32 0xFFFFA17D
    ({ start with psr := 0xAF5 }) (fun t =>
      decide (t.psr = 0x0) &&
      decide (t.pc = 0x1004)) = true := by decide
/-- LPRB UPSR,R0 (V22) -/
theorem test_step_lprb_V22 : after 16 0x6C
    ({ start with regs := (start.regs.set 0 0xA5A5A5FF), psr := 0x300 }) (fun t =>
      decide (t.psr = 0x3F7) &&
      decide (t.pc = 0x1002)) = true := by decide
/-- SPRW INTBASE,R0 (V41) -/
theorem test_step_sprw_V41 : after 16 0x72D
    ({ start with regs := (start.regs.set 0 0xAAAAAAAA), intbase := 0x12345678 }) (fun t =>
      decide (t.reg 0 = 0xAAAA5678) &&
      decide (t.pc = 0x1002)) = true := by decide
/-- SETCFG [] (V45) -/
theorem test_step_setcfg_V45 : after 24 0xB0E
    ({ start with cfg := 0x3FFF }) (fun t =>
      decide (t.cfg = 0xF0) &&
      decide (t.pc = 0x1003)) = true := by decide
/-- NOP (V49) -/
theorem test_step_nop_V49 : after 8 0xA2
    (start) (fun t =>
      decide (t.pc = 0x1001)) = true := by decide
/-- CINV I,R0 (V53) -/
theorem test_step_cinv_V53 : after 24 0x1271E
    (entry 4 ({ start with psr := 0x100 })) (fun t =>
      decide (t.pc = 0xF140)) = true := by decide
/-- LMR PTB0,R0 (M1) -/
theorem test_step_lmr_M1 : after 24 0x60B1E
    ({ start with regs := (start.regs.set 0 0x9000) }) (fun t =>
      decide (t.ptb0 = 0x9000) &&
      decide (t.pc = 0x1003)) = true := by decide
/-- SMR PTB0,R0 (M2) -/
theorem test_step_smr_M2 : after 24 0x60F1E
    ({ start with ptb0 := 0x9000 }) (fun t =>
      decide (t.reg 0 = 0x9000) &&
      decide (t.pc = 0x1003)) = true := by decide
/-- RDVAL 0(R0) (M10) -/
theorem test_step_rdval_M10 : after 32 0x40031E
    (start) (fun t =>
      decide (t.psr = 0x0) &&
      decide (t.pc = 0x1004)) = true := by decide
/-- MOVSUB 0(R0),0(R2) (M14) -/
theorem test_step_movsub_M14 : after 40 0x428CAE
    (poke 1 0x4000 0x5A ({ start with regs := ((start.regs.set 0 0x4000).set 2 0x5000), cfg := 0xF2 })) (fun t =>
      decide (peek 1 0x5000 t = 0x5A) &&
      decide (t.pc = 0x1005)) = true := by decide
/-- MOVSB, one element of two -/
theorem test_step_movst : after 24 0xE
    (poke 2 0x4000 0x8001 { start with regs := (((start.regs.set 0 0x2).set 1 0x4000).set 2 0x5000) }) (fun t =>
      decide (t.reg 0 = 1) &&
      decide (t.reg 1 = 0x4001) &&
      decide (t.reg 2 = 0x5001) &&
      decide (peek 1 0x5000 t = 1) &&
      decide (t.pc = 0x1000)) = true := by decide
/-- CMPSB, a difference ends it -/
theorem test_step_cmpsb : after 24 0x40E
    (poke 1 0x4000 0x80 (poke 1 0x5000 0x7F { start with regs := (((start.regs.set 0 0x2).set 1 0x4000).set 2 0x5000) })) (fun t =>
      decide (t.reg 0 = 2) &&
      decide (t.psr = 0x4) &&
      decide (t.pc = 0x1003)) = true := by decide
/-- SKPSB [U], a match ends it with F = 1 -/
theorem test_step_skpsb_until : after 24 0x60C0E
    (poke 1 0x4000 0x55 { start with regs := (((start.regs.set 0 0x2).set 1 0x4000).set 4 0x55) }) (fun t =>
      decide (t.reg 0 = 2) &&
      decide (t.reg 1 = 0x4000) &&
      decide (t.psr = 0x20) &&
      decide (t.pc = 0x1003)) = true := by decide
/-- CASEB TABLE[R7:B], the example of R385, with its table after it -/
theorem test_step_caseb : after 80 0x6A7A5A3A1A0A04DFE77C
    ({ start with pc := 0x9000, regs := (start.regs.set 7 0x5) }) (fun t =>
      decide (t.pc = 0x906A)) = true := by decide
/-- WAIT (R435) -/
theorem test_step_wait : after 8 0xB2
    (start) (fun t =>
      decide (t.pc = 0x1001) &&
      decide (t.waiting = true)) = true := by decide
/-- DIA (R436) -/
theorem test_step_dia : after 8 0xC2
    (start) (fun t =>
      decide (t.pc = 0x1000)) = true := by decide
/-- custom, CFG.C = 0: UND (R471) -/
theorem test_step_custom : after 24 0x316
    (entry 10 (start)) (fun t =>
      decide (t.pc = 0xF1A0) &&
      decide (peek 4 0x1018 t = 0x1000)) = true := by decide
/-- DIVD by zero (E1) -/
theorem test_step_dvz : after 24 0x7FCE
    (entry 6 ({ start with psr := 0x320, regs := ((start.regs.set 0 0x0).set 1 0x7) })) (fun t =>
      decide (t.reg 1 = 7) &&
      decide (t.pc = 0xF160) &&
      decide (t.psr = 0x20) &&
      decide (peek 4 0x1018 t = 0x1000) &&
      decide (peek 2 0x101E t = 0x320)) = true := by decide
/-- ADDW with V = 1 (E7) -/
theorem test_step_ovf : after 16 0x41
    (entry 13 ({ start with psr := 0x10, regs := ((start.regs.set 0 0x7FFF).set 1 0xAAAA0001) })) (fun t =>
      decide (t.reg 1 = 0xAAAA8000) &&
      decide (t.pc = 0xF1D0) &&
      decide (peek 4 0x1018 t = 0x1002) &&
      decide (peek 2 0x101E t = 0x30)) = true := by decide
/-- BISPSRW in User mode (E2) -/
theorem test_step_ill : after 32 0x8A37D
    (entry 4 ({ start with psr := 0x300 })) (fun t =>
      decide (t.pc = 0xF140) &&
      decide (t.psr = 0) &&
      decide (peek 2 0x101E t = 0x300)) = true := by decide
/-- an unassigned byte (E6) -/
theorem test_step_undefined : after 8 0x5E
    (entry 10 (start)) (fun t =>
      decide (t.pc = 0xF1A0) &&
      decide (peek 4 0x1018 t = 0x1000)) = true := by decide
/-- NOP with T = 1 (E13) -/
theorem test_step_trace : after 8 0xA2
    (entry 9 ({ start with psr := 0x2 })) (fun t =>
      decide (t.pc = 0xF190) &&
      decide (peek 4 0x1018 t = 0x1001) &&
      decide (peek 2 0x101E t = 2)) = true := by decide
/-- NOP with an interrupt pending (E17) -/
theorem test_step_interrupt : after 8 0xA2
    (entry 0 ({ start with psr := 0x800, intRequest := true })) (fun t =>
      decide (t.pc = 0xF100) &&
      decide (t.psr = 0) &&
      decide (peek 4 0x1018 t = 0x1001) &&
      decide (peek 2 0x101E t = 0x800)) = true := by decide
/-- NMI wins over a maskable request (E21) -/
theorem test_step_nmi : after 8 0xA2
    (entry 1 ({ start with psr := 0x800, intRequest := true, nmiPending := true })) (fun t =>
      decide (t.pc = 0xF110) &&
      decide (t.nmiPending = false) &&
      decide (t.intRequest = true)) = true := by decide
/-- MOVD to a refused address (E26) -/
theorem test_step_abort : after 48 0x5000C00557
    (entry 2 ({ start with psr := 0xB00, xlate := [⟨true, 0x5000, 0x5FFF, 0x5000, .readOnly, .valid⟩] })) (fun t =>
      decide (t.tear = 0x5000) &&
      decide (t.pc = 0xF120) &&
      decide (peek 4 0x1018 t = 0x1000) &&
      decide (t.psr = 0)) = true := by decide
/-- DIVF by zero (E27) -/
theorem test_step_fpu_divide : after 24 0xA1BE
    (entry 3 ({ start with fd := (start.fd.set 2 0x3F800000) })) (fun t =>
      decide (t.fsr = 3) &&
      decide (t.pc = 0xF130)) = true := by decide
/-- CXP 1 (C46) -/
theorem test_step_cxp : after 16 0x122
    (poke 2 0x14 0x90A0 (poke 4 0x90A4 0x00100020 (poke 2 0x28 0xF110 (poke 2 0x20 0xF100 { start with pc := 0x9005, sp0 := 0xFFF8 })))) (fun t =>
      decide (t.sp0 = 0xFFF0) &&
      decide (t.mod = 0x20) &&
      decide (t.sb = 0xF100) &&
      decide (t.pc = 0xF120)) = true := by decide
/-- RXP 0 (R392) -/
theorem test_step_rxp : after 16 0x32
    (poke 2 0xFFF4 0x10 (poke 2 0xFFF0 0x9007 (poke 2 0x10 0x9080 { start with sp0 := 0xFFF0, mod := 0x20 }))) (fun t =>
      decide (t.pc = 0x9007) &&
      decide (t.mod = 0x10) &&
      decide (t.sb = 0x9080) &&
      decide (t.sp0 = 0xFFF8)) = true := by decide
/-- SAVE [R0,R2,R7] (R423) -/
theorem test_step_save : after 16 0x8562
    ({ start with regs := (((start.regs.set 0 0x5).set 2 0x2222).set 7 0x7777) }) (fun t =>
      decide (peek 4 0x101C t = 5) &&
      decide (peek 4 0x1018 t = 0x2222) &&
      decide (peek 4 0x1014 t = 0x7777) &&
      decide (t.sp0 = 0x1014) &&
      decide (t.pc = 0x1002)) = true := by decide
/-- RESTORE [R0,R2,R7] (V6) -/
theorem test_step_restore : after 16 0xA172
    (poke 4 0x1FF4 0x7777 (poke 4 0x1FF8 0x2222 (poke 4 0x1FFC 5 { start with sp0 := 0x1FF4 }))) (fun t =>
      decide (t.reg 7 = 0x7777) &&
      decide (t.reg 2 = 0x2222) &&
      decide (t.reg 0 = 5) &&
      decide (t.sp0 = 0x2000)) = true := by decide
/-- EXIT [R0,R2,R7] (V10) -/
theorem test_step_exit : after 16 0xA192
    (poke 4 0x1FE8 0x7777 (poke 4 0x1FEC 0x2222 (poke 4 0x1FF0 5 (poke 4 0x1FFC 0xAAAA { start with sp0 := 0x1FE8, fp := 0x1FFC })))) (fun t =>
      decide (t.reg 7 = 0x7777) &&
      decide (t.reg 0 = 5) &&
      decide (t.sp0 = 0x2000) &&
      decide (t.fp = 0xAAAA)) = true := by decide
/-- BICPSRW 0xFFFF (V19) -/
theorem test_step_bicpsrw : after 32 0xFFFFA17D
    ({ start with psr := 0xAF5 }) (fun t =>
      decide (t.psr = 0) &&
      decide (t.pc = 0x1004)) = true := by decide
/-- SPRD PSR,R0 (V37 with T = 0) -/
theorem test_step_sprd_psr : after 16 0x6AF
    ({ start with psr := 0xAF5 }) (fun t =>
      decide (t.reg 0 = 0xAF5) &&
      decide (t.pc = 0x1002)) = true := by decide
/-- RETI (C53) -/
theorem test_step_reti : after 8 0x52
    (poke 4 0x1000 0x9005 (poke 2 0x1004 0x10 (poke 2 0x1006 0xB20 (poke 2 0x10 0x9080 { start with pc := 0x2000, mod := 0x20, sb := 0xF100, sp0 := 0x1000 })))) (fun t =>
      decide (t.pc = 0x9005) &&
      decide (t.mod = 0x10) &&
      decide (t.sb = 0x9080) &&
      decide (t.sp0 = 0x1008) &&
      decide (t.psr = 0xB20) &&
      decide (t.eoiEvents = 1)) = true := by decide
/-- LFSR R0 (R275) -/
theorem test_step_lfsr : after 24 0xF3E
    ({ start with regs := (start.regs.set 0 0xFFFFFFFF) }) (fun t =>
      decide (t.fsr = 0x1FFFF) &&
      decide (t.pc = 0x1003)) = true := by decide
/-- MOVD 4(SB)[R7:D] (Y21) -/
theorem test_step_scaled_index : after 64 0x444332211D7A797
    ({ start with regs := (start.regs.set 7 0x2) }) (fun t =>
      decide (peek 4 0x908C t = 0x11223344) &&
      decide (t.pc = 0x1008)) = true := by decide
/-- MOVD EXT(2)+4,R0 (Y9) -/
theorem test_step_external_mode : after 32 0x402B017
    (poke 2 0x14 0 (poke 4 0x54 0x3000 (poke 4 0x3008 0x5000 (poke 4 0x5004 0xCAFEF00D { start with mod := 0x50 })))) (fun t =>
      decide (t.reg 0 = 0xCAFEF00D)) = true := by decide
/-- MOVW R0,@-1: addresses wrap (Y8) -/
theorem test_step_wrap : after 24 0x7F0555
    ({ start with regs := (start.regs.set 0 0x1234) }) (fun t =>
      decide (peek 1 0xFFFFFFFF t = 0x34) &&
      decide (peek 1 0 t = 0x12)) = true := by decide

/-! ## Witnesses: for each statement, a state and operands that meet its hypotheses -/

theorem start_accessible : start.accessible := accessible_of_xlate_nil _ rfl

/-- `start` with operands that no instruction traps on or leaves open: a 1.0 in every floating-point
register, 3 in R4, 9 in R2 and R6. -/
def ready : State :=
  { start with
    regs := #v[1, 0x4000, 9, 1, 3, 0, 9, 1]
    fd := #v[0x3FF000003F800000, 0, 0x3FF000003F800000, 0, 0x3FF000003F800000, 0,
      0x3FF000003F800000, 0] }

theorem ready_accessible : ready.accessible := accessible_of_xlate_nil _ rfl

/-- The instruction is well-formed and completes in a state. -/
def completes (s : State) (i : Instr) : Bool :=
  i.wellFormed && (match exec i s with
    | .next t => decide (t.boundary = .done)
    | _ => false)

/-- The outcome is a next state with a property. -/
def leads (o : Host.Outcome State Fault Refusal) (p : State → Bool) : Bool :=
  match o with
  | .next t => p t
  | _ => false


theorem witness_AdditionsAndSubtractions : ready.accessible ∧
    List.all (α := Instr)
    [.addb (.plain (.reg 4)) (.plain (.reg 2)), .addw (.plain (.reg 4)) (.plain (.reg 2)),
      .addd (.plain (.reg 4)) (.plain (.reg 2)), .addcb (.plain (.reg 4)) (.plain (.reg 2)),
      .addcw (.plain (.reg 4)) (.plain (.reg 2)), .addcd (.plain (.reg 4)) (.plain (.reg 2)),
      .subb (.plain (.reg 4)) (.plain (.reg 2)), .subw (.plain (.reg 4)) (.plain (.reg 2)),
      .subd (.plain (.reg 4)) (.plain (.reg 2)), .subcb (.plain (.reg 4)) (.plain (.reg 2)),
      .subcw (.plain (.reg 4)) (.plain (.reg 2)), .subcd (.plain (.reg 4)) (.plain (.reg 2)),
      .addqb 1 (.plain (.reg 2)), .addqw 1 (.plain (.reg 2)), .addqd 1 (.plain (.reg 2))]
    (completes ready) = true :=
  ⟨ready_accessible, by decide⟩

theorem witness_NegationAbsoluteValueAndProduct : ready.accessible ∧
    List.all (α := Instr)
    [.negb (.plain (.reg 4)) (.plain (.reg 2)), .negw (.plain (.reg 4)) (.plain (.reg 2)),
      .negd (.plain (.reg 4)) (.plain (.reg 2)), .absb (.plain (.reg 4)) (.plain (.reg 2)),
      .absw (.plain (.reg 4)) (.plain (.reg 2)), .absd (.plain (.reg 4)) (.plain (.reg 2)),
      .mulb (.plain (.reg 4)) (.plain (.reg 2)), .mulw (.plain (.reg 4)) (.plain (.reg 2)),
      .muld (.plain (.reg 4)) (.plain (.reg 2)), .meib (.plain (.reg 4)) (.plain (.reg 2)),
      .meiw (.plain (.reg 4)) (.plain (.reg 2)), .meid (.plain (.reg 4)) (.plain (.reg 2))]
    (completes ready) = true :=
  ⟨ready_accessible, by decide⟩

theorem witness_Divisions : ready.accessible ∧
    List.all (α := Instr)
    [.divb (.plain (.reg 4)) (.plain (.reg 2)), .divw (.plain (.reg 4)) (.plain (.reg 2)),
      .divd (.plain (.reg 4)) (.plain (.reg 2)), .modb (.plain (.reg 4)) (.plain (.reg 2)),
      .modw (.plain (.reg 4)) (.plain (.reg 2)), .modd (.plain (.reg 4)) (.plain (.reg 2)),
      .quob (.plain (.reg 4)) (.plain (.reg 2)), .quow (.plain (.reg 4)) (.plain (.reg 2)),
      .quod (.plain (.reg 4)) (.plain (.reg 2)), .remb (.plain (.reg 4)) (.plain (.reg 2)),
      .remw (.plain (.reg 4)) (.plain (.reg 2)), .remd (.plain (.reg 4)) (.plain (.reg 2)),
      .deib (.plain (.reg 4)) (.plain (.reg 2)), .deiw (.plain (.reg 4)) (.plain (.reg 2)),
      .deid (.plain (.reg 4)) (.plain (.reg 2))]
    (completes ready) = true :=
  ⟨ready_accessible, by decide⟩

theorem witness_Moves : ready.accessible ∧
    List.all (α := Instr)
    [.movb (.plain (.reg 4)) (.plain (.reg 2)), .movw (.plain (.reg 4)) (.plain (.reg 2)),
      .movd (.plain (.reg 4)) (.plain (.reg 2)), .movqb 1 (.plain (.reg 2)),
      .movqw 1 (.plain (.reg 2)), .movqd 1 (.plain (.reg 2)),
      .movxbw (.plain (.reg 4)) (.plain (.reg 2)), .movxbd (.plain (.reg 4)) (.plain (.reg 2)),
      .movxwd (.plain (.reg 4)) (.plain (.reg 2)), .movzbw (.plain (.reg 4)) (.plain (.reg 2)),
      .movzbd (.plain (.reg 4)) (.plain (.reg 2)), .movzwd (.plain (.reg 4)) (.plain (.reg 2))]
    (completes ready) = true :=
  ⟨ready_accessible, by decide⟩

theorem witness_Comparisons : ready.accessible ∧
    List.all (α := Instr)
    [.cmpb (.plain (.reg 4)) (.plain (.reg 2)), .cmpw (.plain (.reg 4)) (.plain (.reg 2)),
      .cmpd (.plain (.reg 4)) (.plain (.reg 2)), .cmpqb 1 (.plain (.reg 2)),
      .cmpqw 1 (.plain (.reg 2)), .cmpqd 1 (.plain (.reg 2))]
    (completes ready) = true :=
  ⟨ready_accessible, by decide⟩

theorem witness_PackedDecimal : ready.accessible ∧
    List.all (α := Instr)
    [.addpb (.plain (.reg 4)) (.plain (.reg 2)), .addpw (.plain (.reg 4)) (.plain (.reg 2)),
      .addpd (.plain (.reg 4)) (.plain (.reg 2)), .subpb (.plain (.reg 4)) (.plain (.reg 2)),
      .subpw (.plain (.reg 4)) (.plain (.reg 2)), .subpd (.plain (.reg 4)) (.plain (.reg 2))]
    (completes ready) = true :=
  ⟨ready_accessible, by decide⟩

theorem witness_BitwiseLogic : ready.accessible ∧
    List.all (α := Instr)
    [.andb (.plain (.reg 4)) (.plain (.reg 2)), .andw (.plain (.reg 4)) (.plain (.reg 2)),
      .andd (.plain (.reg 4)) (.plain (.reg 2)), .orb (.plain (.reg 4)) (.plain (.reg 2)),
      .orw (.plain (.reg 4)) (.plain (.reg 2)), .ord (.plain (.reg 4)) (.plain (.reg 2)),
      .bicb (.plain (.reg 4)) (.plain (.reg 2)), .bicw (.plain (.reg 4)) (.plain (.reg 2)),
      .bicd (.plain (.reg 4)) (.plain (.reg 2)), .xorb (.plain (.reg 4)) (.plain (.reg 2)),
      .xorw (.plain (.reg 4)) (.plain (.reg 2)), .xord (.plain (.reg 4)) (.plain (.reg 2)),
      .comb (.plain (.reg 4)) (.plain (.reg 2)), .comw (.plain (.reg 4)) (.plain (.reg 2)),
      .comd (.plain (.reg 4)) (.plain (.reg 2)), .notb (.plain (.reg 4)) (.plain (.reg 2)),
      .notw (.plain (.reg 4)) (.plain (.reg 2)), .notd (.plain (.reg 4)) (.plain (.reg 2))]
    (completes ready) = true :=
  ⟨ready_accessible, by decide⟩

theorem witness_Shifts : ready.accessible ∧
    List.all (α := Instr)
    [.ashb (.plain (.reg 4)) (.plain (.reg 2)), .ashw (.plain (.reg 4)) (.plain (.reg 2)),
      .ashd (.plain (.reg 4)) (.plain (.reg 2)), .lshb (.plain (.reg 4)) (.plain (.reg 2)),
      .lshw (.plain (.reg 4)) (.plain (.reg 2)), .lshd (.plain (.reg 4)) (.plain (.reg 2)),
      .rotb (.plain (.reg 4)) (.plain (.reg 2)), .rotw (.plain (.reg 4)) (.plain (.reg 2)),
      .rotd (.plain (.reg 4)) (.plain (.reg 2))]
    (completes ready) = true :=
  ⟨ready_accessible, by decide⟩

theorem witness_SaveCondition : ready.accessible ∧
    List.all (α := Instr)
    [.seqb (.plain (.reg 2)), .seqw (.plain (.reg 2)), .seqd (.plain (.reg 2)),
      .sneb (.plain (.reg 2)), .snew (.plain (.reg 2)), .sned (.plain (.reg 2)),
      .scsb (.plain (.reg 2)), .scsw (.plain (.reg 2)), .scsd (.plain (.reg 2)),
      .sccb (.plain (.reg 2)), .sccw (.plain (.reg 2)), .sccd (.plain (.reg 2)),
      .shib (.plain (.reg 2)), .shiw (.plain (.reg 2)), .shid (.plain (.reg 2)),
      .slsb (.plain (.reg 2)), .slsw (.plain (.reg 2)), .slsd (.plain (.reg 2)),
      .sgtb (.plain (.reg 2)), .sgtw (.plain (.reg 2)), .sgtd (.plain (.reg 2)),
      .sleb (.plain (.reg 2)), .slew (.plain (.reg 2)), .sled (.plain (.reg 2)),
      .sfsb (.plain (.reg 2)), .sfsw (.plain (.reg 2)), .sfsd (.plain (.reg 2)),
      .sfcb (.plain (.reg 2)), .sfcw (.plain (.reg 2)), .sfcd (.plain (.reg 2)),
      .slob (.plain (.reg 2)), .slow (.plain (.reg 2)), .slod (.plain (.reg 2)),
      .shsb (.plain (.reg 2)), .shsw (.plain (.reg 2)), .shsd (.plain (.reg 2)),
      .sltb (.plain (.reg 2)), .sltw (.plain (.reg 2)), .sltd (.plain (.reg 2)),
      .sgeb (.plain (.reg 2)), .sgew (.plain (.reg 2)), .sged (.plain (.reg 2))]
    (completes ready) = true :=
  ⟨ready_accessible, by decide⟩

theorem witness_BitsInRegisters : ready.accessible ∧
    List.all (α := Instr)
    [.tbitb (.plain (.reg 4)) (.plain (.reg 2)), .tbitw (.plain (.reg 4)) (.plain (.reg 2)),
      .tbitd (.plain (.reg 4)) (.plain (.reg 2)), .sbitb (.plain (.reg 4)) (.plain (.reg 2)),
      .sbitw (.plain (.reg 4)) (.plain (.reg 2)), .sbitd (.plain (.reg 4)) (.plain (.reg 2)),
      .sbitib (.plain (.reg 4)) (.plain (.reg 2)), .sbitiw (.plain (.reg 4)) (.plain (.reg 2)),
      .sbitid (.plain (.reg 4)) (.plain (.reg 2)), .cbitb (.plain (.reg 4)) (.plain (.reg 2)),
      .cbitw (.plain (.reg 4)) (.plain (.reg 2)), .cbitd (.plain (.reg 4)) (.plain (.reg 2)),
      .cbitib (.plain (.reg 4)) (.plain (.reg 2)), .cbitiw (.plain (.reg 4)) (.plain (.reg 2)),
      .cbitid (.plain (.reg 4)) (.plain (.reg 2)), .ibitb (.plain (.reg 4)) (.plain (.reg 2)),
      .ibitw (.plain (.reg 4)) (.plain (.reg 2)), .ibitd (.plain (.reg 4)) (.plain (.reg 2))]
    (completes ready) = true :=
  ⟨ready_accessible, by decide⟩

theorem witness_BitsInMemory : ready.accessible ∧
    List.all (α := Instr)
    [.tbitb (.plain (.reg 4)) (.plain (.abs (.d14 0x500))),
      .tbitw (.plain (.reg 4)) (.plain (.abs (.d14 0x500))),
      .tbitd (.plain (.reg 4)) (.plain (.abs (.d14 0x500))),
      .sbitb (.plain (.reg 4)) (.plain (.abs (.d14 0x500))),
      .sbitw (.plain (.reg 4)) (.plain (.abs (.d14 0x500))),
      .sbitd (.plain (.reg 4)) (.plain (.abs (.d14 0x500))),
      .sbitib (.plain (.reg 4)) (.plain (.abs (.d14 0x500))),
      .sbitiw (.plain (.reg 4)) (.plain (.abs (.d14 0x500))),
      .sbitid (.plain (.reg 4)) (.plain (.abs (.d14 0x500))),
      .cbitb (.plain (.reg 4)) (.plain (.abs (.d14 0x500))),
      .cbitw (.plain (.reg 4)) (.plain (.abs (.d14 0x500))),
      .cbitd (.plain (.reg 4)) (.plain (.abs (.d14 0x500))),
      .cbitib (.plain (.reg 4)) (.plain (.abs (.d14 0x500))),
      .cbitiw (.plain (.reg 4)) (.plain (.abs (.d14 0x500))),
      .cbitid (.plain (.reg 4)) (.plain (.abs (.d14 0x500))),
      .ibitb (.plain (.reg 4)) (.plain (.abs (.d14 0x500))),
      .ibitw (.plain (.reg 4)) (.plain (.abs (.d14 0x500))),
      .ibitd (.plain (.reg 4)) (.plain (.abs (.d14 0x500)))]
    (completes ready) = true :=
  ⟨ready_accessible, by decide⟩

theorem witness_FieldExtraction : ready.accessible ∧
    List.all (α := Instr)
    [.extb 7 (.plain (.reg 4)) (.plain (.reg 2)) (.d7 4),
      .extw 7 (.plain (.reg 4)) (.plain (.reg 2)) (.d7 4),
      .extd 7 (.plain (.reg 4)) (.plain (.reg 2)) (.d7 4),
      .extsb (.plain (.reg 4)) (.plain (.reg 2)) 3, .extsw (.plain (.reg 4)) (.plain (.reg 2)) 3,
      .extsd (.plain (.reg 4)) (.plain (.reg 2)) 3]
    (completes ready) = true :=
  ⟨ready_accessible, by decide⟩

theorem witness_FieldInsertion : ready.accessible ∧
    List.all (α := Instr)
    [.insb 7 (.plain (.reg 4)) (.plain (.reg 2)) (.d7 4),
      .insw 7 (.plain (.reg 4)) (.plain (.reg 2)) (.d7 4),
      .insd 7 (.plain (.reg 4)) (.plain (.reg 2)) (.d7 4),
      .inssb (.plain (.reg 4)) (.plain (.reg 2)) 3, .inssw (.plain (.reg 4)) (.plain (.reg 2)) 3,
      .inssd (.plain (.reg 4)) (.plain (.reg 2)) 3]
    (completes ready) = true :=
  ⟨ready_accessible, by decide⟩

theorem witness_FindFirstSetAndAddresses : ready.accessible ∧
    List.all (α := Instr)
    [.ffsb (.plain (.reg 4)) (.plain (.reg 5)), .ffsw (.plain (.reg 4)) (.plain (.reg 5)),
      .ffsd (.plain (.reg 4)) (.plain (.reg 5)),
      .cvtp 7 (.plain (.abs (.d14 0x500))) (.plain (.reg 2)),
      .addr (.plain (.abs (.d14 0x500))) (.plain (.reg 2))]
    (completes ready) = true :=
  ⟨ready_accessible, by decide⟩

theorem witness_BlocksAndOpenCounts : ready.accessible ∧
    List.all (α := Instr)
    [.movmb (.plain (.abs (.d14 0x500))) (.plain (.abs (.d14 0x600))) (.d7 0),
      .movmw (.plain (.abs (.d14 0x500))) (.plain (.abs (.d14 0x600))) (.d7 0),
      .movmd (.plain (.abs (.d14 0x500))) (.plain (.abs (.d14 0x600))) (.d7 0),
      .cmpmb (.plain (.abs (.d14 0x500))) (.plain (.abs (.d14 0x600))) (.d7 0),
      .cmpmw (.plain (.abs (.d14 0x500))) (.plain (.abs (.d14 0x600))) (.d7 0),
      .cmpmd (.plain (.abs (.d14 0x500))) (.plain (.abs (.d14 0x600))) (.d7 0)]
    (completes ready) = true :=
  ⟨ready_accessible, by decide⟩

theorem witness_ArrayInstructions : ready.accessible ∧
    List.all (α := Instr)
    [.checkb 7 (.plain (.abs (.d14 0x500))) (.plain (.reg 5)),
      .checkw 7 (.plain (.abs (.d14 0x500))) (.plain (.reg 5)),
      .checkd 7 (.plain (.abs (.d14 0x500))) (.plain (.reg 5)),
      .indexb 7 (.plain (.abs (.d14 0x500))) (.plain (.reg 5)),
      .indexw 7 (.plain (.abs (.d14 0x500))) (.plain (.reg 5)),
      .indexd 7 (.plain (.abs (.d14 0x500))) (.plain (.reg 5))]
    (completes ready) = true :=
  ⟨ready_accessible, by decide⟩

theorem witness_JumpCaseAndLoop : ready.accessible ∧
    List.all (α := Instr)
    [.jump (.plain (.abs (.d14 0x500))), .caseb (.plain (.abs (.d14 0x500))),
      .casew (.plain (.abs (.d14 0x500))), .cased (.plain (.abs (.d14 0x500))),
      .acbb 1 (.plain (.abs (.d14 0x500))) (.d7 8), .acbw 1 (.plain (.abs (.d14 0x500))) (.d7 8),
      .acbd 1 (.plain (.abs (.d14 0x500))) (.d7 8)]
    (completes ready) = true :=
  ⟨ready_accessible, by decide⟩

theorem witness_CallsAndReturns : ready.accessible ∧
    List.all (α := Instr)
    [.jsr (.plain (.abs (.d14 0x500)))]
    (completes ready) = true :=
  ⟨ready_accessible, by decide⟩

theorem witness_ExternalCalls : ready.accessible ∧
    List.all (α := Instr)
    [.cxpd (.plain (.abs (.d14 0x500)))]
    (completes ready) = true :=
  ⟨ready_accessible, by decide⟩

theorem witness_ProcessorRegisters : ready.accessible ∧
    List.all (α := Instr)
    [.lprb .fp (.plain (.reg 2)), .lprw .fp (.plain (.reg 2)), .lprd .fp (.plain (.reg 2)),
      .sprb .fp (.plain (.reg 2)), .sprw .fp (.plain (.reg 2)), .sprd .fp (.plain (.reg 2)),
      .adjspb (.plain (.reg 2)), .adjspw (.plain (.reg 2)), .adjspd (.plain (.reg 2)),
      .bicpsrb (.plain (.reg 2)), .bispsrb (.plain (.reg 2)), .bicpsrw (.plain (.reg 2)),
      .bispsrw (.plain (.reg 2))]
    (completes ready) = true :=
  ⟨ready_accessible, by decide⟩

theorem witness_MemoryManagementRegisters : ready.accessible ∧ ready.flagU = false ∧ ready.cfgM = true ∧
    List.all (α := Instr)
    [.lmr .ptb0 (.plain (.reg 2)), .smr .ptb0 (.plain (.reg 2))]
    (completes ready) = true :=
  ⟨ready_accessible, by decide, by decide, by decide⟩

theorem witness_ValidateAndMoveBetweenSpaces : ready.accessible ∧ ready.flagU = false ∧ ready.cfgM = true ∧
    List.all (α := Instr)
    [.rdval (.plain (.abs (.d14 0x500))), .wrval (.plain (.abs (.d14 0x500))),
      .movsub (.plain (.abs (.d14 0x500))) (.plain (.abs (.d14 0x600))),
      .movsuw (.plain (.abs (.d14 0x500))) (.plain (.abs (.d14 0x600))),
      .movsud (.plain (.abs (.d14 0x500))) (.plain (.abs (.d14 0x600))),
      .movusb (.plain (.abs (.d14 0x500))) (.plain (.abs (.d14 0x600))),
      .movusw (.plain (.abs (.d14 0x500))) (.plain (.abs (.d14 0x600))),
      .movusd (.plain (.abs (.d14 0x500))) (.plain (.abs (.d14 0x600)))]
    (completes ready) = true :=
  ⟨ready_accessible, by decide, by decide, by decide⟩

theorem witness_FloatArithmetic : ready.accessible ∧ ready.cfgF = true ∧
    List.all (α := Instr)
    [.addf (.plain (.reg 4)) (.plain (.reg 2)), .addl (.plain (.reg 4)) (.plain (.reg 2)),
      .subf (.plain (.reg 4)) (.plain (.reg 2)), .subl (.plain (.reg 4)) (.plain (.reg 2)),
      .mulf (.plain (.reg 4)) (.plain (.reg 2)), .mull (.plain (.reg 4)) (.plain (.reg 2)),
      .divf (.plain (.reg 4)) (.plain (.reg 2)), .divl (.plain (.reg 4)) (.plain (.reg 2)),
      .scalbf (.plain (.reg 4)) (.plain (.reg 2)), .scalbl (.plain (.reg 4)) (.plain (.reg 2))]
    (completes ready) = true :=
  ⟨ready_accessible, by decide, by decide⟩

theorem witness_FloatSignMoveAndLog : ready.accessible ∧ ready.cfgF = true ∧
    List.all (α := Instr)
    [.negf (.plain (.reg 4)) (.plain (.reg 2)), .negl (.plain (.reg 4)) (.plain (.reg 2)),
      .absf (.plain (.reg 4)) (.plain (.reg 2)), .absl (.plain (.reg 4)) (.plain (.reg 2)),
      .movf (.plain (.reg 4)) (.plain (.reg 2)), .movl (.plain (.reg 4)) (.plain (.reg 2)),
      .logbf (.plain (.reg 4)) (.plain (.reg 2)), .logbl (.plain (.reg 4)) (.plain (.reg 2))]
    (completes ready) = true :=
  ⟨ready_accessible, by decide, by decide⟩

theorem witness_FloatCompareDotAndPoly : ready.accessible ∧ ready.cfgF = true ∧
    List.all (α := Instr)
    [.cmpf (.plain (.reg 4)) (.plain (.reg 2)), .cmpl (.plain (.reg 4)) (.plain (.reg 2))]
    (completes ready) = true :=
  ⟨ready_accessible, by decide, by decide⟩

theorem witness_FloatConversions : ready.accessible ∧ ready.cfgF = true ∧
    List.all (α := Instr)
    [.movbf (.plain (.reg 4)) (.plain (.reg 2)), .movbl (.plain (.reg 4)) (.plain (.reg 2)),
      .movwf (.plain (.reg 4)) (.plain (.reg 2)), .movwl (.plain (.reg 4)) (.plain (.reg 2)),
      .movdf (.plain (.reg 4)) (.plain (.reg 2)), .movdl (.plain (.reg 4)) (.plain (.reg 2)),
      .movlf (.plain (.reg 4)) (.plain (.reg 2)), .movfl (.plain (.reg 4)) (.plain (.reg 2)),
      .roundfb (.plain (.reg 4)) (.plain (.reg 2)), .roundfw (.plain (.reg 4)) (.plain (.reg 2)),
      .roundfd (.plain (.reg 4)) (.plain (.reg 2)), .roundlb (.plain (.reg 4)) (.plain (.reg 2)),
      .roundlw (.plain (.reg 4)) (.plain (.reg 2)), .roundld (.plain (.reg 4)) (.plain (.reg 2)),
      .truncfb (.plain (.reg 4)) (.plain (.reg 2)), .truncfw (.plain (.reg 4)) (.plain (.reg 2)),
      .truncfd (.plain (.reg 4)) (.plain (.reg 2)), .trunclb (.plain (.reg 4)) (.plain (.reg 2)),
      .trunclw (.plain (.reg 4)) (.plain (.reg 2)), .truncld (.plain (.reg 4)) (.plain (.reg 2)),
      .floorfb (.plain (.reg 4)) (.plain (.reg 2)), .floorfw (.plain (.reg 4)) (.plain (.reg 2)),
      .floorfd (.plain (.reg 4)) (.plain (.reg 2)), .floorlb (.plain (.reg 4)) (.plain (.reg 2)),
      .floorlw (.plain (.reg 4)) (.plain (.reg 2)), .floorld (.plain (.reg 4)) (.plain (.reg 2))]
    (completes ready) = true :=
  ⟨ready_accessible, by decide, by decide⟩

theorem witness_FloatStatusRegister : ready.accessible ∧ ready.cfgF = true ∧
    List.all (α := Instr)
    [.lfsr (.plain (.reg 2)), .sfsr (.plain (.reg 2))]
    (completes ready) = true :=
  ⟨ready_accessible, by decide, by decide⟩

theorem witness_DecodeReadsWhatEncodeWrites :
    (Instr.indexd 7 (.indexed .q (.staticRel (.d30 (-1)) (.d14 0)) 3) (.plain (.imm (.d 0x12345678)))).wellFormed =
      true := by decide

theorem witness_StepKeepsInvariant : ready.Inv ∧ after 8 0xA2 ready (fun t => t.pc == 0x1001) = true := by
  simp only [State.Inv]; decide

/-- At each of the three boundaries. -/
def atNop : State := start.withFetchWord 8 0xA2
/-- SVC is next. -/
def atSvc : State := (entry 5 start).withFetchWord 8 0xE2
/-- MOVSB is next, with two elements to go. -/
def atMovs : State := { start with regs := start.regs.set 0 2 }.withFetchWord 24 0x0E

theorem witness_StepRunsTheDecodedInstruction :
    atNop.resetRequest = false ∧ atNop.waiting = false ∧ atNop.entryFault = false ∧
    decode (fetchBytes atNop maxLength atNop.pc).1 =
      .ok (.nop, (fetchBytes atNop maxLength atNop.pc).1.tail) ∧
    leads (exec .nop (atNop.setFlag 10 atNop.flagT))
      (fun t => t.boundary == .done && !t.nmiPending && !t.intRequest && !t.flagP) = true ∧
    decode (fetchBytes atSvc maxLength atSvc.pc).1 =
      .ok (.svc, (fetchBytes atSvc maxLength atSvc.pc).1.tail) ∧
    leads (exec .svc (atSvc.setFlag 10 atSvc.flagT)) (fun t => t.boundary == .trapped) = true ∧
    decode (fetchBytes atMovs maxLength atMovs.pc).1 =
      .ok (.movsb .none false, (fetchBytes atMovs maxLength atMovs.pc).1.drop 3) ∧
    leads (exec (.movsb .none false) (atMovs.setFlag 10 atMovs.flagT))
      (fun t => t.boundary == .element && !t.nmiPending && !t.intRequest) = true :=
  ⟨by decide, by decide, by decide, by rfl, by decide, by rfl, by decide, by rfl, by decide⟩

/-- A non-maskable interrupt is pending. -/
def nmiState : State := { start with nmiPending := true }
/-- A maskable interrupt is requested and enabled. -/
def intState : State := { start with intRequest := true, psr := 0x800 }
/-- A maskable interrupt is requested and not enabled, and a trace trap is pending. -/
def traceState : State := { start with intRequest := true, psr := 0x400 }

theorem witness_InterruptsAndTraceAtTheBoundary :
    nmiState.boundary = .done ∧ nmiState.readByte .read false 0xFFFFFF00 = .ok 0 ∧
    intState.boundary = .done ∧ intState.nmiPending = false ∧ intState.flagI = true ∧
    intState.readByte .read false 0xFFFFFE00 = .ok 0 ∧
    traceState.boundary = .done ∧ traceState.nmiPending = false ∧ traceState.flagI = false ∧
    traceState.flagP = true ∧
    start.boundary = .done ∧ start.nmiPending = false ∧ start.intRequest = false ∧
    start.flagP = false :=
  ⟨by decide, by rfl, by decide, by decide, by decide, by rfl, by decide, by decide, by decide,
    by decide, by decide, by decide, by decide, by decide⟩

/-- `start` in User mode, on SP1. -/
def userState : State := { start with psr := 0x300 }

theorem witness_SupervisorModeIsEnteredOnlyByException :
    userState.flagU = true ∧ userState.resetRequest = false ∧
    after 8 0xE2 (entry 5 userState) (fun t => !t.flagU) = true ∧ start.flagU = false ∧
    leads (exec (.bispsrw (.plain (.imm (.w 0x100)))) start) (fun t => t.flagU) = true := by decide

theorem witness_UserModeCannotReachProtectedState :
    userState.flagU = true ∧ leads (exec (.movd (.plain (.reg 1)) (.plain (.reg 2))) userState)
      (fun t => t.boundary != .trapped) = true := by decide

theorem witness_UserModeStoresOnlyWhereItMay :
    userState.flagU = true ∧ leads (exec (.movb (.plain (.reg 1)) (.plain (.abs (.d7 8)))) userState)
      (fun t => t.boundary != .trapped && t.mem.get 8 != userState.mem.get 8) = true := by decide

theorem witness_EveryInstructionGoesOn :
    start.accessible ∧ Instr.custom16.wellFormed = true ∧ Instr.nop.wellFormed = true ∧
      start.cfgC = false ∧ ¬ isCustom .nop :=
  ⟨start_accessible, by decide, by decide, by decide, by simp only [isCustom]; decide⟩

/-- At the last address, where the value wraps. -/
theorem witness_MemoryReadAfterWrite : start.xlate = [] ∧ start.mem.wf = true ∧
    (match start.write 0xFFFFFFFF (0x1234 : BitVec 16) with
    | .ok t => decide (t.mem.get 0xFFFFFFFF = 0x34) && decide (t.mem.get 0 = 0x12)
    | .error _ => false) = true := by decide

/-- The outcome is a trap whose frame holds this return address. -/
def trapsTo (o : Host.Outcome State Fault Refusal) (ret : Word) : Bool :=
  leads o fun t => t.boundary == .trapped && !t.entryFault &&
    (match t.read 32 t.sp0 .read false with
    | .ok v => v == ret
    | .error _ => false)

/-- V = 1, and in R1 to R6 the greatest and the most negative double-word, word and byte. -/
def rangeState : State :=
  { start with psr := 0x10, regs := #v[0, 0x7FFFFFFF, 0x80000000, 0x7FFF, 0x8000, 0x7F, 0x80, 0] }

/-- Each instruction overflows in `rangeState`: the trap returns past it. -/
theorem witness_OverflowTraps : rangeState.flagV = true ∧ List.all (α := Instr)
    [.addcb (.plain (.imm (.b 1))) (.plain (.reg 5)), .addqb 1 (.plain (.reg 5)),
      .subcb (.plain (.imm (.b 1))) (.plain (.reg 6)),
      .negb (.plain (.reg 6)) (.plain (.reg 0)), .absb (.plain (.reg 6)) (.plain (.reg 0)),
      .mulb (.plain (.imm (.b 2))) (.plain (.reg 5)),
      .divb (.plain (.imm (.b 0xFF))) (.plain (.reg 6)),
      .quob (.plain (.imm (.b 0xFF))) (.plain (.reg 6)),
      .deib (.plain (.imm (.b 1))) (.plain (.reg 4)),
      .ashb (.plain (.imm (.b 1))) (.plain (.reg 5)),
      .checkb 0 (.plain (.abs (.d14 0x500))) (.plain (.imm (.b 1))),
      .addcw (.plain (.imm (.w 1))) (.plain (.reg 3)), .addqw 1 (.plain (.reg 3)),
      .subcw (.plain (.imm (.w 1))) (.plain (.reg 4)),
      .negw (.plain (.reg 4)) (.plain (.reg 0)), .absw (.plain (.reg 4)) (.plain (.reg 0)),
      .mulw (.plain (.imm (.w 2))) (.plain (.reg 3)),
      .divw (.plain (.imm (.w 0xFFFF))) (.plain (.reg 4)),
      .quow (.plain (.imm (.w 0xFFFF))) (.plain (.reg 4)),
      .deiw (.plain (.imm (.w 1))) (.plain (.reg 2)),
      .ashw (.plain (.imm (.b 1))) (.plain (.reg 3)),
      .checkw 0 (.plain (.abs (.d14 0x500))) (.plain (.imm (.w 1))),
      .addcd (.plain (.imm (.d 1))) (.plain (.reg 1)), .addqd 1 (.plain (.reg 1)),
      .subcd (.plain (.imm (.d 1))) (.plain (.reg 2)),
      .negd (.plain (.reg 2)) (.plain (.reg 0)), .absd (.plain (.reg 2)) (.plain (.reg 0)),
      .muld (.plain (.imm (.d 2))) (.plain (.reg 1)),
      .divd (.plain (.imm (.d 0xFFFFFFFF))) (.plain (.reg 2)),
      .quod (.plain (.imm (.d 0xFFFFFFFF))) (.plain (.reg 2)),
      .deid (.plain (.imm (.d 1))) (.plain (.reg 0)),
      .ashd (.plain (.imm (.b 1))) (.plain (.reg 1)),
      .checkd 0 (.plain (.abs (.d14 0x500))) (.plain (.imm (.d 1)))]
    (fun i => trapsTo (exec i rangeState) (rangeState.pc + BitVec.ofNat 32 i.length)) = true ∧
    List.all (α := Instr)
    [.acbb 1 (.plain (.reg 5)) (.d7 8), .acbw 1 (.plain (.reg 3)) (.d7 8),
      .acbd 1 (.plain (.reg 1)) (.d7 8)]
    (fun i => trapsTo (exec i rangeState) (rangeState.pc + 8)) = true := by decide

/-- UEN and IEN set; 1.0 in F0 and L0, the greatest value in L4 and in F6. -/
def failState : State :=
  { start with fsr := 0x28, fd := #v[0x3FF000003F800000, 0, 0, 0, 0x7FEFFFFFFFFFFFFF, 0, 0x7F7FFFFF, 0] }

/-- The outcome is Trap(FPU) from a state with this TT. -/
def failsWith (tt : Word) (i : Instr) : Bool :=
  trapsTo (exec i failState) failState.pc && leads (exec i failState) fun t => t.fsr &&& 7 == tt

/-- A reserved operand (an infinity, a denormalized number), an overflow, an underflow, an inexact
result: each clause of Trap(FPU). -/
theorem witness_FloatDeliveryTraps : failState.cfgF = true ∧
    List.all (α := Instr)
    [.addf (.plain (.imm (.d 0x7F800000))) (.plain (.reg 6)),
      .subf (.plain (.imm (.d 0x7F800000))) (.plain (.reg 6)),
      .mulf (.plain (.imm (.d 0x7F800000))) (.plain (.reg 6)),
      .divf (.plain (.imm (.d 0x7F800000))) (.plain (.reg 6)),
      .scalbf (.plain (.imm (.d 0x7F800000))) (.plain (.reg 6)),
      .cmpf (.plain (.imm (.d 0x7F800000))) (.plain (.reg 6)),
      .dotf (.plain (.imm (.d 0x7F800000))) (.plain (.reg 6)),
      .polyf (.plain (.imm (.d 0x7F800000))) (.plain (.reg 6)),
      .negf (.plain (.imm (.d 1))) (.plain (.reg 2)),
      .absf (.plain (.imm (.d 1))) (.plain (.reg 2)),
      .logbf (.plain (.imm (.d 1))) (.plain (.reg 2)),
      .roundfb (.plain (.imm (.d 0x7F800000))) (.plain (.reg 2)),
      .roundfw (.plain (.imm (.d 0x7F800000))) (.plain (.reg 2)),
      .roundfd (.plain (.imm (.d 0x7F800000))) (.plain (.reg 2)),
      .truncfb (.plain (.imm (.d 0x7F800000))) (.plain (.reg 2)),
      .truncfw (.plain (.imm (.d 0x7F800000))) (.plain (.reg 2)),
      .truncfd (.plain (.imm (.d 0x7F800000))) (.plain (.reg 2)),
      .floorfb (.plain (.imm (.d 0x7F800000))) (.plain (.reg 2)),
      .floorfw (.plain (.imm (.d 0x7F800000))) (.plain (.reg 2)),
      .floorfd (.plain (.imm (.d 0x7F800000))) (.plain (.reg 2)),
      .addl (.plain (.imm (.q 0x7FF0000000000000))) (.plain (.reg 4)),
      .subl (.plain (.imm (.q 0x7FF0000000000000))) (.plain (.reg 4)),
      .mull (.plain (.imm (.q 0x7FF0000000000000))) (.plain (.reg 4)),
      .divl (.plain (.imm (.q 0x7FF0000000000000))) (.plain (.reg 4)),
      .scalbl (.plain (.imm (.q 0x7FF0000000000000))) (.plain (.reg 4)),
      .cmpl (.plain (.imm (.q 0x7FF0000000000000))) (.plain (.reg 4)),
      .dotl (.plain (.imm (.q 0x7FF0000000000000))) (.plain (.reg 4)),
      .polyl (.plain (.imm (.q 0x7FF0000000000000))) (.plain (.reg 4)),
      .negl (.plain (.imm (.q 1))) (.plain (.reg 2)),
      .absl (.plain (.imm (.q 1))) (.plain (.reg 2)),
      .logbl (.plain (.imm (.q 1))) (.plain (.reg 2)),
      .roundlb (.plain (.imm (.q 0x7FF0000000000000))) (.plain (.reg 2)),
      .roundlw (.plain (.imm (.q 0x7FF0000000000000))) (.plain (.reg 2)),
      .roundld (.plain (.imm (.q 0x7FF0000000000000))) (.plain (.reg 2)),
      .trunclb (.plain (.imm (.q 0x7FF0000000000000))) (.plain (.reg 2)),
      .trunclw (.plain (.imm (.q 0x7FF0000000000000))) (.plain (.reg 2)),
      .truncld (.plain (.imm (.q 0x7FF0000000000000))) (.plain (.reg 2)),
      .floorlb (.plain (.imm (.q 0x7FF0000000000000))) (.plain (.reg 2)),
      .floorlw (.plain (.imm (.q 0x7FF0000000000000))) (.plain (.reg 2)),
      .floorld (.plain (.imm (.q 0x7FF0000000000000))) (.plain (.reg 2)),
      .movlf (.plain (.imm (.q 0x7FF0000000000000))) (.plain (.reg 2)),
      .movfl (.plain (.imm (.d 0x7F800000))) (.plain (.reg 2))]
    (failsWith 5) = true ∧
    List.all (α := Instr)
    [.roundfb (.plain (.imm (.d 0x7F7FFFFF))) (.plain (.reg 2)),
      .roundfw (.plain (.imm (.d 0x7F7FFFFF))) (.plain (.reg 2)),
      .roundfd (.plain (.imm (.d 0x7F7FFFFF))) (.plain (.reg 2)),
      .truncfb (.plain (.imm (.d 0x7F7FFFFF))) (.plain (.reg 2)),
      .truncfw (.plain (.imm (.d 0x7F7FFFFF))) (.plain (.reg 2)),
      .truncfd (.plain (.imm (.d 0x7F7FFFFF))) (.plain (.reg 2)),
      .floorfb (.plain (.imm (.d 0x7F7FFFFF))) (.plain (.reg 2)),
      .floorfw (.plain (.imm (.d 0x7F7FFFFF))) (.plain (.reg 2)),
      .floorfd (.plain (.imm (.d 0x7F7FFFFF))) (.plain (.reg 2)),
      .addf (.plain (.imm (.d 0x7F7FFFFF))) (.plain (.reg 6)),
      .subf (.plain (.imm (.d 0xFF7FFFFF))) (.plain (.reg 6)),
      .mulf (.plain (.imm (.d 0x7F7FFFFF))) (.plain (.reg 6)),
      .divf (.plain (.imm (.d 0x00800000))) (.plain (.reg 6)),
      .scalbf (.plain (.imm (.d 0x3F800000))) (.plain (.reg 6)),
      .dotf (.plain (.imm (.d 0x71800000))) (.plain (.imm (.d 0x71800000))),
      .polyf (.plain (.imm (.d 0x7F7FFFFF))) (.plain (.imm (.d 0x7F7FFFFF))),
      .roundlb (.plain (.imm (.q 0x7FEFFFFFFFFFFFFF))) (.plain (.reg 2)),
      .roundlw (.plain (.imm (.q 0x7FEFFFFFFFFFFFFF))) (.plain (.reg 2)),
      .roundld (.plain (.imm (.q 0x7FEFFFFFFFFFFFFF))) (.plain (.reg 2)),
      .trunclb (.plain (.imm (.q 0x7FEFFFFFFFFFFFFF))) (.plain (.reg 2)),
      .trunclw (.plain (.imm (.q 0x7FEFFFFFFFFFFFFF))) (.plain (.reg 2)),
      .truncld (.plain (.imm (.q 0x7FEFFFFFFFFFFFFF))) (.plain (.reg 2)),
      .floorlb (.plain (.imm (.q 0x7FEFFFFFFFFFFFFF))) (.plain (.reg 2)),
      .floorlw (.plain (.imm (.q 0x7FEFFFFFFFFFFFFF))) (.plain (.reg 2)),
      .floorld (.plain (.imm (.q 0x7FEFFFFFFFFFFFFF))) (.plain (.reg 2)),
      .addl (.plain (.imm (.q 0x7FEFFFFFFFFFFFFF))) (.plain (.reg 4)),
      .subl (.plain (.imm (.q 0xFFEFFFFFFFFFFFFF))) (.plain (.reg 4)),
      .mull (.plain (.imm (.q 0x7FEFFFFFFFFFFFFF))) (.plain (.reg 4)),
      .divl (.plain (.imm (.q 0x0010000000000000))) (.plain (.reg 4)),
      .scalbl (.plain (.imm (.q 0x3FF0000000000000))) (.plain (.reg 4)),
      .dotl (.plain (.imm (.q 0x7E30000000000000))) (.plain (.imm (.q 0x7E30000000000000))),
      .polyl (.plain (.imm (.q 0x7FE0000000000000))) (.plain (.imm (.q 0x7FEFFFFFFFFFFFFF))),
      .movlf (.plain (.imm (.q 0x7FEFFFFFFFFFFFFF))) (.plain (.reg 2))]
    (failsWith 2) = true ∧
    List.all (α := Instr)
    [.movlf (.plain (.imm (.q 0x0010000000000000))) (.plain (.reg 2)),
      .scalbf (.plain (.imm (.d 0xC3000000))) (.plain (.reg 0)),
      .scalbl (.plain (.imm (.q 0xC09FF00000000000))) (.plain (.reg 0))]
    (failsWith 1) = true ∧
    List.all (α := Instr)
    [.roundfb (.plain (.imm (.d 0x3F800001))) (.plain (.reg 2)),
      .roundfw (.plain (.imm (.d 0x3F800001))) (.plain (.reg 2)),
      .roundfd (.plain (.imm (.d 0x3F800001))) (.plain (.reg 2)),
      .truncfb (.plain (.imm (.d 0x3F800001))) (.plain (.reg 2)),
      .truncfw (.plain (.imm (.d 0x3F800001))) (.plain (.reg 2)),
      .truncfd (.plain (.imm (.d 0x3F800001))) (.plain (.reg 2)),
      .floorfb (.plain (.imm (.d 0x3F800001))) (.plain (.reg 2)),
      .floorfw (.plain (.imm (.d 0x3F800001))) (.plain (.reg 2)),
      .floorfd (.plain (.imm (.d 0x3F800001))) (.plain (.reg 2)),
      .addf (.plain (.imm (.d 0x00800000))) (.plain (.reg 0)),
      .subf (.plain (.imm (.d 0x00800000))) (.plain (.reg 0)),
      .roundlb (.plain (.imm (.q 0x3FF0000000000001))) (.plain (.reg 2)),
      .roundlw (.plain (.imm (.q 0x3FF0000000000001))) (.plain (.reg 2)),
      .roundld (.plain (.imm (.q 0x3FF0000000000001))) (.plain (.reg 2)),
      .trunclb (.plain (.imm (.q 0x3FF0000000000001))) (.plain (.reg 2)),
      .trunclw (.plain (.imm (.q 0x3FF0000000000001))) (.plain (.reg 2)),
      .truncld (.plain (.imm (.q 0x3FF0000000000001))) (.plain (.reg 2)),
      .floorlb (.plain (.imm (.q 0x3FF0000000000001))) (.plain (.reg 2)),
      .floorlw (.plain (.imm (.q 0x3FF0000000000001))) (.plain (.reg 2)),
      .floorld (.plain (.imm (.q 0x3FF0000000000001))) (.plain (.reg 2)),
      .addl (.plain (.imm (.q 0x0010000000000000))) (.plain (.reg 0)),
      .subl (.plain (.imm (.q 0x0010000000000000))) (.plain (.reg 0)),
      .movdf (.plain (.imm (.d 0x7FFFFFFF))) (.plain (.reg 2))]
    (failsWith 6) = true := by decide +kernel

theorem witness_AddressesOfTheModes : start.accessible ∧
    modeAddr start.sp start (.frame (.d7 (-1))) = .ok 0x77777776 := ⟨start_accessible, rfl⟩

/-- The pair R6, R7; an odd register; the low and the high half of L6. -/
theorem witness_OperandsAreReadAndWritten :
    (6 : Reg).val % 2 = 0 ∧ (7 : Reg).val % 2 = 1 ∧ (6 : Reg).val + 1 = (7 : Reg).val ∧
    start.read 32 start.sp = .ok 0 ∧
    (∀ n, Mode.frame (.d7 4) ≠ .reg n) ∧ Mode.frame (.d7 4) ≠ .tos ∧
    (∀ v, Mode.frame (.d7 4) ≠ .imm v) ∧ modeAddr 0 start (.frame (.d7 4)) = .ok 0x7777777B ∧
    start.read 32 0x7777777B = .ok 0 ∧
    start.read 32 (0x7777777B + start.reg 0 * BitVec.ofNat 32 Size.q.bytes) = .ok 0 ∧
    start.read 32 0xFFFFFFFE .rmw start.flagU = .ok 0 ∧
    userState.flagS = true ∧ start.flagS = false ∧ (1 : Reg) ≠ 0 ∧ (8 = 8 ∨ 8 = 16 ∨ 8 = 32) :=
  ⟨by decide, by decide, by decide, rfl, fun n h => (by cases h), by decide, fun v h => (by cases h),
    rfl, rfl, rfl, rfl, by decide⟩

/-- A source that is popped, and a destination found in the state after it. -/
theorem witness_DestinationFrame :
    leads (exec (.addd (.plain .tos) (.plain .tos)) start)
      (fun t => t.boundary == .done && t.sp0 == 0x1024) = true ∧
    ∃ d s₁, destination (.addd (.plain .tos) (.plain .tos)) = some d ∧ d.afterSource start = .ok s₁ ∧
      d.locate start s₁ = .ok (.mem 0x1024 .rmw) :=
  ⟨by decide, _, _, rfl, rfl, rfl⟩

theorem witness_OtherInstructionsStoreNothing : storesNothing (.cmpb (.plain .tos) (.plain (.reg 1))) ∧
    leads (exec (.cmpb (.plain .tos) (.plain (.reg 1))) start) (fun t => t.boundary == .done) = true :=
  ⟨trivial, by decide⟩

/-- 0x0109 / 3 is 0x58, and 1 remains (a divisor of 0: `test_step_dvz`). -/
theorem witness_Divisions_extended : leads (exec (.deib (.plain (.reg 4)) (.plain (.reg 2))) ready)
    (fun t => t.reg 2 == 1 && t.reg 3 == 0x58) = true := by decide

/-- Offsets 0, 31, 32 and -1, in R0 to R3. -/
def offsetState : State := { ready with regs := #v[0, 31, 32, 0xFFFFFFFF, 0, 0, 0, 0x80000001] }

theorem witness_BitsInRegisters_offsets :
    leads (exec (.tbitd (.plain (.reg 0)) (.plain (.reg 7))) offsetState) (fun t => t.flagF) = true ∧
    leads (exec (.cbitd (.plain (.reg 1)) (.plain (.reg 7))) offsetState)
      (fun t => t.flagF && t.reg 7 == 1) = true ∧
    (offsetState.reg 2).toInt = 32 ∧ (offsetState.reg 3).toInt = -1 := by decide

/-- A bit 1 before the address, at bit 7 of the byte below. -/
theorem witness_BitsInMemory_below :
    leads (exec (.sbitb (.plain (.reg 3)) (.plain (.abs (.d14 0x500))))
      { ready with regs := ready.regs.set 3 0xFF }) (fun t => t.mem.get 0x4FF == 0x80) = true := by decide

theorem witness_FieldExtraction_clauses :
    fieldDefined 31 1 ∧ fieldDefined 0 32 ∧ ¬ fieldDefined 32 1 ∧ ¬ fieldDefined 0 0 ∧
    ¬ fieldDefined 1 32 ∧ ¬ fieldDefined (-1) 1 ∧
    leads (exec (.extd 7 (.plain (.reg 1)) (.plain (.reg 2)) (.d7 1))
      { start with regs := (start.regs.set 7 31).set 1 0x80000000 }) (fun t => t.reg 2 == 1) = true := by
  simp only [fieldDefined]; decide

/-- Bit 7 alone from offset 7 on, and no bit from offset 7 on. -/
theorem witness_FindFirstSet_clauses :
    (7 : BitVec 8).toNat < 8 ∧ (0x80 : BitVec 8).getLsbD 7 = true ∧
    (∀ k, (7 : BitVec 8).toNat ≤ k → k < 7 → (0x80 : BitVec 8).getLsbD k = false) ∧
    (∀ j, (7 : BitVec 8).toNat ≤ j → j < 8 → (0x40 : BitVec 8).getLsbD j = false) ∧
    8 ≤ (8 : BitVec 8).toNat := by
  refine ⟨by decide, by decide, fun k h1 h2 => ?_, fun j h1 h2 => ?_, by decide⟩
  · simp at h1; omega
  · have : j = 7 := by simp at h1; omega
    subst this; decide

/-- One element at 0x100, a second string at 0x200. -/
def stringState : State := { start with regs := #v[1, 0x100, 0x200, 0, 0, 0, 0, 0] }

/-- R0 = 0; a match; no match; equal elements; different elements. -/
theorem witness_StringElements : start.accessible ∧ stringState.accessible ∧
    stringState.reg 0 ≠ 0 ∧ (stringState.reg 0).msb = false ∧
    completes stringState (.skpsb .untilMatch false) = true ∧
    completes { stringState with regs := stringState.regs.set 0 0 } (.movsb .none true) = true ∧
    leads (exec (.movsb .none true) stringState) (fun t => t.boundary == .element && t.reg 1 == 0xFF) =
      true ∧
    leads (exec (.cmpsb .none false) stringState) (fun t => t.boundary == .element && t.flagZ) = true ∧
    leads (exec (.cmpsb .none false) (poke 1 0x200 7 stringState))
      (fun t => t.boundary == .done && !t.flagZ) = true :=
  ⟨start_accessible, accessible_of_xlate_nil _ rfl, by decide⟩

/-- Sixteen elements, blocks that touch; and a first difference at the last element. -/
theorem witness_BlocksAndOpenCounts_clauses : blockElements 8 (.d7 15) = some 16 ∧ blockElements 32 (.d7 12) = some 4 ∧
    blockElements 16 (.d7 1) = none ∧ blockElements 8 (.d7 16) = none ∧ blocksApart 8 2 0x100 0x102 ∧
    ¬ blocksApart 8 2 0x100 0x101 ∧ (start.reg 0).msb = true ∧
    leads (exec (.cmpmb (.plain (.abs (.d14 0x500))) (.plain (.abs (.d14 0x600))) (.d7 1))
      (poke 1 0x601 1 start)) (fun t => !t.flagZ) = true := by
  refine ⟨by decide, by decide, by decide, by decide, fun i j hi hj => ?_,
    fun h => h 1 0 (by decide) (by decide) (by decide), by decide, by decide⟩
  have hi : i = 0 ∨ i = 1 := by omega
  have hj : j = 0 ∨ j = 1 := by omega
  rcases hi with rfl | rfl <;> rcases hj with rfl | rfl <;> decide

/-- The upper bound 7 and the lower bound 3 at 0x500. -/
def boundsState : State := poke 1 0x500 7 (poke 1 0x501 3 start)

/-- On the lower bound, on the upper bound, and beyond each. -/
theorem witness_CheckBounds :
    leads (exec (.checkb 0 (.plain (.abs (.d14 0x500))) (.plain (.imm (.b 3)))) boundsState)
      (fun t => !t.flagF && t.reg 0 == 0) = true ∧
    leads (exec (.checkb 0 (.plain (.abs (.d14 0x500))) (.plain (.imm (.b 7)))) boundsState)
      (fun t => !t.flagF && t.reg 0 == 4) = true ∧ boundsState.flagV = false ∧
    leads (exec (.checkb 0 (.plain (.abs (.d14 0x500))) (.plain (.imm (.b 8)))) boundsState)
      (fun t => t.flagF) = true ∧
    leads (exec (.checkb 0 (.plain (.abs (.d14 0x500))) (.plain (.imm (.b 2)))) boundsState)
      (fun t => t.flagF) = true := by decide

/-- A sum that wraps to 0 with V = 0, and a sum that does not. -/
theorem witness_Loop :
    start.flagV = false ∧ outOfRange 8 (127 + 1) = true ∧ outOfRange 8 (126 + 1) = false ∧
    leads (exec (.acbb 1 (.plain (.reg 0)) (.d7 8)) { start with regs := start.regs.set 0 0xFF })
      (fun t => t.pc == 0x1003) = true ∧
    leads (exec (.acbb 1 (.plain (.reg 0)) (.d7 8)) start) (fun t => t.pc == 0x1008) = true := by decide

theorem witness_CallAndReturn : start.xlate = [] ∧ start.mem.wf = true ∧
    leads (exec (.bsr (.d7 8)) start) (fun t => t.pc == 0x1008) = true := by decide

theorem witness_ExplicitTrapsAndCustomInstructions : start.accessible ∧
    start.flagF = false ∧ start.cfgC = false ∧ start.flagU = false ∧
    State.flagF { start with psr := 0x120 } = true ∧ userState.flagU = true ∧
    State.cfgC { start with cfg := 0xFE } = true :=
  ⟨start_accessible, by decide⟩

theorem witness_ExceptionEntryAndReturns : start.accessible ∧ start.flagU = false ∧
    leads (exec (.rett (.d7 4)) (poke 2 0x1026 0x200 start)) (fun t => t.sp0 == 0x1028 && t.sp1 == 0xFFF4) =
      true ∧ start.xlate = [] ∧ start.mem.wf = true ∧
    leads (takeException start 255 0x1000 true 0xFFFF) (fun t => t.sp0 == 0x1018) = true :=
  ⟨start_accessible, by decide, by decide, by decide, by decide, by decide⟩

theorem witness_SaveRestoreEnterExit : start.accessible ∧ start.xlate = [] ∧ start.mem.wf = true ∧
    leads (exec (.save 0x85) start) (fun t => t.sp0 == 0x1014) = true :=
  ⟨start_accessible, by decide, by decide, by decide⟩

/-- A register that User mode may name, in User mode. -/
theorem witness_ProcessorRegisters_user : userState.flagU = true ∧
    procPrivileged .fp = false ∧ procPrivileged .usp = true ∧
    completes userState (.sprd .fp (.plain (.reg 2))) = true := by decide

theorem witness_ConfigurationIsLoaded : start.flagU = false := by decide

/-- Waiting, with no interrupt requested. -/
def waitState : State := { start with waiting := true }

theorem witness_WaitDiagnoseInvalidate : start.accessible ∧ start.flagU = false ∧
    completes start (.cinv true false true (.plain (.reg 1))) = true ∧
    waitState.accessible ∧ waitState.waiting = true ∧ waitState.resetRequest = false ∧
    waitState.nmiPending = false ∧ waitState.intRequest = false ∧
    State.flagI { waitState with intRequest := true, psr := 0x800 } = true ∧ waitState.cfgI = false :=
  ⟨start_accessible, by decide, by decide, accessible_of_xlate_nil _ rfl, by decide⟩

/-- A User region at 0x500. -/
def regionState (p : Protection) (q : Presence) : State :=
  { ready with xlate := [⟨true, 0x500, 0x5FF, 0x500, p, q⟩] }

/-- The three verdicts, at an address that an operand has. -/
theorem witness_Validate : ready.flagU = false ∧ ready.cfgM = true ∧
    genAddr ready.sp (regionState .noAccess .valid) (.plain (.abs (.d14 0x500))) = .ok 0x500 ∧
    ready.validate .read 0x500 = .allowed ∧
    (regionState .noAccess .valid).validate .read 0x500 = .denied ∧
    (regionState .readOnly .valid).validate .write 0x500 = .denied ∧
    (regionState .noAccess .level1Invalid).validate .read 0x500 = .denied ∧
    (regionState .readWrite .level2Invalid).validate .write 0x500 = .allowed ∧
    (regionState .readOnly .level1Invalid).validate .read 0x500 = .abort :=
  ⟨by decide, by decide, rfl, by decide⟩

/-- 1.0 and 1.0, as the exact 1 * 2^0; 3 with one bit kept; a value of each case of delivery, in single
precision at RM = 00; a quotient; a zero sum; integers in and out of range. -/
theorem witness_ResultsAreRoundedAsTheModeSays :
    fpReserved (0x3F800000 : BitVec 32) = false ∧ fpIsZero (0x3F800000 : BitVec 32) = false ∧
    Exact.eq (exactOf 1 0) (fpValue (0x3F800000 : BitVec 32)) = true ∧
    fpIsZero (0x80000000 : BitVec 32) = true ∧
    (exactOf 0 0).mant = 0 ∧ (exactOf 1 0).mant ≠ 0 ∧
    ((exactOf 1 0).add (exactOf (-1) 0)).mant = 0 ∧
    outOfRange 8 (Exact.toInteger (exactOf 255 (-1)) .round) = true ∧
    outOfRange 8 (Exact.toInteger (exactOf 255 (-1)) .trunc) = false ∧
    Exact.toInteger (exactOf 4 (-1)) .floor = 2 := by decide

/-- One unit from 3 to the next one-bit numbers, and the cases of delivery by magnitude. -/
theorem witness_Rounding :
    ((2 : ℚ) ^ ((1 : ℤ) + (1 : ℕ) - 1) ≤ |(exactOf 3 0).val| ∧
      |(exactOf 3 0).val| < (2 : ℚ) ^ ((1 : ℤ) + (1 : ℕ))) ∧
    (2 : ℚ) ^ (127 + 1) ≤ |((exactOf 1 128).round 24 0).val| ∧
    |(exactOf 1 (-127)).val| < (2 : ℚ) ^ (1 - 127 : ℤ) ∧
    (2 : ℚ) ^ (1 - 127 : ℤ) ≤ |(exactOf 0x1000001 0).val| ∧
    |((exactOf 0x1000001 0).round 24 0).val| < (2 : ℚ) ^ (127 + 1) ∧
    ((exactOf 0x1000001 0).round 24 0).val ≠ (exactOf 0x1000001 0).val ∧
    ((exactOf 1 0).round 24 0).val = (exactOf 1 0).val := by
  have h1 : (exactOf 1 128).round 24 0 = exactOf 1 128 := by decide
  have h2 : (exactOf 0x1000001 0).round 24 0 = exactOf 0x800000 1 := by decide
  have h3 : (exactOf 1 0).round 24 0 = exactOf 1 0 := by decide
  simp only [h1, h2, h3, Machine.exactOf_val]
  norm_num

/-- A page that no mode may access, where the frame, the dispatch table and the acknowledge addresses
lie. -/
def closedState : State :=
  { start with
    xlate := [⟨false, 0x1018, 0x101F, 0, .noAccess, .valid⟩,
      ⟨false, 0xFFFFFE00, 0xFFFFFFFF, 0, .noAccess, .valid⟩,
      ⟨false, 0x2000, 0x2FFF, 0x2000, .noAccess, .valid⟩]
    intbase := 0x2000 }
/-- SP0 - 2 may be written and SP0 - 8 may not. -/
def halfClosedState : State :=
  { start with xlate := [⟨false, 0x1018, 0x101B, 0, .noAccess, .valid⟩] }
/-- 0x4E 0x10 is next: no instruction. -/
def atUndefined : State := start.withFetchWord 16 0x104E
/-- SETCFG is next, and its third byte may not be fetched. -/
def atSetcfg : State :=
  { poke 2 0x0FFE 0x0B0E start with
    pc := 0x0FFE, psr := 0x100, xlate := [⟨true, 0x1000, 0x1FFF, 0x1000, .noAccess, .valid⟩] }
/-- MOVB with an absolute address is next, and the address may not be fetched. -/
def atMovb : State := { atSetcfg with mem := (poke 2 0x0FFE 0xAD54 start).mem }

theorem witness_ResetWaitingAndUndefinedEncodings :
    State.resetRequest { start with resetRequest := true } = true ∧ start.resetRequest = false ∧
    start.waiting = false ∧ start.entryFault = false ∧ start.failEntry.entryFault = true ∧
    start.failEntry.waiting = false ∧
    closedState.translate .read false (closedState.intbase + BitVec.ofNat 32 (4 * 5)) = none ∧
    closedState.translate .write false (closedState.sp0 - 2) = none ∧
    halfClosedState.translate .write false (halfClosedState.sp0 - 2) ≠ none ∧
    halfClosedState.translate .write false (halfClosedState.sp0 - 8) = none ∧
    closedState.boundary = .done ∧ closedState.translate .read false 0xFFFFFF00 = none ∧
    closedState.translate .read false 0xFFFFFE00 = none ∧
    (decode (fetchBytes atUndefined maxLength atUndefined.pc).1 = .error .opcode ∧
      DecodeError.opcode ≠ .truncated) ∧
    (decode (fetchBytes atSetcfg maxLength atSetcfg.pc).1 = .error .truncated ∧
      opcodeStop (atSetcfg.setFlag 10 atSetcfg.flagT) (fetchBytes atSetcfg maxLength atSetcfg.pc).1 =
        some (.trap .ill)) ∧
    (decode (fetchBytes atMovb maxLength atMovb.pc).1 = .error .truncated ∧
      opcodeStop (atMovb.setFlag 10 atMovb.flagT) (fetchBytes atMovb maxLength atMovb.pc).1 = none ∧
      (fetchBytes atMovb maxLength atMovb.pc).2 = some 0x1000) :=
  ⟨by decide, by decide, by decide, by decide, by decide, by decide, by decide, by decide, by decide,
    by decide, by decide, by decide, by decide, ⟨by rfl, by decide⟩, ⟨by rfl, by rfl⟩,
    ⟨by rfl, by rfl, by rfl⟩⟩

/-- A dispatch entry that translation refuses: EntryFault, which only Reset leaves (R513, R560). -/
theorem test_entry_fault :
    leads (takeException closedState 5 0x1000 false 0) (fun t => t == closedState.failEntry) = true ∧
    step closedState.failEntry = .fault .entryFault ∧
    leads (step { closedState.failEntry with resetRequest := true })
      (fun t => !t.entryFault && !t.resetRequest && t.pc == 0) = true :=
  ⟨by decide, by rfl, by rfl⟩
/-- SETCFG in User mode and an opcode of no instruction, where the next byte may not be fetched: R524
line 1 comes first. -/
theorem test_opcode_traps_before_abort :
    opcodeStop userState [0x0E, 0x0B] = some (.trap .ill) ∧
    opcodeStop userState [0x4E, 0x10] = some (.trap .und) := ⟨by rfl, by rfl⟩
/-- A zero that is left after an inexact product: inexact (log 42). -/
theorem test_cancelled_product : fpDeliver 32 0 ⟨false, 0, 0⟩ false true = .ok (0, 0x46) := by decide

/-- Between two elements, and while waiting, with an interrupt pending. -/
theorem witness_InterruptsElsewhere :
    State.boundary { nmiState with boundary := .element } = .element ∧ nmiState.nmiPending = true ∧
    nmiState.readByte .read false 0xFFFFFF00 = .ok 0 ∧ intState.nmiPending = false ∧
    intState.intRequest = true ∧ intState.flagI = true ∧
    intState.readByte .read false 0xFFFFFE00 = .ok 0 ∧ traceState.flagI = false ∧
    State.waiting { nmiState with waiting := true } = true ∧ nmiState.resetRequest = false ∧
    intState.resetRequest = false :=
  ⟨by decide, by decide, by rfl, by decide, by decide, by decide, by rfl, by decide⟩

/-- `start` in Direct-Exception mode. -/
def directState : State := { start with cfg := 0x1F6 }

theorem witness_ExceptionAndReturnRestoreTheProgram :
    directState.xlate = [] ∧ directState.mem.wf = true ∧ directState.cfgDE = true ∧
    leads (takeException directState 5 0x1000 false 0x300) (fun t => t.sp0 == 0x1018) = true := by decide

theorem witness_TrappedInstructionLeavesNoTrace : start.flagV = false ∧
    leads (exec (.divd (.plain .tos) (.plain (.reg 0))) start)
      (fun t => t.boundary == .trapped && !t.entryFault) = true := by decide

theorem witness_PrivilegeAndEnables : isPrivileged .reti ∧ isPrivileged (.sprd .usp (.plain (.reg 0))) ∧
    userState.flagU = true ∧ isFloat (.lfsr (.plain (.reg 0))) ∧
    State.reset.cfgF = false ∧ needsMmu (.rdval (.plain (.reg 0))) ∧ State.reset.flagU = false ∧
    State.reset.cfgM = false :=
  ⟨trivial, .inr (.inr (.inl rfl)), by decide, .inl (by decide), by decide, trivial, by decide, by decide⟩

/-- A zero divisor in R0, operands one step from the end of each range, and V = 1. -/
def edgeState : State :=
  { start with psr := 0x10, regs := #v[0, 0x7FFFFFFF, 1, 0x7FFF, 0x7F, 0x80000000, 0x8000, 0x80] }

/-- Each clause of division, of addition and of subtraction. -/
theorem witness_ArithmeticTraps :
    readGen .int 8 edgeState.sp (.plain (.reg 0)) edgeState = .ok (0, edgeState) ∧
    readGen .int 16 edgeState.sp (.plain (.reg 0)) edgeState = .ok (0, edgeState) ∧
    readGen .int 32 edgeState.sp (.plain (.reg 0)) edgeState = .ok (0, edgeState) ∧
    rmwLoc .int edgeState.sp (.plain (.reg 1)) edgeState = .ok (.reg 1) ∧
    rmwLoc .pair edgeState.sp (.plain (.reg 2)) edgeState = .ok (.pair 2) ∧
    readAt 64 (.pair 2) edgeState = .ok (0x7FFF00000001, edgeState) ∧ edgeState.flagV = true ∧
    leads (exec (.addb (.plain (.reg 2)) (.plain (.reg 4))) edgeState)
      (fun t => t.boundary == .trapped && t.reg 4 == 0x80) = true ∧
    leads (exec (.addw (.plain (.reg 2)) (.plain (.reg 3))) edgeState)
      (fun t => t.boundary == .trapped && t.reg 3 == 0x8000) = true ∧
    leads (exec (.addd (.plain (.reg 2)) (.plain (.reg 1))) edgeState)
      (fun t => t.boundary == .trapped && t.reg 1 == 0x80000000) = true ∧
    leads (exec (.subb (.plain (.reg 2)) (.plain (.reg 7))) edgeState)
      (fun t => t.boundary == .trapped && t.reg 7 == 0x7F) = true ∧
    leads (exec (.subw (.plain (.reg 2)) (.plain (.reg 6))) edgeState)
      (fun t => t.boundary == .trapped && t.reg 6 == 0x7FFF) = true ∧
    leads (exec (.subd (.plain (.reg 2)) (.plain (.reg 5))) edgeState)
      (fun t => t.boundary == .trapped && t.reg 5 == 0x7FFFFFFF) = true :=
  ⟨rfl, rfl, rfl, rfl, rfl, rfl, by decide⟩

/-- F0 infinite, F2 1.0, F4 zero, L6 infinite. -/
def reservedState : State :=
  { start with fd := #v[0x7F800000, 0, 0x3F800000, 0, 0, 0, 0x7FF0000000000000, 0] }

/-- A reserved operand in each position, a zero divisor, and both zero. -/
theorem witness_FloatTraps :
    readGen .float 32 reservedState.sp (.plain (.reg 0)) reservedState =
      .ok (0x7F800000, reservedState) ∧
    rmwLoc .float reservedState.sp (.plain (.reg 2)) reservedState = .ok (.freg 2) ∧
    readAt 32 (.freg 2) reservedState = .ok (0x3F800000, reservedState) ∧
    readAt 64 (.freg 6) reservedState = .ok (0x7FF0000000000000, reservedState) ∧
    reservedState.cfgF = true ∧ fpReserved (0x7F800000 : BitVec 32) = true ∧
    fpReserved (0x3F800000 : BitVec 32) = false ∧
    fpReserved (0x7FF0000000000000 : BitVec 64) = true ∧ fpIsZero (0 : BitVec 32) = true ∧
    leads (exec (.divf (.plain (.reg 4)) (.plain (.reg 2))) reservedState) (fun t => t.fsr == 3) = true ∧
    leads (exec (.divl (.plain (.reg 4)) (.plain (.reg 4))) reservedState) (fun t => t.fsr == 5) = true ∧
    leads (exec (.addf (.plain (.reg 0)) (.plain (.reg 2))) reservedState) (fun t => t.fsr == 5) = true :=
  ⟨rfl, rfl, rfl, rfl, by decide⟩

/-- A page that User mode may not write, then a page that it may not read. -/
def refusingState : State :=
  { userState with
    xlate := [⟨true, 0x5000, 0x5FFF, 0x5000, .readOnly, .valid⟩,
      ⟨true, 0x6000, 0x6FFF, 0x6000, .noAccess, .valid⟩]
    regs := start.regs.set 1 0x5FFC }

/-- A source that is refused, and a destination that is. -/
theorem witness_RefusedAccessAborts :
    readGen .int 32 refusingState.sp (.plain (.regRel 1 (.d7 4))) refusingState = .error (.abort 0x6000) ∧
    readGen .int 32 refusingState.sp (.plain (.reg 0)) refusingState = .ok (0xA5A5A5A0, refusingState) ∧
    writeLoc .int refusingState.sp (.plain (.regRel 1 (.d7 0))) refusingState = .ok (.mem 0x5FFC .write) ∧
    writeAt (.mem 0x5FFC .write) (0xA5A5A5A0 : BitVec 32) refusingState = .error (.abort 0x5FFC) ∧
    rmwLoc .int refusingState.sp (.plain (.regRel 1 (.d7 0))) refusingState = .ok (.mem 0x5FFC .rmw) ∧
    readAt 32 (.mem 0x5FFC .rmw) refusingState = .error (.abort 0x5FFC) :=
  ⟨rfl, rfl, rfl, rfl, rfl, rfl⟩

/-- The third of four bytes is the first that is refused, for a read and for a write. -/
theorem witness_Refuses :
    refusingState.refuses .read refusingState.flagU 0x5FFE 4 0x6000 ∧
    refusingState.refuses .write refusingState.flagU 0x4FFE 4 0x5000 := by
  constructor <;> refine ⟨2, by decide, by decide, by decide, fun i hi => ?_⟩ <;>
    interval_cases i <;> decide

/-- FP, SB, the stack pointer and MOD + 4 at 0x5FFE, where a double-word runs into the refused page. -/
def pointerState : State :=
  { refusingState with fp := 0x5FFE, sb := 0x5FFE, sp1 := 0x5FFE, mod := 0x5FFA, regs := start.regs.set 1 0x5FFE }

/-- Each pointer and each operand of the statement at that address: an operand in memory, one with
Scaled Indexing (R2 = 0), Top of Stack, and a push that ends below 0x5002. -/
theorem witness_RefusedPointers :
    (pointerState.fp + dispValue (.d7 0) = 0x5FFE ∧ pointerState.sb + dispValue (.d7 0) = 0x5FFE ∧
    pointerState.sp + dispValue (.d7 0) = 0x5FFE ∧ pointerState.sp = 0x5FFE ∧
    pointerState.mod.setWidth 32 + 4 = (0x5FFE : Word)) ∧
    modeAddr 0 pointerState (.regRel 1 (.d7 0)) = .ok 0x5FFE ∧
    State.read 32 { pointerState with mod := 0 } 4 = .ok 0 ∧
    (0 : Word) + 4 * dispValue (.d14 0x17FF) + 2 = 0x5FFE ∧
    State.sp { pointerState with sp1 := 0x5002 } - BitVec.ofNat 32 (32 / 8) = 0x4FFE ∧
    pointerState.refuses .read pointerState.flagU 0x5FFE 4 0x6000 := by
  refine ⟨by decide, rfl, rfl, by decide, by decide, 2, by decide, by decide, by decide, fun i hi => ?_⟩
  interval_cases i <;> decide

/-- 1.0 * 1.0 + 1.0, whichever way it is rounded. -/
theorem witness_DotAndPoly :
    Instr.wellFormed (.dotf (.plain (.reg 2)) (.plain (.reg 4))) = true ∧
    Instr.wellFormed (.polyl (.plain (.reg 2)) (.plain (.reg 4))) = true ∧
    fpReserved (ready.freg 32 0) = false ∧ fpReserved (ready.freg 64 0) = false ∧
    (∃ r, mulAdd 32 ready.fsr (fpValue (ready.freg 32 2)) (fpValue (ready.freg 32 4))
      (fpValue (ready.freg 32 0)) = .ok r) ∧
    ∃ r, mulAdd 64 ready.fsr (fpValue (ready.freg 64 2)) (fpValue (ready.freg 64 4))
      (fpValue (ready.freg 64 0)) = .ok r := by
  refine ⟨by decide, by decide, by decide, by decide, ?_, ?_⟩ <;> unfold mulAdd <;> split <;>
    exact ⟨_, rfl⟩

end Sys2Proof.Tests
end

section
/-! The machine invariant (R33, R48, R56, R60): every operation of the model keeps it, then every
meaning, then every step. -/

namespace Sys2Proof.Machine

/-! ## Words whose reserved bits are zero -/

/-- Replacing a bit that a mask has changes no bit outside the mask. -/
theorem putBit_and_not {n i : Nat} (x m : BitVec n) (b : Bool) (h : m.getLsbD i = true) :
    putBit x i b &&& ~~~m = x &&& ~~~m := by
  ext j hj
  by_cases hji : j = i
  · subst hji
    simp [← BitVec.getLsbD_eq_getElem, h]
  · have hbit : (1#n <<< i)[j] = false := by
      rw [← BitVec.getLsbD_eq_getElem]
      simp only [BitVec.getLsbD_shiftLeft, BitVec.getLsbD_one]
      grind
    cases b <;> simp [putBit, hbit]

theorem or_and_mask {n : Nat} (x y m : BitVec n) : (x ||| y) &&& m = (x &&& m) ||| (y &&& m) := by
  ext i hi
  simp [Bool.and_or_distrib_right]

/-- The reserved bits of FSR are zero (R60). -/
def fsrClean (f : Word) : Prop := f &&& ~~~fsrMask = 0

theorem fsrSetTT_and_not (f : Word) (tt : BitVec 3) :
    fsrSetTT f tt &&& ~~~fsrMask = f &&& ~~~fsrMask := by
  have hm : (0xFFFFFFF8 : Word) &&& ~~~fsrMask = ~~~fsrMask := by decide
  have htt : tt.setWidth 32 &&& ~~~fsrMask = 0 := by revert tt; decide
  rw [fsrSetTT, or_and_mask, BitVec.and_assoc, hm, htt]
  simp

@[simp] theorem fsrClean_setTT (f : Word) (tt : BitVec 3) : fsrClean (fsrSetTT f tt) ↔ fsrClean f := by
  rw [fsrClean, fsrSetTT_and_not, fsrClean]

@[simp] theorem fsrClean_setUF (f : Word) : fsrClean (fsrSetUF f) ↔ fsrClean f := by
  rw [fsrClean, fsrSetUF, putBit_and_not _ _ _ (by decide), fsrClean]

@[simp] theorem fsrClean_setIF (f : Word) : fsrClean (fsrSetIF f) ↔ fsrClean f := by
  rw [fsrClean, fsrSetIF, putBit_and_not _ _ _ (by decide), fsrClean]

@[simp] theorem fsrClean_setRMB (f : Word) : fsrClean (fsrSetRMB f) ↔ fsrClean f := by
  rw [fsrClean, fsrSetRMB, putBit_and_not _ _ _ (by decide), fsrClean]

@[simp] theorem fsrClean_and_mask (f : Word) : fsrClean (f &&& fsrMask) := by
  simp [fsrClean, BitVec.and_assoc]

/-! ## Updates of the state -/

theorem fsrClean_of_inv {s : State} (h : s.Inv) : fsrClean s.fsr := by
  obtain ⟨-, -, -, hf⟩ := h
  exact hf

/-- The invariant speaks of memory, PSR, CFG and FSR alone. -/
theorem inv_congr {s t : State} (hm : t.mem = s.mem) (hp : t.psr = s.psr) (hc : t.cfg = s.cfg)
    (hf : t.fsr = s.fsr) : t.Inv ↔ s.Inv := by
  rw [State.Inv, State.Inv, hm, hp, hc, hf]

@[simp] theorem inv_setReg (s : State) (r : Reg) (v : Word) : (s.setReg r v).Inv ↔ s.Inv :=
  inv_congr rfl rfl rfl rfl

@[simp] theorem inv_setRegLow {w : Nat} (s : State) (r : Reg) (v : BitVec w) :
    (s.setRegLow r v).Inv ↔ s.Inv := inv_congr rfl rfl rfl rfl

@[simp] theorem inv_setSp (s : State) (v : Word) : (s.setSp v).Inv ↔ s.Inv :=
  inv_congr (by simp) (by simp) (by simp) (by simp)

@[simp] theorem inv_draw (w : Nat) (s : State) : (s.draw w).2.Inv ↔ s.Inv := inv_congr rfl rfl rfl rfl

@[simp] theorem inv_drawRegs (s : State) : s.drawRegs.Inv ↔ s.Inv := inv_congr rfl rfl rfl rfl

@[simp] theorem inv_advance (s : State) (n : Nat) : (s.advance n).Inv ↔ s.Inv :=
  inv_congr rfl rfl rfl rfl

@[simp] theorem inv_jump (s : State) (a : Word) : (s.jump a).Inv ↔ s.Inv := inv_congr rfl rfl rfl rfl

@[simp] theorem inv_failEntry (s : State) : s.failEntry.Inv ↔ s.Inv := inv_congr rfl rfl rfl rfl

/-- A flag that PSR holds may be replaced. -/
theorem inv_setFlag (s : State) {i : Nat} (b : Bool) (hi : psrMask.getLsbD i = true) :
    (s.setFlag i b).Inv ↔ s.Inv := by
  change _ ∧ putBit s.psr i b &&& ~~~psrMask = 0 ∧ _ ↔ _
  rw [putBit_and_not _ _ _ hi]
  rfl

@[simp] theorem inv_setC (s : State) (b : Bool) : (s.setC b).Inv ↔ s.Inv := inv_setFlag s b (by decide)

@[simp] theorem inv_setF (s : State) (b : Bool) : (s.setF b).Inv ↔ s.Inv := inv_setFlag s b (by decide)

@[simp] theorem inv_setZNL (s : State) (z n l : Bool) : (s.setZNL z n l).Inv ↔ s.Inv := by
  rw [State.setZNL, inv_setFlag _ _ (by decide), inv_setFlag _ _ (by decide),
    inv_setFlag _ _ (by decide)]

@[simp] theorem inv_compareFlags {w : Nat} (s : State) (a b : BitVec w) :
    (s.compareFlags a b).Inv ↔ s.Inv := inv_setZNL s _ _ _

@[simp] theorem inv_latchTrace (s : State) : (latchTrace s).Inv ↔ s.Inv :=
  inv_setFlag s _ (by decide)

theorem inv_setPsr {s : State} (h : s.Inv) (v : BitVec 16) : (s.setPsr v).Inv := by
  obtain ⟨hm, -, hc, hf⟩ := h
  exact ⟨hm, by simp [BitVec.and_assoc], hc, hf⟩

theorem inv_setUpsr {s : State} (h : s.Inv) (v : BitVec 8) : (s.setUpsr v).Inv := inv_setPsr h _

theorem inv_setCfg {s : State} (h : s.Inv) (v : Word) : (s.setCfg v).Inv := by
  obtain ⟨hm, hp, -, hf⟩ := h
  have hk : (0x00003F0F : Word) &&& 0xFFFFC0F0 = 0 := by decide
  refine ⟨hm, hp, ?_, hf⟩
  change ((v &&& 0x00003F0F) ||| 0x000000F0) &&& 0xFFFFC0F0 = 0x000000F0
  rw [or_and_mask, BitVec.and_assoc, hk]
  simp

theorem inv_setFsr {s : State} (h : s.Inv) {f : Word} (hf : fsrClean f) : { s with fsr := f }.Inv := by
  obtain ⟨hm, hp, hc, -⟩ := h
  exact ⟨hm, hp, hc, hf⟩

theorem inv_setFreg {w : Nat} {s : State} (h : s.Inv) (r : Reg) (v : BitVec w) : (s.setFreg r v).Inv :=
  (inv_congr rfl rfl rfl rfl).1 (inv_setFsr h ((fsrClean_setRMB s.fsr).2 (fsrClean_of_inv h)))

theorem inv_enteredPsr {s : State} (h : s.Inv) (b : Bool) :
    { s with psr := enteredPsr s.psr b }.Inv := by
  obtain ⟨hm, hp, hc, hf⟩ := h
  refine ⟨hm, ?_, hc, hf⟩
  have hclear : ∀ c : BitVec 16, (s.psr &&& c) &&& ~~~psrMask = 0 := fun c => by
    rw [BitVec.and_assoc, BitVec.and_comm c, ← BitVec.and_assoc, hp]
    simp
  cases b
  · exact hclear 0xF8FD
  · exact hclear 0xF0FD

/-! ## Computations that keep the invariant -/

/-- What a body that stops hands to `conclude` keeps the invariant: the FSR of Trap(FPU), the state of
Trap(OVF). -/
def Stop.Sound : Stop → Prop
  | .fpu f => fsrClean f
  | .overflow s => s.Inv
  | .trap _ | .abort _ | .custom | .noFpu | .undefined => True

/-- A computation that answers something of which `P` holds, or stops with nothing that breaks the
invariant. -/
def Yields {α : Type} (P : α → Prop) : Except Stop α → Prop
  | .ok a => P a
  | .error e => e.Sound

theorem Yields.bind {α β : Type} {P : α → Prop} {Q : β → Prop} {x : Except Stop α}
    {f : α → Except Stop β} (hx : Yields P x) (hf : ∀ a, P a → Yields Q (f a)) :
    Yields Q (x >>= f) := by
  cases x with
  | ok a => exact hf a hx
  | error e => exact hx

/-- A computation that gives no state and stops only with a trap or an abort. -/
abbrev Harmless {α : Type} (x : Except Stop α) : Prop := Yields (fun _ => True) x

theorem readBytes_harmless (s : State) (k : Access) (u : Bool) (n : Nat) (va : Word) :
    Harmless (s.readBytes k u va n) := by
  induction n generalizing va with
  | zero => trivial
  | succ n ih =>
    have hb : Harmless (s.readByte k u va) := by unfold State.readByte; split <;> trivial
    have hn := ih (va + 1)
    unfold State.readBytes
    split
    · next e he => rw [he] at hb; exact hb
    · split
      · next e he => rw [he] at hn; exact hn
      · trivial

theorem read_harmless (w : Nat) (s : State) (va : Word) (k : Access) (u : Bool) :
    Harmless (s.read w va k u) := by
  have h := readBytes_harmless s k u (w / 8) va
  unfold State.read
  split
  · trivial
  · next e he => rw [he] at h; exact h

theorem writeBytes_inv {k : Access} {u : Bool} {n : Nat} {va : Word} {v : Nat} {s : State}
    (hs : s.Inv) : Yields State.Inv (State.writeBytes k u n va v s) := by
  induction n generalizing va v s with
  | zero => exact hs
  | succ n ih =>
    obtain ⟨hm, hrest⟩ := hs
    simp only [State.writeBytes, State.writeByte]
    cases s.translate k u va with
    | none => trivial
    | some pa => exact ih ⟨wf_set _ _ _ pa.isLt hm, hrest⟩

theorem write_inv {w : Nat} {s : State} (hs : s.Inv) (va : Word) (v : BitVec w) (k : Access)
    (u : Bool) : Yields State.Inv (s.write va v k u) := writeBytes_inv hs

theorem push_inv {w : Nat} {s : State} (hs : s.Inv) (v : BitVec w) : Yields State.Inv (s.push v) :=
  write_inv ((inv_setSp _ _).2 hs) _ _ _ _

/-- A value with the state that is left: the state meets the invariant. -/
abbrev LeavesInv {α : Type} (x : Except Stop (α × State)) : Prop := Yields (fun p => p.2.Inv) x

theorem pop_inv {s : State} (hs : s.Inv) (w : Nat) : LeavesInv (s.pop w) := by
  have h := read_harmless w s s.sp .read s.flagU
  unfold State.pop
  split
  · exact (inv_setSp _ _).2 hs
  · next e he => rw [he] at h; exact h

theorem privileged_harmless (s : State) : Harmless (privileged s) := by
  unfold privileged; split <;> trivial

theorem needFpu_harmless (s : State) : Harmless (needFpu s) := by
  unfold needFpu; split
  · split <;> trivial
  · trivial

theorem needMmu_harmless (s : State) : Harmless (needMmu s) := by
  unfold needMmu; split
  · trivial
  · split <;> trivial

theorem undefinedStop_sound : undefinedStop.Sound := by
  unfold undefinedStop; split <;> trivial

theorem ovfTrap_inv {s : State} (hs : s.Inv) (b : Bool) : Yields State.Inv (ovfTrap b s) := by
  unfold ovfTrap; split <;> exact hs

/-! ## Operands -/

theorem modeAddr_harmless (spi : Word) (s : State) (m : Mode) : Harmless (modeAddr spi s m) := by
  cases m with
  | frameRel d1 d2 => exact (read_harmless _ _ _ _ _).bind fun _ _ => trivial
  | stackRel d1 d2 => exact (read_harmless _ _ _ _ _).bind fun _ _ => trivial
  | staticRel d1 d2 => exact (read_harmless _ _ _ _ _).bind fun _ _ => trivial
  | ext d1 d2 =>
    exact (read_harmless _ _ _ _ _).bind fun _ _ => (read_harmless _ _ _ _ _).bind fun _ _ => trivial
  | _ => trivial

theorem genAddr_harmless (spi : Word) (s : State) (g : Gen) : Harmless (genAddr spi s g) := by
  cases g with
  | plain m => exact modeAddr_harmless spi s m
  | indexed sc m r => exact (modeAddr_harmless spi s m).bind fun _ _ => trivial

theorem readReg_inv {s : State} (hs : s.Inv) (w : Nat) (f : File) (r : Reg) :
    (readReg w s f r).2.Inv := by
  cases f with
  | int => exact hs
  | float => exact hs
  | pair => simp only [readReg]; split; exacts [hs, (inv_draw _ _).2 hs]

theorem readMem_inv {s : State} (hs : s.Inv) (w : Nat) (spi : Word) (g : Gen) :
    LeavesInv (do let a ← genAddr spi s g; let v ← s.read w a; Except.ok (v, s)) :=
  (genAddr_harmless spi s g).bind fun _ _ => (read_harmless _ _ _ _ _).bind fun _ _ => hs

theorem readGen_inv {s : State} (hs : s.Inv) (f : File) (w : Nat) (spi : Word) (g : Gen) :
    LeavesInv (readGen f w spi g s) := by
  cases g with
  | indexed sc m r => exact readMem_inv hs w spi _
  | plain m =>
    cases m with
    | reg r => exact readReg_inv hs w f r
    | imm v => exact hs
    | tos => exact pop_inv hs w
    | _ => exact readMem_inv hs w spi _

theorem writeLoc_harmless (f : File) (spi : Word) (g : Gen) (s : State) :
    Harmless (writeLoc f spi g s) := by
  unfold writeLoc
  split
  · trivial
  · trivial
  · exact (genAddr_harmless _ _ _).bind fun _ _ => trivial

theorem rmwLoc_harmless (f : File) (spi : Word) (g : Gen) (s : State) :
    Harmless (rmwLoc f spi g s) := by
  unfold rmwLoc
  split
  · trivial
  · exact (genAddr_harmless _ _ _).bind fun _ _ => trivial

theorem readAt_inv {s : State} (hs : s.Inv) (w : Nat) (l : Loc) : LeavesInv (readAt w l s) := by
  cases l with
  | mem a k => exact (read_harmless _ _ _ _ _).bind fun _ _ => hs
  | push => exact hs
  | _ => exact readReg_inv hs w _ _

theorem writeAt_inv {w : Nat} {s : State} (hs : s.Inv) (l : Loc) (v : BitVec w) :
    Yields State.Inv (writeAt l v s) := by
  cases l with
  | reg r => exact (inv_setRegLow s r v).2 hs
  | pair r => change (writePair s r v).Inv; unfold writePair; split <;> simpa using hs
  | freg r => exact inv_setFreg hs r v
  | mem a k => exact write_inv hs a v k _
  | push => exact push_inv hs v

/-! ## Shapes of instructions -/

/-- A result whose state meets the invariant. -/
abbrev ResultInv {w : Nat} (x : Except Stop (Result w)) : Prop := Yields (fun r => r.state.Inv) x

theorem deliver_inv {w : Nat} (len : Nat) (l : Loc) (r : Result w) (h : r.state.Inv) :
    Yields State.Inv (deliver len l r) :=
  (writeAt_inv h l r.value).bind fun _ ht => ovfTrap_inv ((inv_advance _ _).2 ht) _

section
variable {fa fb : File} {wa wb len : Nat} {a b : Gen} {s : State}

theorem source_inv (hs : s.Inv) {op : BitVec wa → State → Except Stop State}
    (hop : ∀ x t, t.Inv → Yields State.Inv (op x t)) : Yields State.Inv (source fa wa len a s op) :=
  (readGen_inv hs _ _ _ _).bind fun _ h₁ => (hop _ _ h₁).bind fun _ h₂ => (inv_advance _ _).2 h₂

theorem sources_inv (hs : s.Inv) {op : BitVec wa → BitVec wb → State → Except Stop State}
    (hop : ∀ x y t, t.Inv → Yields State.Inv (op x y t)) :
    Yields State.Inv (sources fa fb wa wb len a b s op) :=
  (readGen_inv hs _ _ _ _).bind fun _ h₁ => (readGen_inv h₁ _ _ _ _).bind fun _ h₂ =>
    (hop _ _ _ h₂).bind fun _ h₃ => (inv_advance _ _).2 h₃

theorem store_inv {op : State → Result wb} (hop : (op s).state.Inv) :
    Yields State.Inv (store fb wb len b s op) :=
  (writeLoc_harmless _ _ _ _).bind fun _ _ => deliver_inv _ _ _ hop

theorem unary_inv (hs : s.Inv) {op : BitVec wa → State → Except Stop (Result wb)}
    (hop : ∀ x t, t.Inv → ResultInv (op x t)) :
    Yields State.Inv (unary fa fb wa wb len a b s op) :=
  (readGen_inv hs _ _ _ _).bind fun _ h₁ => (writeLoc_harmless _ _ _ _).bind fun _ _ =>
    (hop _ _ h₁).bind fun _ h₂ => deliver_inv _ _ _ h₂

theorem fromAddr_inv {op : Word → State → Result wb} (hop : ∀ ea, (op ea s).state.Inv) :
    Yields State.Inv (fromAddr wb len a b s op) :=
  (genAddr_harmless _ _ _).bind fun _ _ => (writeLoc_harmless _ _ _ _).bind fun _ _ =>
    deliver_inv _ _ _ (hop _)

theorem modify_inv (hs : s.Inv) {op : BitVec wb → State → Except Stop (Result wb)}
    (hop : ∀ y t, t.Inv → ResultInv (op y t)) : Yields State.Inv (modify fb wb len b s op) :=
  (rmwLoc_harmless _ _ _ _).bind fun _ _ => (readAt_inv hs _ _).bind fun _ h₁ =>
    (hop _ _ h₁).bind fun _ h₂ => deliver_inv _ _ _ h₂

theorem binary_inv (hs : s.Inv) {op : BitVec wa → BitVec wb → State → Except Stop (Result wb)}
    (hop : ∀ x y t, t.Inv → ResultInv (op x y t)) :
    Yields State.Inv (binary fa fb wa wb len a b s op) :=
  (readGen_inv hs _ _ _ _).bind fun _ h₁ => (rmwLoc_harmless _ _ _ _).bind fun _ _ =>
    (readAt_inv h₁ _ _).bind fun _ h₂ => (hop _ _ _ h₂).bind fun _ h₃ => deliver_inv _ _ _ h₃

end

end Sys2Proof.Machine
end

section
/-! The meanings of the instructions keep the machine invariant. -/

namespace Sys2Proof.Machine

/-! ## Integer, logical and packed decimal instructions -/

section
variable {s : State} (hs : s.Inv) (w len : Nat) (a b : Gen)
include hs

theorem arithResult_inv (r : Arith w) : (arithResult r s).state.Inv := by
  simpa [arithResult] using hs

theorem addI_inv : Yields State.Inv (addI w len a b s) :=
  binary_inv hs fun _ _ _ ht => arithResult_inv ht w _

theorem addQ_inv (q : BitVec 4) : Yields State.Inv (addQ w len q b s) :=
  modify_inv hs fun _ _ ht => arithResult_inv ht w _

theorem addCarry_inv : Yields State.Inv (addCarry w len a b s) :=
  binary_inv hs fun _ _ _ ht => arithResult_inv ht w _

theorem subI_inv : Yields State.Inv (subI w len a b s) :=
  binary_inv hs fun _ _ _ ht => arithResult_inv ht w _

theorem subCarry_inv : Yields State.Inv (subCarry w len a b s) :=
  binary_inv hs fun _ _ _ ht => arithResult_inv ht w _

theorem negI_inv : Yields State.Inv (negI w len a b s) :=
  unary_inv hs fun _ _ ht => arithResult_inv ht w _

theorem absI_inv : Yields State.Inv (absI w len a b s) :=
  unary_inv hs fun _ _ ht => (inv_setF _ _).2 ht

theorem mulI_inv : Yields State.Inv (mulI w len a b s) := binary_inv hs fun _ _ _ ht => ht

theorem readLowHalf_inv (l : Loc) : LeavesInv (readLowHalf w l s) := by
  cases l with
  | pair r => simp only [readLowHalf]; split; exacts [hs, (inv_draw w s).2 hs]
  | reg r => exact readAt_inv hs w (.reg r)
  | freg r => exact readAt_inv hs w (.freg r)
  | mem a k => exact readAt_inv hs w (.mem a k)
  | push => exact readAt_inv hs w .push

theorem meiI_inv : Yields State.Inv (meiI w len a b s) :=
  (readGen_inv hs _ _ _ _).bind fun _ h₁ => (rmwLoc_harmless _ _ _ _).bind fun l _ =>
    (readLowHalf_inv h₁ w l).bind fun _ h₂ => deliver_inv _ _ _ h₂

theorem signedDivision_inv (f : Int → Int → Int) (o : Bool) :
    Yields State.Inv (signedDivision w len a b s f o) :=
  binary_inv hs fun x y t ht => by split; exacts [trivial, ht]

theorem deiI_inv : Yields State.Inv (deiI w len a b s) :=
  binary_inv hs fun x y t ht => by
    split
    · trivial
    · dsimp only; split; exacts [(inv_draw (2 * w) t).2 ht, ht]

theorem movI_inv : Yields State.Inv (movI w len a b s) := unary_inv hs fun _ _ ht => ht

theorem movQ_inv (q : BitVec 4) : Yields State.Inv (movQ w len q b s) := store_inv hs

theorem movX_inv (wa wb : Nat) : Yields State.Inv (movX wa wb len a b s) :=
  unary_inv hs fun _ _ ht => ht

theorem movZ_inv (wa wb : Nat) : Yields State.Inv (movZ wa wb len a b s) :=
  unary_inv hs fun _ _ ht => ht

theorem cmpI_inv : Yields State.Inv (cmpI w len a b s) :=
  sources_inv hs fun _ _ _ ht => (inv_compareFlags _ _ _).2 ht

theorem cmpQ_inv (q : BitVec 4) : Yields State.Inv (cmpQ w len q b s) :=
  source_inv hs fun _ _ ht => (inv_compareFlags _ _ _).2 ht

theorem logical_inv (f : BitVec w → BitVec w → BitVec w) : Yields State.Inv (logical w len a b s f) :=
  binary_inv hs fun _ _ _ ht => ht

theorem comI_inv : Yields State.Inv (comI w len a b s) := unary_inv hs fun _ _ ht => ht

theorem notI_inv : Yields State.Inv (notI w len a b s) := unary_inv hs fun _ _ ht => ht

theorem shift_inv (f : BitVec w → Nat → BitVec w × Bool) (g : BitVec w → Nat → BitVec w) :
    Yields State.Inv (shift w len a b s f g) :=
  binary_inv hs fun c y t ht => by
    split
    · exact (inv_draw w t).2 ht
    · split <;> exact ht

theorem scond_inv (c : Cond) : Yields State.Inv (scond w len c b s) := store_inv hs

theorem packed_inv (f : Nat → Nat → Nat → Nat × Bool) : Yields State.Inv (packed w len a b s f) :=
  binary_inv hs fun x y t ht => by
    dsimp only
    split <;> simpa [Yields] using ht

end

/-! ## Bit and bit-field instructions -/

/-- How EXT delivers the field of n bits at bit k of a double-word (R330 to R335). -/
def deliverField (w len : Nat) (spi : Word) (b : Gen) (s : State) (d : Word) (k n : Int) :
    Except Stop State := do
  let l ← writeLoc .int spi b s
  if fieldFits k n then
    deliver (w := w) len l { value := (extractField d k.toNat n.toNat).setWidth w, state := s }
  else
    let (v, s) := s.draw w
    deliver len l { value := v, state := s }

theorem bitBase_harmless {s : State} (spi : Word) (g : Gen) : Harmless (bitBase spi s g) := by
  unfold bitBase
  split
  · trivial
  · exact (genAddr_harmless _ _ _).bind fun _ _ => trivial

section
variable {s : State} (hs : s.Inv) (w len : Nat) (a b : Gen)
include hs

theorem bitOp_inv (change : Option (Bool → Bool)) : Yields State.Inv (bitOp w len a b s change) := by
  refine (readGen_inv hs _ _ _ _).bind fun x h₁ => (bitBase_harmless _ _).bind fun base _ => ?_
  cases base with
  | reg r =>
    dsimp only
    split
    · cases change <;> simpa [Yields] using h₁
    · cases change <;> simpa [Yields] using h₁
  | mem ea =>
    cases change with
    | none => exact (read_harmless _ _ _ _ _).bind fun _ _ => by simpa [Yields] using h₁
    | some f =>
      exact (read_harmless _ _ _ _ _).bind fun _ _ => (write_inv h₁ _ _ _ _).bind fun _ h₂ => by
        simpa [Yields] using h₂

theorem ffsI_inv : Yields State.Inv (ffsI w len a b s) :=
  binary_inv hs fun x y t ht => by
    dsimp only
    split
    · simpa [Yields] using ht
    · split <;> simpa [Yields] using ht

theorem cvtpI_inv (r : Reg) : Yields State.Inv (cvtpI len r a b s) := fromAddr_inv fun _ => hs

theorem deliverField_inv (spi : Word) (b : Gen) (d : Word) (k n : Int) :
    Yields State.Inv (deliverField w len spi b s d k n) := by
  refine (writeLoc_harmless _ _ _ _).bind fun l _ => ?_
  split
  · exact deliver_inv _ _ _ hs
  · exact deliver_inv _ _ _ ((inv_draw w s).2 hs)

theorem extField_inv (off n : Int) : Yields State.Inv (extField w len off n a b s) := by
  refine (bitBase_harmless _ _).bind fun base _ => ?_
  cases base with
  | reg r => exact deliverField_inv hs w len _ _ _ _ _
  | mem ea => exact (read_harmless _ _ _ _ _).bind fun _ _ => deliverField_inv hs w len _ _ _ _ _

theorem insField_inv (off n : Int) : Yields State.Inv (insField w len off n a b s) := by
  refine (readGen_inv hs _ _ _ _).bind fun x h₁ => (bitBase_harmless _ _).bind fun base _ => ?_
  cases base with
  | reg r => dsimp only; split <;> simpa [Yields] using h₁
  | mem ea =>
    refine (read_harmless _ _ _ _ _).bind fun d _ => ?_
    split
    · exact (write_inv h₁ _ _ _ _).bind fun _ h₂ => (inv_advance _ _).2 h₂
    · exact (write_inv ((inv_draw 32 x.2).2 h₁) _ _ _ _).bind fun _ h₂ => (inv_advance _ _).2 h₂

end

/-! ## Processor control -/

theorem customOp_inv {s : State} : Yields State.Inv (customOp s) := by unfold customOp; split <;> trivial

theorem customPrivileged_inv {s : State} : Yields State.Inv (customPrivileged s) :=
  (privileged_harmless _).bind fun _ _ => customOp_inv

section
variable {s : State} (hs : s.Inv) (w len : Nat) (a b : Gen)
include hs

theorem branchIf_inv (c : Cond) (d : Disp) : Yields State.Inv (branchIf c len d s) := by
  unfold branchIf; split <;> simpa [Yields] using hs

theorem branch_inv (d : Disp) : Yields State.Inv (branch d s) := (inv_jump _ _).2 hs

theorem jumpTo_inv : Yields State.Inv (jumpTo a s) :=
  (genAddr_harmless _ _ _).bind fun _ _ => (inv_jump _ _).2 hs

theorem caseI_inv : Yields State.Inv (caseI w a s) :=
  (readGen_inv hs _ _ _ _).bind fun _ h₁ => (inv_jump _ _).2 h₁

theorem acbI_inv (q : BitVec 4) (d : Disp) : Yields State.Inv (acbI w len q a d s) :=
  (rmwLoc_harmless _ _ _ _).bind fun l _ => (readAt_inv hs _ l).bind fun _ h₁ =>
    (writeAt_inv h₁ l _).bind fun _ h₂ => ovfTrap_inv (by split <;> simpa using h₂) _

theorem bsr_inv (d : Disp) : Yields State.Inv (bsr len d s) :=
  (push_inv hs _).bind fun _ h₁ => (inv_jump _ _).2 h₁

theorem jsr_inv : Yields State.Inv (jsr len a s) :=
  (genAddr_harmless _ _ _).bind fun _ _ => (push_inv hs _).bind fun _ h₁ => (inv_jump _ _).2 h₁

theorem ret_inv (d : Disp) : Yields State.Inv (ret d s) :=
  (read_harmless _ _ _ _ _).bind fun _ _ => by simpa [Yields] using hs

theorem callExternal_inv (d : Word) : Yields State.Inv (callExternal len d s) :=
  (read_harmless _ _ _ _ _).bind fun _ _ => (read_harmless _ _ _ _ _).bind fun _ _ =>
    (push_inv ((inv_draw 16 s).2 hs) _).bind fun _ h₁ => (push_inv h₁ _).bind fun _ h₂ => h₂

theorem cxp_inv (d : Disp) : Yields State.Inv (cxp len d s) :=
  (read_harmless _ _ _ _ _).bind fun _ _ => (read_harmless _ _ _ _ _).bind fun _ _ =>
    callExternal_inv hs _ _

theorem cxpd_inv : Yields State.Inv (cxpd len a s) :=
  (genAddr_harmless _ _ _).bind fun _ _ => (read_harmless _ _ _ _ _).bind fun _ _ =>
    callExternal_inv hs _ _

theorem rxp_inv (d : Disp) : Yields State.Inv (rxp d s) :=
  (read_harmless _ _ _ _ _).bind fun _ _ => (read_harmless _ _ _ _ _).bind fun _ _ =>
    (read_harmless _ _ _ _ _).bind fun _ _ => (inv_setSp _ _).2 hs

theorem flagTrap_inv : Yields State.Inv (flagTrap s) := by
  unfold flagTrap; split; exacts [trivial, (inv_advance _ _).2 hs]

theorem returnFromException_inv (extra : Word) : Yields State.Inv (returnFromException s extra) := by
  refine (read_harmless _ _ _ _ _).bind fun t _ => (read_harmless _ _ _ _ _).bind fun m _ =>
    (read_harmless _ _ _ _ _).bind fun p _ => ?_
  have hp : ∀ v, ((s.setSp v).setPsr p).Inv := fun v => inv_setPsr ((inv_setSp _ _).2 hs) p
  split
  · simpa [Yields] using hp _
  · exact (read_harmless _ _ _ _ _).bind fun _ _ => (inv_setSp _ _).2 (hp _)

theorem rett_inv (d : Disp) : Yields State.Inv (rett d s) :=
  (privileged_harmless _).bind fun _ _ => returnFromException_inv hs _

end

/-! ## Memory management -/

section
variable {s : State} (hs : s.Inv) (w len : Nat) (a b : Gen)
include hs

theorem loadMmu_inv (r : MmuReg) (v : Word) : (loadMmu s r v).Inv := by cases r <;> exact hs

theorem storeMmu_inv (r : MmuReg) : (storeMmu s r).2.Inv := by cases r <;> exact hs

theorem lmrI_inv (r : MmuReg) : Yields State.Inv (lmrI len r a s) :=
  (needMmu_harmless _).bind fun _ _ => source_inv hs fun _ _ ht => loadMmu_inv ht r _

theorem smrI_inv (r : MmuReg) : Yields State.Inv (smrI len r a s) :=
  (needMmu_harmless _).bind fun _ _ => store_inv (storeMmu_inv hs r)

theorem validateI_inv (k : Access) : Yields State.Inv (validateI k len a s) := by
  refine (needMmu_harmless _).bind fun _ _ => (genAddr_harmless _ _ _).bind fun ea _ => ?_
  cases s.validate k ea with
  | abort => trivial
  | _ => simpa [Yields] using hs

theorem moveSpace_inv (u : Bool) : Yields State.Inv (moveSpace w len u a b s) :=
  (privileged_harmless _).bind fun _ _ => (genAddr_harmless _ _ _).bind fun _ _ =>
    (genAddr_harmless _ _ _).bind fun _ _ => (read_harmless _ _ _ _ _).bind fun _ _ =>
      (write_inv hs _ _ _ _).bind fun _ h₁ => (inv_advance _ _).2 h₁

end

/-! ## Processor service -/

theorem procCheck_harmless {s : State} (r : ProcReg) : Harmless (procCheck r s) := by
  unfold procCheck; split; exacts [privileged_harmless s, trivial]

section
variable {s : State} (hs : s.Inv) (w len : Nat) (a b : Gen)
include hs

theorem addrI_inv : Yields State.Inv (addrI len a b s) := fromAddr_inv fun _ => hs

theorem pushList_inv (l : BitVec 8) (k : Nat) : Yields State.Inv (pushList l k s) := by
  induction k generalizing s with
  | zero => exact hs
  | succ k ih =>
    unfold pushList
    split
    · exact (push_inv hs _).bind fun _ h₁ => ih h₁
    · exact ih hs

theorem popList_inv (l : BitVec 8) (k : Nat) : Yields State.Inv (popList l k s) := by
  induction k generalizing s with
  | zero => exact hs
  | succ k ih =>
    unfold popList
    split
    · exact (pop_inv hs 32).bind fun _ h₁ => ih ((inv_setReg _ _ _).2 h₁)
    · exact ih hs

theorem save_inv (l : BitVec 8) : Yields State.Inv (save len l s) :=
  (pushList_inv hs l 8).bind fun _ h₁ => (inv_advance _ _).2 h₁

theorem restore_inv (l : BitVec 8) : Yields State.Inv (restore len l s) :=
  (popList_inv hs l 8).bind fun _ h₁ => (inv_advance _ _).2 h₁

theorem enter_inv (l : BitVec 8) (d : Disp) : Yields State.Inv (enter len l d s) :=
  (push_inv hs _).bind fun t h₁ =>
    have h₂ : { t with fp := t.sp }.Inv := h₁
    (pushList_inv ((inv_setSp { t with fp := t.sp } _).2 h₂) l 8).bind fun _ h₃ => (inv_advance _ _).2 h₃

theorem exit_inv (l : BitVec 8) : Yields State.Inv (exit len l s) :=
  (popList_inv hs l 8).bind fun _ h₁ => (pop_inv ((inv_setSp _ _).2 h₁) 32).bind fun _ h₂ =>
    (inv_advance _ _).2 h₂

theorem adjspI_inv : Yields State.Inv (adjspI w len a s) :=
  source_inv hs fun _ _ ht => (inv_setSp _ _).2 ht

theorem bicpsrB_inv : Yields State.Inv (bicpsrB len a s) := source_inv hs fun _ _ ht => inv_setUpsr ht _

theorem bicpsrW_inv : Yields State.Inv (bicpsrW len a s) :=
  (privileged_harmless _).bind fun _ _ => source_inv hs fun _ _ ht => inv_setPsr ht _

theorem bispsrB_inv : Yields State.Inv (bispsrB len a s) := source_inv hs fun _ _ ht => inv_setUpsr ht _

theorem bispsrW_inv : Yields State.Inv (bispsrW len a s) :=
  (privileged_harmless _).bind fun _ _ => source_inv hs fun _ _ ht => inv_setPsr ht _

theorem loadProc_inv (r : ProcReg) (v : BitVec w) : (loadProc s r v).Inv := by
  cases r with
  | upsr => exact inv_setUpsr hs _
  | psr => simp only [loadProc]; split; exacts [inv_setUpsr hs _, inv_setPsr hs _]
  | cfg => exact inv_setCfg hs _
  | sp => exact (inv_setSp _ _).2 hs
  | _ => exact hs

theorem lprI_inv (r : ProcReg) : Yields State.Inv (lprI w len r a s) :=
  (procCheck_harmless r).bind fun _ _ => source_inv hs fun _ _ ht => loadProc_inv ht w r _

theorem sprI_inv (r : ProcReg) : Yields State.Inv (sprI w len r a s) :=
  (procCheck_harmless r).bind fun _ _ => store_inv hs

theorem setcfg_inv (k : BitVec 4) : Yields State.Inv (setcfg len k s) :=
  (privileged_harmless _).bind fun _ _ => (inv_advance _ _).2 (inv_setCfg hs _)

theorem nop_inv : Yields State.Inv (nop len s) := (inv_advance _ _).2 hs

theorem wait_inv : Yields State.Inv (wait len s) := (inv_advance s len).2 hs

theorem dia_inv : Yields State.Inv (dia s) := (inv_jump _ _).2 hs

theorem cinv_inv : Yields State.Inv (cinv len a s) :=
  (privileged_harmless _).bind fun _ _ => source_inv hs fun _ _ ht => ht

end

/-! ## Strings, blocks and arrays -/

/-- Steps 4 to 7 of R354: what a string instruction does with an element it has read. -/
def elementTail (kind : StringKind) (w : Nat) (u : Until) (back : Bool) (x : BitVec w) (s : State) :
    Except Stop State :=
  if matchEnds u x ((s.reg 4).setWidth w) then .ok (terminate s true)
  else
    match kind with
    | .movs => do
      let s ← s.write (s.reg 2) x
      .ok (nextElement w kind back s)
    | .cmps => do
      let y ← s.read w (s.reg 2)
      let s := s.compareFlags x y
      if x == y then .ok (nextElement w kind back s) else .ok (terminate s false)
    | .skps => .ok (nextElement w kind back s)

theorem stringElement_eq (s : State) (w : Nat) (kind : StringKind) (u : Until) (back t : Bool) :
    stringElement kind w u back t s =
      let r := limitReached (if kind = .cmps then s.setZNL true false false else s)
      if r.1 then .ok (terminate r.2 false)
      else (do
        let x ← r.2.read w (r.2.reg 1)
        if t then do
          let y ← r.2.read w (r.2.reg 3 + x.setWidth 32)
          elementTail kind w u back y r.2
        else elementTail kind w u back x r.2) := rfl

section
variable {s : State} (hs : s.Inv) (w len : Nat) (a b : Gen)
include hs

theorem terminate_inv (f : Bool) : (terminate s f).Inv := by simpa [terminate] using hs

theorem limitReached_inv : (limitReached s).2.Inv := by
  unfold limitReached
  split
  · exact hs
  · split; exacts [(inv_draw 1 s).2 hs, hs]

theorem nextElement_inv (kind : StringKind) (back : Bool) : (nextElement w kind back s).Inv := by
  cases kind <;> exact hs

theorem elementTail_inv (kind : StringKind) (u : Until) (back : Bool) (x : BitVec w) :
    Yields State.Inv (elementTail kind w u back x s) := by
  unfold elementTail
  split
  · exact terminate_inv hs _
  · cases kind with
    | movs => exact (write_inv hs _ _ _ _).bind fun _ h₁ => nextElement_inv h₁ _ _ _
    | cmps =>
      refine (read_harmless _ _ _ _ _).bind fun y _ => ?_
      have h₁ := (inv_compareFlags _ x y).2 hs
      dsimp only
      split; exacts [nextElement_inv h₁ _ _ _, terminate_inv h₁ _]
    | skps => exact nextElement_inv hs _ _ _

theorem stringElement_inv (kind : StringKind) (u : Until) (back t : Bool) :
    Yields State.Inv (stringElement kind w u back t s) := by
  have h₀ : (if kind = .cmps then s.setZNL true false false else s).Inv := by
    split <;> simpa using hs
  have h₁ := limitReached_inv h₀
  rw [stringElement_eq]
  dsimp only
  generalize limitReached (if kind = .cmps then s.setZNL true false false else s) = r at h₁
  split
  · exact terminate_inv h₁ _
  · refine (read_harmless _ _ _ _ _).bind fun x _ => ?_
    split
    · exact (read_harmless _ _ _ _ _).bind fun y _ => elementTail_inv h₁ _ _ _ _ _
    · exact elementTail_inv h₁ _ _ _ _ _

theorem blockCount_inv (n : Nat) (d : Disp) : (blockCount n d s).2.Inv := by
  unfold blockCount
  dsimp only
  split; exacts [hs, (inv_draw 32 s).2 hs]

theorem moveElements_inv (free : Bool) (k : Nat) (p q : Word) :
    Yields State.Inv (moveElements w free k p q s) := by
  induction k generalizing s p q with
  | zero => exact hs
  | succ k ih =>
    refine (read_harmless _ _ _ _ _).bind fun x _ => ?_
    cases free
    · exact (write_inv hs _ _ _ _).bind fun _ h₁ => ih h₁ _ _
    · exact (write_inv ((inv_draw w s).2 hs) _ _ _ _).bind fun _ h₁ => ih h₁ _ _

theorem movmI_inv (d : Disp) : Yields State.Inv (movmI w len a b d s) :=
  (genAddr_harmless _ _ _).bind fun _ _ => (genAddr_harmless _ _ _).bind fun _ _ =>
    (moveElements_inv (blockCount_inv hs (w / 8) d) w _ _ _ _).bind fun _ h₁ => (inv_advance _ _).2 h₁

theorem compareElements_inv (k : Nat) (p q : Word) :
    Yields State.Inv (compareElements w k p q s) := by
  induction k generalizing p q with
  | zero => exact (inv_setZNL _ _ _ _).2 hs
  | succ k ih =>
    refine (read_harmless _ _ _ _ _).bind fun x _ => (read_harmless _ _ _ _ _).bind fun y _ => ?_
    split; exacts [ih _ _, (inv_compareFlags _ _ _).2 hs]

theorem cmpmI_inv (d : Disp) : Yields State.Inv (cmpmI w len a b d s) :=
  (genAddr_harmless _ _ _).bind fun _ _ => (genAddr_harmless _ _ _).bind fun _ _ =>
    (compareElements_inv (blockCount_inv hs (w / 8) d) w _ _ _).bind fun _ h₁ => (inv_advance _ _).2 h₁

theorem checkI_inv (r : Reg) : Yields State.Inv (checkI w len r a b s) := by
  refine (genAddr_harmless _ _ _).bind fun ea _ => (readGen_inv hs _ _ _ _).bind fun x h₁ =>
    (read_harmless _ _ _ _ _).bind fun up _ => (read_harmless _ _ _ _ _).bind fun lo _ => ?_
  dsimp only
  split
  · exact ovfTrap_inv (by simpa using h₁) _
  · simpa [Yields] using h₁

theorem indexI_inv (r : Reg) : Yields State.Inv (indexI w len r a b s) :=
  sources_inv hs fun _ _ _ ht => (inv_setReg _ _ _).2 ht

end

/-! ## Floating-point instructions -/

/-- A delivered value comes with an FSR whose reserved bits are zero. -/
abbrev DeliversClean {α : Type} (x : Except Stop (α × Word)) : Prop := Yields (fun r => fsrClean r.2) x

theorem fpDeliver_clean (w : Nat) {f : Word} (hf : fsrClean f) (x : Exact) (neg lossy : Bool) :
    DeliversClean (fpDeliver w f x neg lossy) := by
  have hin : ∀ v : BitVec w, DeliversClean (if fsrIEN f then
      .error (.fpu (fsrSetIF (fsrSetTT f ttInexact))) else .ok (v, fsrSetIF (fsrSetTT f ttInexact))) :=
    fun v => by split <;> simpa [Yields, Stop.Sound] using hf
  unfold fpDeliver
  dsimp only
  split
  · split
    · exact hin _
    · simpa [Yields] using hf
  · split
    · simpa [Yields, Stop.Sound] using hf
    · split
      · split <;> simpa [Yields, Stop.Sound] using hf
      · split
        · simpa [Yields] using hf
        · exact hin _

theorem fpToInt_clean (w : Nat) {f : Word} (hf : fsrClean f) (x : Exact) (m : ToInt) :
    DeliversClean (fpToInt w f x m) := by
  unfold fpToInt
  dsimp only
  split
  · simpa [Yields, Stop.Sound] using hf
  · split
    · simpa [Yields] using hf
    · split <;> simpa [Yields, Stop.Sound] using hf

theorem mulAdd_clean (w : Nat) {f : Word} (hf : fsrClean f) (x y z : Exact) :
    DeliversClean (mulAdd w f x y z) := by
  unfold mulAdd
  dsimp only
  split
  · exact fpDeliver_clean w hf _ _ _
  · split <;> exact fpDeliver_clean w hf _ _ _

section
variable {s : State} (hs : s.Inv) (w len : Nat) (a b : Gen)
include hs

theorem checkReserved_harmless (bad : Bool) : Harmless (checkReserved s bad) := by
  unfold checkReserved
  split
  · exact (fsrClean_setTT _ _).2 (fsrClean_of_inv hs)
  · trivial

theorem fpExact_inv (v : BitVec w) : (fpExact v s).state.Inv :=
  inv_setFsr hs ((fsrClean_setTT _ _).2 (fsrClean_of_inv hs))

theorem fpBinary_inv {f : Word → BitVec w → BitVec w → Except Stop (BitVec w × Word)}
    (hf : ∀ c x y, fsrClean c → DeliversClean (f c x y)) :
    Yields State.Inv (fpBinary w len a b s f) :=
  (needFpu_harmless _).bind fun _ _ => binary_inv hs fun _ _ _ ht =>
    (checkReserved_harmless ht _).bind fun _ _ =>
      (hf _ _ _ (fsrClean_of_inv ht)).bind fun _ hr => inv_setFsr ht hr

theorem addFp_inv : Yields State.Inv (addFp w len a b s) :=
  fpBinary_inv hs w len a b fun _ _ _ hc => fpDeliver_clean w hc _ _ _

theorem subFp_inv : Yields State.Inv (subFp w len a b s) :=
  fpBinary_inv hs w len a b fun _ _ _ hc => fpDeliver_clean w hc _ _ _

theorem mulFp_inv : Yields State.Inv (mulFp w len a b s) :=
  fpBinary_inv hs w len a b fun _ _ _ hc => fpDeliver_clean w hc _ _ _

theorem divFp_inv : Yields State.Inv (divFp w len a b s) :=
  fpBinary_inv hs w len a b fun c x y hc => by
    split
    · exact (fsrClean_setTT _ _).2 hc
    · split
      · exact (fsrClean_setTT _ _).2 hc
      · exact fpDeliver_clean w hc _ _ _

theorem scalbFp_inv : Yields State.Inv (scalbFp w len a b s) :=
  fpBinary_inv hs w len a b fun c x y hc => by
    split
    · exact (fsrClean_setTT _ _).2 hc
    · exact fpDeliver_clean w hc _ _ _

theorem fpAccumulate_inv {f : Word → BitVec w → BitVec w → BitVec w → Except Stop (BitVec w × Word)}
    (hf : ∀ c x y z, fsrClean c → DeliversClean (f c x y z)) :
    Yields State.Inv (fpAccumulate w len a b s f) :=
  (needFpu_harmless _).bind fun _ _ => sources_inv hs fun _ _ _ ht =>
    (checkReserved_harmless ht _).bind fun _ _ =>
      (hf _ _ _ _ (fsrClean_of_inv ht)).bind fun _ hr => inv_setFreg (inv_setFsr ht hr) _ _

theorem dotFp_inv : Yields State.Inv (dotFp w len a b s) :=
  fpAccumulate_inv hs w len a b fun _ _ _ _ hc => mulAdd_clean w hc _ _ _

theorem polyFp_inv : Yields State.Inv (polyFp w len a b s) :=
  fpAccumulate_inv hs w len a b fun _ _ _ _ hc => mulAdd_clean w hc _ _ _

theorem fpUnary_inv {fb : File} {wa wb : Nat} {f : BitVec wa → State → Except Stop (Result wb)}
    (hf : ∀ x t, t.Inv → ResultInv (f x t)) : Yields State.Inv (fpUnary fb wa wb len a b s f) :=
  (needFpu_harmless _).bind fun _ _ => unary_inv hs fun _ _ ht =>
    (checkReserved_harmless ht _).bind fun _ _ => hf _ _ ht

theorem negFp_inv : Yields State.Inv (negFp w len a b s) :=
  fpUnary_inv hs len a b fun _ _ ht => fpExact_inv ht w _

theorem absFp_inv : Yields State.Inv (absFp w len a b s) :=
  fpUnary_inv hs len a b fun _ _ ht => fpExact_inv ht w _

theorem cmpFp_inv : Yields State.Inv (cmpFp w len a b s) :=
  (needFpu_harmless _).bind fun _ _ => sources_inv hs fun _ _ _ ht =>
    (checkReserved_harmless ht _).bind fun _ _ =>
      (inv_setZNL _ _ _ _).2 (inv_setFsr ht ((fsrClean_setTT _ _).2 (fsrClean_of_inv ht)))

theorem movFp_inv : Yields State.Inv (movFp w len a b s) :=
  (needFpu_harmless _).bind fun _ _ => unary_inv hs fun _ _ ht => fpExact_inv ht w _

theorem logbFp_inv : Yields State.Inv (logbFp w len a b s) :=
  fpUnary_inv hs len a b fun x t ht => by
    split
    · exact fpExact_inv ((inv_draw w t).2 ht) w _
    · exact fpExact_inv ht w _

theorem convertFp_inv (wa wb : Nat) : Yields State.Inv (convertFp wa wb len a b s) :=
  fpUnary_inv hs len a b fun _ _ ht =>
    (fpDeliver_clean wb (fsrClean_of_inv ht) _ _ _).bind fun _ hr => inv_setFsr ht hr

theorem movIF_inv (wi wf : Nat) : Yields State.Inv (movIF wi wf len a b s) :=
  (needFpu_harmless _).bind fun _ _ => unary_inv hs fun _ _ ht =>
    (fpDeliver_clean wf (fsrClean_of_inv ht) _ _ _).bind fun _ hr => inv_setFsr ht hr

theorem fpInteger_inv (m : ToInt) (wf wi : Nat) : Yields State.Inv (fpInteger m wf wi len a b s) :=
  fpUnary_inv hs len a b fun _ _ ht =>
    (fpToInt_clean wi (fsrClean_of_inv ht) _ _).bind fun _ hr => inv_setFsr ht hr

theorem lfsrI_inv : Yields State.Inv (lfsrI len a s) :=
  (needFpu_harmless _).bind fun _ _ => source_inv hs fun _ _ ht => inv_setFsr ht (fsrClean_and_mask _)

theorem sfsrI_inv : Yields State.Inv (sfsrI len a s) :=
  (needFpu_harmless _).bind fun _ _ => store_inv hs

theorem illegalFp_inv : Yields State.Inv (illegalFp s) :=
  (needFpu_harmless _).bind fun _ _ => (fsrClean_setTT _ _).2 (fsrClean_of_inv hs)

end

end Sys2Proof.Machine
end

section
/-! Every step keeps the machine invariant (O5), and what holds at reset (O3, O4). -/

namespace Sys2Proof.Machine

/-- Where an outcome is a next state, it meets the invariant. -/
def KeepsInv (o : Host.Outcome State Fault Refusal) : Prop := ∀ t, o = .next t → t.Inv

@[simp] theorem keepsInv_next (s : State) : KeepsInv (.next s) ↔ s.Inv := by
  simp [KeepsInv]

theorem takeException_keeps {s : State} (hs : s.Inv) (v : Nat) (ret : Word) (clearI : Bool)
    (image : BitVec 16) : KeepsInv (takeException s v ret clearI image) := by
  rcases takeException_spec s v ret clearI image with ⟨t, ht, h⟩ | h <;> rw [h, keepsInv_next]
  · obtain ⟨m, pc, mod, sb, rfl, -, -, hwf⟩ := enterException_spec ht
    obtain ⟨hm, hrest⟩ := inv_enteredPsr hs clearI
    exact ⟨hwf hm, hrest⟩
  · exact (inv_failEntry s).2 hs

/-- A body that keeps the invariant, concluded, keeps it: also where it stops and the exception is
taken from the state in which it began (R511). -/
theorem conclude_keeps {s : State} (hs : s.Inv) {x : Except Stop State} (hx : Yields State.Inv x) :
    KeepsInv (conclude s x) := by
  cases x with
  | ok t => exact (keepsInv_next t).2 hx
  | error e =>
    cases e with
    | trap t => exact takeException_keeps hs _ _ _ _
    | abort va => exact takeException_keeps (s := { s with tear := va }) hs _ _ _ _
    | fpu f => exact takeException_keeps (inv_setFsr hs hx) _ _ _ _
    | overflow t => exact takeException_keeps hx _ _ _ _
    | custom => exact fun _ h => nomatch h
    | noFpu => exact fun _ h => nomatch h
    | undefined => exact fun _ h => nomatch h

theorem reti_keeps {s : State} (hs : s.Inv) : KeepsInv (reti s) := by
  have hp := privileged_harmless s
  unfold reti
  split
  · next e he => exact conclude_keeps hs (x := .error e) (by rw [he] at hp; exact hp)
  · have hi : (endOfInterrupt s).Inv := hs
    exact conclude_keeps hi (returnFromException_inv hi 0)

/-- Executing any instruction keeps the invariant. -/
theorem exec_keeps {s : State} (hs : s.Inv) (i : Instr) : KeepsInv (exec i s) := by
  have ok {x : Except Stop State} (hx : Yields State.Inv x) : KeepsInv (conclude s x) :=
    conclude_keeps hs hx
  cases i with
  | beq | bne | bcs | bcc | bhi | bls | bgt | ble | bfs | bfc | blo | bhs | blt | bge =>
    exact ok (branchIf_inv hs ..)
  | br => exact ok (branch_inv hs ..)
  | bsr => exact ok (bsr_inv hs ..)
  | ret => exact ok (ret_inv hs ..)
  | cxp => exact ok (cxp_inv hs ..)
  | rxp => exact ok (rxp_inv hs ..)
  | rett => exact ok (rett_inv hs ..)
  | reti => exact reti_keeps hs
  | save => exact ok (save_inv hs ..)
  | restore => exact ok (restore_inv hs ..)
  | enter => exact ok (enter_inv hs ..)
  | exit => exact ok (exit_inv hs ..)
  | nop => exact ok (nop_inv hs ..)
  | wait => exact ok (wait_inv hs ..)
  | dia => exact ok (dia_inv hs)
  | flag => exact ok (flagTrap_inv hs)
  | svc | bpt => exact ok (x := .error (.trap _)) trivial
  | addqb | addqw | addqd => exact ok (addQ_inv hs ..)
  | cmpqb | cmpqw | cmpqd => exact ok (cmpQ_inv hs ..)
  | sprb | sprw | sprd => exact ok (sprI_inv hs ..)
  | seqb | sneb | scsb | sccb | shib | slsb | sgtb | sleb | sfsb | sfcb | slob | shsb | sltb
  | sgeb | seqw | snew | scsw | sccw | shiw | slsw | sgtw | slew | sfsw | sfcw | slow | shsw
  | sltw | sgew | seqd | sned | scsd | sccd | shid | slsd | sgtd | sled | sfsd | sfcd | slod
  | shsd | sltd | sged => exact ok (scond_inv hs ..)
  | acbb | acbw | acbd => exact ok (acbI_inv hs ..)
  | movqb | movqw | movqd => exact ok (movQ_inv hs ..)
  | lprb | lprw | lprd => exact ok (lprI_inv hs ..)
  | cxpd => exact ok (cxpd_inv hs ..)
  | bicpsrb => exact ok (bicpsrB_inv hs ..)
  | bicpsrw => exact ok (bicpsrW_inv hs ..)
  | jump => exact ok (jumpTo_inv hs ..)
  | bispsrb => exact ok (bispsrB_inv hs ..)
  | bispsrw => exact ok (bispsrW_inv hs ..)
  | adjspb | adjspw | adjspd => exact ok (adjspI_inv hs ..)
  | jsr => exact ok (jsr_inv hs ..)
  | caseb | casew | cased => exact ok (caseI_inv hs ..)
  | addb | addw | addd => exact ok (addI_inv hs ..)
  | cmpb | cmpw | cmpd => exact ok (cmpI_inv hs ..)
  | bicb | bicw | bicd | orb | orw | ord | andb | andw | andd | xorb | xorw | xord =>
    exact ok (logical_inv hs ..)
  | addcb | addcw | addcd => exact ok (addCarry_inv hs ..)
  | movb | movw | movd => exact ok (movI_inv hs ..)
  | subb | subw | subd => exact ok (subI_inv hs ..)
  | addr => exact ok (addrI_inv hs ..)
  | subcb | subcw | subcd => exact ok (subCarry_inv hs ..)
  | tbitb | tbitw | tbitd | cbitb | cbitw | cbitd | cbitib | cbitiw | cbitid | sbitb | sbitw
  | sbitd | sbitib | sbitiw | sbitid | ibitb | ibitw | ibitd => exact ok (bitOp_inv hs ..)
  | movsb | movsw | movsd | movst | cmpsb | cmpsw | cmpsd | cmpst | skpsb | skpsw | skpsd
  | skpst => exact ok (stringElement_inv hs ..)
  | setcfg => exact ok (setcfg_inv hs ..)
  | rotb | rotw | rotd | ashb | ashw | ashd | lshb | lshw | lshd => exact ok (shift_inv hs ..)
  | negb | negw | negd => exact ok (negI_inv hs ..)
  | notb | notw | notd => exact ok (notI_inv hs ..)
  | subpb | subpw | subpd | addpb | addpw | addpd => exact ok (packed_inv hs ..)
  | absb | absw | absd => exact ok (absI_inv hs ..)
  | comb | comw | comd => exact ok (comI_inv hs ..)
  | movmb | movmw | movmd => exact ok (movmI_inv hs ..)
  | cmpmb | cmpmw | cmpmd => exact ok (cmpmI_inv hs ..)
  | inssb | inssw | inssd | insb | insw | insd => exact ok (insField_inv hs ..)
  | extsb | extsw | extsd | extb | extw | extd => exact ok (extField_inv hs ..)
  | movxbw | movxbd | movxwd => exact ok (movX_inv hs ..)
  | movzbw | movzbd | movzwd => exact ok (movZ_inv hs ..)
  | mulb | mulw | muld => exact ok (mulI_inv hs ..)
  | meib | meiw | meid => exact ok (meiI_inv hs ..)
  | deib | deiw | deid => exact ok (deiI_inv hs ..)
  | quob | quow | quod | remb | remw | remd | modb | modw | modd | divb | divw | divd =>
    exact ok (signedDivision_inv hs ..)
  | cvtp => exact ok (cvtpI_inv hs ..)
  | checkb | checkw | checkd => exact ok (checkI_inv hs ..)
  | indexb | indexw | indexd => exact ok (indexI_inv hs ..)
  | ffsb | ffsw | ffsd => exact ok (ffsI_inv hs ..)
  | movsub | movsuw | movsud | movusb | movusw | movusd => exact ok (moveSpace_inv hs ..)
  | movbf | movwf | movdf | movbl | movwl | movdl => exact ok (movIF_inv hs ..)
  | lfsr => exact ok (lfsrI_inv hs ..)
  | movlf | movfl => exact ok (convertFp_inv hs ..)
  | roundfb | roundfw | roundfd | roundlb | roundlw | roundld | truncfb | truncfw | truncfd
  | trunclb | trunclw | truncld | floorfb | floorfw | floorfd | floorlb | floorlw | floorld =>
    exact ok (fpInteger_inv hs ..)
  | sfsr => exact ok (sfsrI_inv hs ..)
  | addf | addl => exact ok (addFp_inv hs ..)
  | movf | movl => exact ok (movFp_inv hs ..)
  | cmpf | cmpl => exact ok (cmpFp_inv hs ..)
  | subf | subl => exact ok (subFp_inv hs ..)
  | negf | negl => exact ok (negFp_inv hs ..)
  | divf | divl => exact ok (divFp_inv hs ..)
  | mulf | mull => exact ok (mulFp_inv hs ..)
  | absf | absl => exact ok (absFp_inv hs ..)
  | polyf | polyl => exact ok (polyFp_inv hs ..)
  | dotf | dotl => exact ok (dotFp_inv hs ..)
  | scalbf | scalbl => exact ok (scalbFp_inv hs ..)
  | logbf | logbl => exact ok (logbFp_inv hs ..)
  | illegalFp0011 | illegalFp1001 => exact ok (illegalFp_inv hs)
  | rdval | wrval => exact ok (validateI_inv hs ..)
  | lmr => exact ok (lmrI_inv hs ..)
  | smr => exact ok (smrI_inv hs ..)
  | cinv => exact ok (cinv_inv hs ..)
  | custom16 => exact ok customPrivileged_inv
  | custom36 | customB6 => exact ok customOp_inv

/-! ## Steps -/

theorem opcodeStop_sound {s : State} {bs : List Byte} {e : Stop} (h : opcodeStop s bs = some e) :
    e.Sound := by
  unfold opcodeStop at h
  dsimp only at h
  split at h
  · cases h; exact undefinedStop_sound
  · split at h
    · cases h; trivial
    · split at h
      · cases h; trivial
      · split at h
        · cases h; trivial
        · cases h

theorem fetchDecode_harmless (s : State) : Harmless (fetchDecode s) := by
  unfold fetchDecode
  dsimp only
  split
  · trivial
  · split
    · next h => exact opcodeStop_sound h
    · trivial
    · exact undefinedStop_sound
  · exact undefinedStop_sound

theorem takeNmi_keeps {s : State} (hs : s.Inv) (image : BitVec 16) : KeepsInv (takeNmi s image) := by
  unfold takeNmi
  split
  · simpa using hs
  · exact takeException_keeps (s := { s with nmiPending := false }) hs _ _ _ _

theorem takeInt_keeps {s : State} (hs : s.Inv) (image : BitVec 16) : KeepsInv (takeInt s image) := by
  unfold takeInt
  split
  · simpa using hs
  · exact takeException_keeps hs _ _ _ _

theorem acceptInterrupt_keeps {s : State} (hs : s.Inv) (image : BitVec 16)
    {o : Host.Outcome State Fault Refusal} (ho : KeepsInv o) :
    KeepsInv (acceptInterrupt s image o) := by
  unfold acceptInterrupt
  split
  · exact takeNmi_keeps hs image
  · split; exacts [takeInt_keeps hs image, ho]

theorem atBoundary_keeps {s : State} (hs : s.Inv) : KeepsInv (atBoundary s) := by
  unfold atBoundary
  split
  · exact (keepsInv_next s).2 hs
  · exact acceptInterrupt_keeps hs _ ((keepsInv_next s).2 hs)
  · refine acceptInterrupt_keeps hs _ ?_
    split; exacts [takeException_keeps hs _ _ _ _, (keepsInv_next s).2 hs]

theorem settle_keeps {o : Host.Outcome State Fault Refusal} (ho : KeepsInv o) :
    KeepsInv (settle o) := by
  cases o with
  | next s => exact atBoundary_keeps ((keepsInv_next s).1 ho)
  | fault r => exact fun _ h => nomatch h
  | refused r => exact fun _ h => nomatch h

theorem inv_reset : State.reset.Inv := ⟨reset_inv_mem, by decide, by decide, by decide⟩

/-- Reset keeps memory, and gives the other registers of the invariant their reset values. -/
theorem inv_resetEvent {s : State} (hs : s.Inv) : (resetEvent s).Inv := by
  obtain ⟨hm, -⟩ := hs
  obtain ⟨-, hregs⟩ := inv_reset
  exact ⟨hm, hregs⟩

theorem step_keeps {s : State} (hs : s.Inv) : KeepsInv (step s) := by
  have hl : (latchTrace s).Inv := (inv_latchTrace s).2 hs
  have hf := fetchDecode_harmless (latchTrace s)
  unfold step
  split
  · exact (keepsInv_next _).2 (inv_resetEvent hs)
  · split
    · exact acceptInterrupt_keeps hs _ ((keepsInv_next s).2 hs)
    · split
      · exact fun _ h => nomatch h
      · refine settle_keeps ?_
        split
        · exact exec_keeps hl _
        · next e he => exact conclude_keeps hl (x := .error e) (by rw [he] at hf; exact hf)

end Sys2Proof.Machine

namespace Sys2Proof.Proofs

open Sys2Proof.Machine

/-- Settles O3: the fields that the spec names, read off `State.reset`. -/
theorem resetValues : Obligations.ResetValues := by
  unfold Obligations.ResetValues
  exact ⟨rfl, rfl, by decide, by decide⟩

/-- Settles O4. -/
theorem invariantAtReset : Obligations.InvariantAtReset := inv_reset

/-- Settles O5: an instruction's meaning keeps the invariant (`exec_keeps`), and so do the exception
entries and the boundary around it. -/
theorem stepKeepsInvariant : Obligations.StepKeepsInvariant := by
  unfold Obligations.StepKeepsInvariant
  exact fun _ t hs h => step_keeps hs t h

end Sys2Proof.Proofs
end

section
/-! Loading CFG (R56): SETCFG and LPRD CFG with an immediate source (O43). -/

namespace Sys2Proof.Machine

/-- In Supervisor mode a privileged instruction goes on. -/
theorem privileged_of_supervisor {s : State} (hu : s.flagU = false) : privileged s = .ok () := by
  rw [privileged, hu]
  rfl

/-- Of a four-bit value CFG takes every bit (R56): all four are implemented. -/
theorem setCfg_low (s : State) (k : BitVec 4) :
    s.setCfg (k.setWidth 32) = { s with cfg := 0x000000F0 ||| k.setWidth 32 } := by
  have hk : (k.setWidth 32 &&& 0x00003F0F) ||| 0x000000F0 = (0x000000F0 : Word) ||| k.setWidth 32 := by
    revert k
    decide
  rw [State.setCfg, hk]

theorem setcfg_supervisor {s : State} (hu : s.flagU = false) (len : Nat) (k : BitVec 4) :
    setcfg len k s = .ok (State.advance { s with cfg := 0x000000F0 ||| k.setWidth 32 } len) := by
  rw [← setCfg_low, setcfg, privileged_of_supervisor hu]
  rfl

theorem lprI_cfg_imm {s : State} (hu : s.flagU = false) (len : Nat) (v : Word) :
    lprI 32 len .cfg (.plain (.imm (.d v))) s =
      .ok (State.advance { s with cfg := (v &&& 0x00003F0F) ||| 0x000000F0 } len) := by
  have hc : procCheck .cfg s = .ok () := privileged_of_supervisor hu
  rw [lprI, hc]
  change Except.ok ((s.setCfg ((v.setWidth 32).setWidth 32)).advance len) = _
  rw [BitVec.setWidth_eq, BitVec.setWidth_eq]
  rfl

end Sys2Proof.Machine

namespace Sys2Proof.Proofs

open Sys2Proof.Machine

/-- Settles O43. -/
theorem configurationIsLoaded : Obligations.ConfigurationIsLoaded := by
  unfold Obligations.ConfigurationIsLoaded
  intro s k v hu
  refine ⟨?_, ?_⟩
  · change conclude s (setcfg 3 k s) = _
    rw [setcfg_supervisor hu]
    rfl
  · change conclude s (lprI 32 6 .cfg (.plain (.imm (.d v))) s) = _
    rw [lprI_cfg_imm hu]
    rfl

end Sys2Proof.Proofs
end

section
/-! Rounding of exact values (R61, R256, R278 to R280): first of the integer magnitude, then as a
relation of rational numbers. -/

namespace Sys2Proof.Machine

/-! ## Where a number lies between the multiples of a unit -/

/-- k is the factor of the unit 2h that a number rounds to in a rounding mode: less than one unit from
it, and the nearest (of two, the even one), toward zero, above or below. Each clause compares the number
with a multiple of h. -/
structure RoundsBetween (rm : BitVec 2) (h q : ℚ) (k : ℤ) : Prop where
  above : ((2 * k - 2 : ℤ) : ℚ) * h < q
  below : q < ((2 * k + 2 : ℤ) : ℚ) * h
  nearest : rm = 0 → ((2 * k - 1 : ℤ) : ℚ) * h ≤ q ∧ q ≤ ((2 * k + 1 : ℤ) : ℚ) * h
  even : rm = 0 → ((2 * k - 1 : ℤ) : ℚ) * h = q ∨ q = ((2 * k + 1 : ℤ) : ℚ) * h → k % 2 = 0
  towardZero : rm = 1 → (0 < k → ((2 * k : ℤ) : ℚ) * h ≤ q) ∧ (k < 0 → q ≤ ((2 * k : ℤ) : ℚ) * h)
  up : rm = 2 → q ≤ ((2 * k : ℤ) : ℚ) * h
  down : rm = 3 → ((2 * k : ℤ) : ℚ) * h ≤ q

/-- A multiple of the unit rounds to itself. -/
theorem RoundsBetween.exact (rm : BitVec 2) {h : ℚ} (hh : 0 < h) (k : ℤ) :
    RoundsBetween rm h (k * (2 * h)) k := by
  constructor <;> intros <;> push_cast at *
  · linarith
  · linarith
  · constructor <;> linarith
  · next heq => rcases heq with heq | heq <;> linarith
  · constructor <;> intro <;> linarith
  · linarith
  · linarith

/-- Two numbers lie alike between the multiples of two units. -/
def SameSide (h q h' q' : ℚ) : Prop :=
  ∀ j : ℤ, (j * h < q ↔ j * h' < q') ∧ (q < j * h ↔ q' < j * h')

theorem SameSide.le {h q h' q' : ℚ} (hs : SameSide h q h' q') (j : ℤ) :
    (j * h ≤ q ↔ j * h' ≤ q') ∧ (q ≤ j * h ↔ q' ≤ j * h') := by
  obtain ⟨hlt, hgt⟩ := hs j
  exact ⟨not_lt.symm.trans ((not_congr hgt).trans not_lt), not_lt.symm.trans ((not_congr hlt).trans not_lt)⟩

theorem SameSide.eq {h q h' q' : ℚ} (hs : SameSide h q h' q') (j : ℤ) : j * h = q ↔ j * h' = q' := by
  obtain ⟨hle, hge⟩ := hs.le j
  rw [le_antisymm_iff, le_antisymm_iff, hle, hge]

/-- A positive factor changes no comparison. -/
theorem SameSide.scale (h q : ℚ) {g : ℚ} (hg : 0 < g) : SameSide h q (h * g) (q * g) := fun j => by
  rw [← mul_assoc, mul_lt_mul_iff_left₀ hg, mul_lt_mul_iff_left₀ hg]
  exact ⟨Iff.rfl, Iff.rfl⟩

theorem SameSide.neg {h q h' q' : ℚ} (hs : SameSide h q h' q') : SameSide h (-q) h' (-q') := fun j => by
  obtain ⟨hlt, hgt⟩ := hs (-j)
  push_cast at hlt hgt
  constructor
  · rw [lt_neg, ← neg_mul, hgt, neg_mul, lt_neg]
  · rw [neg_lt, ← neg_mul, hlt, neg_mul, neg_lt]

theorem SameSide.symm {h q h' q' : ℚ} (hs : SameSide h q h' q') : SameSide h' q' h q := fun j =>
  ⟨(hs j).1.symm, (hs j).2.symm⟩

theorem SameSide.trans {h q h' q' h'' q'' : ℚ} (hs : SameSide h q h' q') (hs' : SameSide h' q' h'' q'') :
    SameSide h q h'' q'' := fun j =>
  ⟨(hs j).1.trans (hs' j).1, (hs j).2.trans (hs' j).2⟩

/-- The same holds of a unit that is a multiple of the first. -/
theorem SameSide.multiple {h q h' q' : ℚ} (hs : SameSide h q h' q') (n : ℤ) :
    SameSide (n * h) q (n * h') q' := fun j => by
  have := hs (j * n)
  push_cast at this
  rwa [mul_assoc, mul_assoc] at this

/-- How a number rounds depends on nothing else. -/
theorem RoundsBetween.of_sameSide {rm : BitVec 2} {h q h' q' : ℚ} {k : ℤ}
    (hr : RoundsBetween rm h q k) (hs : SameSide h q h' q') : RoundsBetween rm h' q' k where
  above := (hs _).1.1 hr.above
  below := (hs _).2.1 hr.below
  nearest hm := ⟨(hs.le _).1.1 (hr.nearest hm).1, (hs.le _).2.1 (hr.nearest hm).2⟩
  even hm heq := hr.even hm (heq.imp (hs.eq _).2 fun h => ((hs.eq _).2 h.symm).symm)
  towardZero hm := ⟨fun hk => (hs.le _).1.1 ((hr.towardZero hm).1 hk),
    fun hk => (hs.le _).2.1 ((hr.towardZero hm).2 hk)⟩
  up hm := (hs.le _).2.1 (hr.up hm)
  down hm := (hs.le _).1.1 (hr.down hm)

/-! ## Rounding a magnitude -/

/-- When the discarded part r of a magnitude rounds it up, in terms of half of the unit d (R61). -/
structure RoundsUpAs (rm : BitVec 2) (neg up : Bool) (q r d : ℤ) : Prop where
  nonneg : 0 ≤ r
  lt : r < d
  pos : up = true → 0 < r
  half : rm = 0 → if up then d ≤ 2 * r ∧ (2 * r = d → q % 2 = 1) else 2 * r ≤ d ∧ (2 * r = d → q % 2 = 0)
  never : rm = 1 → up = false
  above : rm = 2 → if neg then up = false else r = 0 ∨ up = true
  below : rm = 3 → if neg then r = 0 ∨ up = true else up = false

theorem roundsUp_as (rm : BitVec 2) (neg : Bool) {q r d : Nat} (h : r < d) :
    RoundsUpAs rm neg (roundsUp rm neg (q % 2 == 1) (compare (2 * r) d) (r != 0)) q r d where
  nonneg := by positivity
  lt := by exact_mod_cast h
  pos hup := by
    suffices r ≠ 0 by omega
    rintro rfl
    have : compare 0 d = .lt := Nat.compare_eq_lt.2 h
    simp [roundsUp, this] at hup
  half := by
    rintro rfl
    rcases Nat.lt_trichotomy (2 * r) d with h | h | h
    · simp [roundsUp, Nat.compare_eq_lt.2 h]; omega
    · simp [roundsUp, h]; split <;> omega
    · simp [roundsUp, Nat.compare_eq_gt.2 h]; omega
  never := by rintro rfl; simp [roundsUp]
  above := by rintro rfl; cases neg <;> simp [roundsUp, em]
  below := by rintro rfl; cases neg <;> simp [roundsUp, em]

/-- How a number k d + e lies between the multiples of the unit d, in terms of the error e. -/
theorem RoundsBetween.of_error {rm : BitVec 2} {m d k e : ℤ} (hm : m = k * d + e)
    (above : -d < e) (below : e < d)
    (nearest : rm = 0 → -d ≤ 2 * e ∧ 2 * e ≤ d) (even : rm = 0 → -d = 2 * e ∨ 2 * e = d → k % 2 = 0)
    (towardZero : rm = 1 → (0 < k → 0 ≤ e) ∧ (k < 0 → e ≤ 0)) (up : rm = 2 → e ≤ 0)
    (down : rm = 3 → 0 ≤ e) : RoundsBetween rm d ((2 * m : ℤ) : ℚ) k := by
  subst hm
  constructor <;> norm_cast
  · linarith
  · linarith
  · intro h
    obtain ⟨h₁, h₂⟩ := nearest h
    constructor <;> linarith
  · exact fun h heq => even h (heq.imp (fun _ => by linarith) fun _ => by linarith)
  · intro h
    obtain ⟨h₁, h₂⟩ := towardZero h
    exact ⟨fun hk => by linarith [h₁ hk], fun hk => by linarith [h₂ hk]⟩
  · exact fun h => by linarith [up h]
  · exact fun h => by linarith [down h]

/-- The error of a magnitude q d + r that is rounded up or not, with its sign. -/
theorem RoundsUpAs.between {rm : BitVec 2} {neg up : Bool} {q r d : ℤ} (h : RoundsUpAs rm neg up q r d)
    (hq : 0 ≤ q) :
    RoundsBetween rm (d : ℚ) ((2 * ((if neg then -1 else 1) * (q * d + r)) : ℤ) : ℚ)
      ((if neg then -1 else 1) * if up then q + 1 else q) := by
  obtain ⟨h0, hd, hpos, hhalf, hnever, habove, hbelow⟩ := h
  refine .of_error (e := (if neg then -1 else 1) * if up then r - d else r) ?_ ?_ ?_ ?_ ?_ ?_ ?_ ?_
  · split <;> split <;> ring
  · cases up <;> cases neg <;> simp at hpos ⊢ <;> omega
  · cases up <;> cases neg <;> simp at hpos ⊢ <;> omega
  · intro hrm
    have hhalf := hhalf hrm
    cases up <;> cases neg <;> simp at hhalf ⊢ <;> omega
  · intro hrm
    have hhalf := hhalf hrm
    cases up <;> cases neg <;> simp at hhalf ⊢ <;> omega
  · intro hrm
    obtain rfl := hnever hrm
    cases neg <;> simp <;> omega
  · intro hrm
    have habove := habove hrm
    cases up <;> cases neg <;> simp at habove ⊢ <;> omega
  · intro hrm
    have hbelow := hbelow hrm
    cases up <;> cases neg <;> simp at hbelow ⊢ <;> omega

/-- The multiple of 2^k, as its factor, that a magnitude rounds to in a rounding mode. -/
def roundNat (rm : BitVec 2) (neg : Bool) (k m : Nat) : Nat :=
  if roundsUp rm neg (m >>> k % 2 == 1) (compare (2 * (m % 2 ^ k)) (2 ^ k)) (m % 2 ^ k != 0) then
    m >>> k + 1
  else m >>> k

theorem shiftRight_le_roundNat (rm : BitVec 2) (neg : Bool) (k m : Nat) : m >>> k ≤ roundNat rm neg k m := by
  unfold roundNat; split <;> omega

theorem roundNat_le (rm : BitVec 2) (neg : Bool) (k m : Nat) : roundNat rm neg k m ≤ m >>> k + 1 := by
  unfold roundNat; split <;> omega

theorem roundNat_between (rm : BitVec 2) (neg : Bool) (k m : Nat) :
    RoundsBetween rm (2 ^ k) (2 * ((if neg then -1 else 1 : ℤ) * m : ℤ))
      ((if neg then -1 else 1) * roundNat rm neg k m) := by
  have hm : (m : ℤ) = (m >>> k : ℕ) * (2 ^ k : ℕ) + (m % 2 ^ k : ℕ) := by
    rw [Nat.shiftRight_eq_div_pow]
    exact_mod_cast (Nat.div_add_mod' m (2 ^ k)).symm
  have h := (roundsUp_as rm neg (q := m >>> k) (Nat.mod_lt m (Nat.two_pow_pos k))).between (by positivity)
  rw [← hm] at h
  unfold roundNat
  push_cast at h ⊢
  exact h

/-! ## Rounding an exact value -/

/-- The sign of an exact value, as a factor. -/
def Exact.sign (x : Exact) : ℤ := if x.neg then -1 else 1

theorem val_eq_sign_mul (x : Exact) : x.val = ((x.sign * x.mant : ℤ) : ℚ) * 2 ^ x.exp := by
  unfold Exact.val Exact.sign
  split <;> push_cast <;> rfl

theorem round_of_le {p : Nat} (rm : BitVec 2) {x : Exact} (h : x.mant.log2 + 1 ≤ p) :
    x.round p rm = x := by
  rw [Exact.round]
  exact if_pos h

theorem round_of_lt {p k : Nat} (rm : BitVec 2) {x : Exact} (h : x.mant.log2 + 1 = p + k) (hk : k ≠ 0) :
    x.round p rm = ⟨x.neg, roundNat rm x.neg k x.mant, x.exp + k⟩ := by
  obtain rfl : k = x.mant.log2 + 1 - p := by omega
  rw [Exact.round]
  exact if_neg (by omega)

/-- A rounded value, with e the exponent of the unit: a multiple of 2^e, which lies by the value as the
mode says. -/
theorem round_between {p : Nat} (rm : BitVec 2) (x : Exact) {e : ℤ} (he : x.top + 1 = e + p) :
    ∃ k : ℤ, (x.round p rm).val = k * 2 ^ e ∧ RoundsBetween rm (2 ^ (e - 1)) x.val k := by
  have hhalf : (2 : ℚ) * 2 ^ (e - 1) = 2 ^ e := by
    rw [← zpow_one_add₀ (by norm_num)]; congr 1; ring
  rw [Exact.top] at he
  rcases Nat.lt_or_ge p (x.mant.log2 + 1) with hp | hp
  · obtain ⟨k, hk⟩ := Nat.exists_eq_add_of_lt hp
    rw [round_of_lt rm (k := k + 1) (by omega) (by omega)]
    have hexp : x.exp + ((k + 1 : ℕ) : ℤ) = e := by push_cast; omega
    refine ⟨x.sign * roundNat rm x.neg (k + 1) x.mant, ?_, ?_⟩
    · rw [val_eq_sign_mul, hexp]; rfl
    · have hunit : (2 : ℚ) ^ (e - 1) = 2 ^ (k + 1) * (2 ^ x.exp / 2) := by
        rw [← hexp, ← zpow_natCast, mul_div_assoc', ← zpow_add₀ (by norm_num), zpow_sub_one₀ (by norm_num),
          add_comm]
        rfl
      have hval : x.val = 2 * ((x.sign * x.mant : ℤ) : ℚ) * (2 ^ x.exp / 2) := by
        rw [val_eq_sign_mul]; ring
      rw [hunit, hval]
      exact (roundNat_between rm x.neg (k + 1) x.mant).of_sameSide (.scale _ _ (by positivity))
  · rw [round_of_le rm hp]
    obtain ⟨j, rfl⟩ := Nat.exists_eq_add_of_le hp
    have hval : x.val = ((x.sign * x.mant * 2 ^ j : ℤ) : ℚ) * 2 ^ e := by
      rw [val_eq_sign_mul, show x.exp = j + e by push_cast at he; omega, zpow_add₀ (by norm_num), zpow_natCast]
      push_cast
      ring
    refine ⟨_, hval, ?_⟩
    rw [hval, ← hhalf]
    exact .exact rm (two_zpow_pos _) _

end Sys2Proof.Machine
end

section
/-! What rounding to p bits, to an integer and of a quotient comes to, as relations of rational
numbers. -/

namespace Sys2Proof.Machine

/-! ## The error of a rounding -/

section
variable {rm : BitVec 2} {h q : ℚ} {k : ℤ} (hr : RoundsBetween rm h q k)
include hr

theorem RoundsBetween.error_lt : |k * (2 * h) - q| < 2 * h := by
  obtain ⟨hab, hbe, -⟩ := hr
  push_cast at hab hbe
  rw [abs_lt]
  constructor <;> linarith

theorem RoundsBetween.error_le (hrm : rm = 0) : 2 * |k * (2 * h) - q| ≤ 2 * h := by
  obtain ⟨hlo, hhi⟩ := hr.nearest hrm
  push_cast at hlo hhi
  have : |k * (2 * h) - q| ≤ h := abs_le.2 ⟨by linarith, by linarith⟩
  linarith

/-- Half-way between two multiples of the unit it is the even one (R61). -/
theorem RoundsBetween.even_of_half (hrm : rm = 0) (heq : 2 * |k * (2 * h) - q| = 2 * h) : k % 2 = 0 := by
  refine hr.even hrm ?_
  push_cast
  rcases abs_choice (k * (2 * h) - q) with ha | ha <;> rw [ha] at heq
  · exact .inl (by linarith)
  · exact .inr (by linarith)

theorem RoundsBetween.towardZero_le (hrm : rm = 1) (hh : 0 < h) :
    |k * (2 * h)| ≤ |q| ∧ 0 ≤ k * (2 * h) * q := by
  obtain ⟨hpos, hneg⟩ := hr.towardZero hrm
  push_cast at hpos hneg
  rcases lt_trichotomy k 0 with hk | rfl | hk
  · have hm : (k : ℚ) * (2 * h) < 0 := mul_neg_of_neg_of_pos (by exact_mod_cast hk) (by linarith)
    have hq : q ≤ k * (2 * h) := by linarith [hneg hk]
    rw [abs_of_neg hm, abs_of_neg (hq.trans_lt hm)]
    exact ⟨by linarith, mul_nonneg_of_nonpos_of_nonpos hm.le (hq.trans hm.le)⟩
  · simp
  · have hm : 0 < (k : ℚ) * (2 * h) := mul_pos (by exact_mod_cast hk) (by linarith)
    have hq : k * (2 * h) ≤ q := by linarith [hpos hk]
    rw [abs_of_pos hm, abs_of_pos (hm.trans_le hq)]
    exact ⟨hq, mul_nonneg hm.le (hm.trans_le hq).le⟩

/-- A number less than n units rounds to at most n of them. -/
theorem RoundsBetween.natAbs_le (hh : 0 < h) {n : ℕ} (hq : |q| < n * (2 * h)) : k.natAbs ≤ n := by
  have herr := hr.error_lt
  have hk : |(k : ℚ)| * (2 * h) < (n + 1) * (2 * h) := by
    rw [← abs_of_pos (by linarith : 0 < 2 * h), ← abs_mul, abs_of_pos (by linarith : 0 < 2 * h)]
    linarith [abs_sub_abs_le_abs_sub (k * (2 * h)) q]
  have := lt_of_mul_lt_mul_right hk (by linarith)
  rw [← Int.cast_abs] at this
  have : |k| < n + 1 := by exact_mod_cast this
  rw [Int.abs_eq_natAbs] at this
  omega

/-- What is a multiple of the unit rounds to itself. -/
theorem RoundsBetween.eq_of_multiple (hh : 0 < h) {j : ℤ} (hq : q = j * (2 * h)) : k = j := by
  have herr := hr.error_lt
  rw [hq, ← sub_mul, abs_mul, abs_of_pos (by linarith : 0 < 2 * h)] at herr
  have : |((k - j : ℤ) : ℚ)| < 1 := by
    push_cast
    exact lt_of_mul_lt_mul_right (by linarith) (by linarith : 0 ≤ 2 * h)
  rw [← Int.cast_abs] at this
  have : |k - j| < 1 := by exact_mod_cast this
  rw [Int.abs_lt_one_iff] at this
  omega

end

/-! ## To p significant bits -/

theorem two_mul_half_zpow (e : ℤ) : (2 : ℚ) * 2 ^ (e - 1) = 2 ^ e := by
  rw [← zpow_one_add₀ (by norm_num)]
  congr 1
  ring

theorem zpow_two_lt_iff {i j : ℤ} : (2 : ℚ) ^ i < 2 ^ j ↔ i < j :=
  zpow_lt_zpow_iff_right₀ (by norm_num)

/-- The relation of the statement, from where the number lies between the multiples of its unit. -/
theorem RoundsTo.of_between {rm : BitVec 2} {p : ℕ} {q : ℚ} {e k : ℤ}
    (hlo : (2 : ℚ) ^ (e + p - 1) ≤ |q|) (hhi : |q| < (2 : ℚ) ^ (e + p))
    (h : RoundsBetween rm (2 ^ (e - 1)) q k) : RoundsTo p rm q (k * 2 ^ e) := by
  intro e' hlo' hhi'
  obtain rfl : e' = e := by
    have h₁ := zpow_two_lt_iff.1 (hlo.trans_lt hhi')
    have h₂ := zpow_two_lt_iff.1 (hlo'.trans_lt hhi)
    omega
  have hh := two_zpow_pos (e' - 1)
  rw [zpow_add₀ (by norm_num), zpow_natCast] at hhi
  rw [← two_mul_half_zpow e'] at hhi ⊢
  refine ⟨k, rfl, h.natAbs_le hh (by push_cast; linarith), h.error_lt,
    fun hrm => ⟨h.error_le hrm, h.even_of_half hrm⟩, fun hrm => h.towardZero_le hrm hh,
    fun hrm => ?_, fun hrm => ?_⟩
  · have := h.up hrm; push_cast at this; linarith
  · have := h.down hrm; push_cast at this; linarith

/-- The binade that a value lies in. -/
theorem top_bounds {x : Exact} (hx : x.mant ≠ 0) :
    (2 : ℚ) ^ x.top ≤ |x.val| ∧ |x.val| < (2 : ℚ) ^ (x.top + 1) :=
  ⟨not_lt.1 fun h => absurd ((top_lt_iff x hx _).2 h) (lt_irrefl _),
    (top_lt_iff x hx _).1 (by omega)⟩

theorem round_roundsTo {p : Nat} (rm : BitVec 2) {x : Exact} (hx : x.mant ≠ 0) :
    RoundsTo p rm x.val (x.round p rm).val := by
  obtain ⟨hlo, hhi⟩ := top_bounds hx
  obtain ⟨k, hk, hb⟩ := round_between rm x (e := x.top + 1 - p) (p := p) (by omega)
  rw [hk]
  exact .of_between (by rwa [show x.top + 1 - p + p - 1 = x.top by omega])
    (by rwa [show x.top + 1 - p + p = x.top + 1 by omega]) hb

/-! ## To an integer -/

/-- The mode that a conversion to an integer rounds in (R278 to R280). -/
def ToInt.mode : ToInt → BitVec 2
  | .round => 0
  | .trunc => 1
  | .floor => 3

/-- Below the binary point an integer is the magnitude rounded at the point, with its sign. -/
theorem toInteger_of_neg {x : Exact} {k : Nat} (hk : x.exp = -k) (hpos : k ≠ 0) (m : ToInt) :
    x.toInteger m = x.sign * roundNat m.mode x.neg k x.mant := by
  have hneg : ¬ 0 ≤ x.exp := by omega
  have hkn : (-x.exp).toNat = k := by omega
  have hsign : ∀ n : Nat, (if x.neg then -(n : ℤ) else n) = x.sign * n := fun n => by
    unfold Exact.sign; split <;> simp
  simp only [Exact.toInteger, if_neg hneg, hkn, hsign]
  split
  · next hlt =>
    have hsmall : 2 * x.mant < 2 ^ k :=
      calc 2 * x.mant < 2 * 2 ^ (x.mant.log2 + 1) := by have := Nat.lt_log2_self (n := x.mant); omega
        _ = 2 ^ (x.mant.log2 + 1 + 1) := by ring
        _ ≤ 2 ^ k := Nat.pow_le_pow_right (by norm_num) hlt
    have hq : x.mant >>> k = 0 := by rw [Nat.shiftRight_eq_div_pow, Nat.div_eq_of_lt (by omega)]
    have hr : x.mant % 2 ^ k = x.mant := Nat.mod_eq_of_lt (by omega)
    rw [roundNat, hq, hr, Nat.compare_eq_lt.2 hsmall]
    cases m with
    | round => simp [roundsUp, ToInt.mode]
    | trunc => simp [roundsUp, ToInt.mode]
    | floor => cases hn : x.neg <;> simp [roundsUp, ToInt.mode, Exact.sign, hn]
  · cases m with
    | round => rfl
    | trunc => rfl
    | floor => rw [Bool.and_comm]; rfl

theorem toInteger_of_nonneg {x : Exact} (h : 0 ≤ x.exp) (m : ToInt) : ((x.toInteger m : ℤ) : ℚ) = x.val := by
  simp only [Exact.toInteger, if_pos h, ← at_val x h, zpow_zero, mul_one]

theorem toInteger_between (x : Exact) (m : ToInt) :
    RoundsBetween m.mode (1 / 2) x.val (x.toInteger m) := by
  rcases le_or_gt 0 x.exp with h | h
  · rw [← toInteger_of_nonneg h m]
    simpa using RoundsBetween.exact m.mode (h := 1 / 2) (by norm_num) (x.toInteger m)
  · obtain ⟨k, hk⟩ := Int.eq_ofNat_of_zero_le (a := -x.exp) (by omega)
    have hk' : x.exp = -k := by omega
    rw [toInteger_of_neg hk' (by omega), val_eq_sign_mul, hk', zpow_neg, zpow_natCast]
    have hunit : (1 / 2 : ℚ) = 2 ^ k * ((2 ^ k)⁻¹ / 2) := by field_simp
    have hval : ((x.sign * x.mant : ℤ) : ℚ) * (2 ^ k)⁻¹ =
        2 * ((x.sign * x.mant : ℤ) : ℚ) * ((2 ^ k)⁻¹ / 2) := by ring
    rw [hunit, hval]
    exact (roundNat_between m.mode x.neg k x.mant).of_sameSide (.scale _ _ (by positivity))

/-- A value is an integer where nothing is below its binary point, and every conversion then gives that
integer. -/
theorem isInteger_iff (x : Exact) (m : ToInt) :
    x.isInteger = true ↔ ((x.toInteger m : ℤ) : ℚ) = x.val := by
  rcases le_or_gt 0 x.exp with h | h
  · simp [Exact.isInteger, h, toInteger_of_nonneg h m]
  obtain ⟨k, hk⟩ := Int.eq_ofNat_of_zero_le (a := -x.exp) (by omega)
  have hval : x.val * 2 ^ k = ((x.sign * x.mant : ℤ) : ℚ) := by
    rw [val_eq_sign_mul, show x.exp = -(k : ℤ) by omega, zpow_neg, zpow_natCast]
    field_simp
  have hdvd : x.isInteger = true ↔ 2 ^ k ∣ x.mant := by
    have hlog (hm : x.mant ≠ 0) (hd : 2 ^ k ∣ x.mant) : k ≤ x.mant.log2 :=
      (Nat.le_log2 hm).2 (Nat.le_of_dvd (Nat.pos_of_ne_zero hm) hd)
    simp only [Exact.isInteger, hk, Int.toNat_natCast, not_le.2 h, decide_false, Bool.false_or,
      Bool.or_eq_true, Bool.and_eq_true, beq_iff_eq, decide_eq_true_eq, ← Nat.dvd_iff_mod_eq_zero]
    by_cases hm : x.mant = 0
    · simp [hm]
    · simp only [hm, false_or]
      exact ⟨And.right, fun hd => ⟨hlog hm hd, hd⟩⟩
  rw [hdvd]
  constructor
  · rintro ⟨j, hj⟩
    have hxj : x.val = ((x.sign * j : ℤ) : ℚ) * (2 * (1 / 2)) := by
      rw [hj] at hval
      push_cast at hval ⊢
      have h2 : (0 : ℚ) < 2 ^ k := by positivity
      have := mul_right_cancel₀ h2.ne' (hval.trans (by ring : _ = (x.sign * j : ℚ) * 2 ^ k))
      linarith
    rw [(toInteger_between x m).eq_of_multiple (by norm_num) hxj, hxj]
    ring
  · intro hi
    rw [← hi] at hval
    have : x.toInteger m * 2 ^ k = x.sign * x.mant := by exact_mod_cast hval
    have hdvd : (2 ^ k : ℤ) ∣ x.sign * x.mant := ⟨x.toInteger m, by rw [← this]; ring⟩
    have : (2 ^ k : ℤ) ∣ x.mant := by
      unfold Exact.sign at hdvd
      split at hdvd
      · rwa [neg_one_mul, dvd_neg] at hdvd
      · rwa [one_mul] at hdvd
    exact_mod_cast this

/-! ## A quotient -/

/-- A quotient of magnitudes a / b, and its whole part doubled with a sticky bit, lie alike between the
whole numbers. -/
theorem sameSide_sticky {a b : ℕ} (hb : b ≠ 0) :
    SameSide 1 (((2 * (a / b) + if a % b = 0 then 0 else 1 : ℕ) : ℚ) / 2) 1 (a / b) := by
  have hb' : (0 : ℚ) < b := by exact_mod_cast Nat.pos_of_ne_zero hb
  have hr : ((a % b : ℕ) : ℤ) < b := by exact_mod_cast Nat.mod_lt a (Nat.pos_of_ne_zero hb)
  have ha : (a : ℤ) = (a / b : ℕ) * b + (a % b : ℕ) := by exact_mod_cast (Nat.div_add_mod' a b).symm
  intro j
  have hcell : (j * 2 < (2 * (a / b) + if a % b = 0 then 0 else 1 : ℕ) ↔ j * b < a) ∧
      (((2 * (a / b) + if a % b = 0 then 0 else 1 : ℕ) : ℤ) < j * 2 ↔ (a : ℤ) < j * b) := by
    rw [ha]
    generalize a / b = q
    generalize a % b = r at *
    rcases lt_trichotomy j q with hj | rfl | hj
    · have : j * b + b ≤ q * b := by nlinarith
      generalize j * (b : ℤ) = m at *
      generalize (q : ℤ) * b = n at *
      split <;> omega
    · generalize (q : ℤ) * b = n at *
      split <;> omega
    · have : q * b + b ≤ j * b := by nlinarith
      generalize j * (b : ℤ) = m at *
      generalize (q : ℤ) * b = n at *
      split <;> omega
  rw [mul_one, lt_div_iff₀ (by norm_num), lt_div_iff₀ hb', div_lt_iff₀ (by norm_num), div_lt_iff₀ hb']
  generalize (2 * (a / b) + if a % b = 0 then 0 else 1) = n at hcell ⊢
  qify at hcell
  exact hcell

end Sys2Proof.Machine
end

section
/-! The quotient that DIVf rounds (R264): kept to a few more bits than it rounds to, with a sticky bit. -/

namespace Sys2Proof.Machine

/-- The magnitude of the quotient's numerator: the dividend's, with enough bits for p and three more. -/
def divNumerator (p : Nat) (x y : Exact) : Nat := x.mant <<< (p + 3 + y.mant.log2)

/-- The exponent that the whole part of the quotient stands at. -/
def divExp (p : Nat) (x y : Exact) : ℤ := x.exp - y.exp - (p + 3 + y.mant.log2 : ℕ)

variable {p : Nat} {x y : Exact}

theorem div_mant : (x.div p y).mant = 2 * (divNumerator p x y / y.mant) +
    if divNumerator p x y % y.mant = 0 then 0 else 1 := rfl

theorem div_exp : (x.div p y).exp = divExp p x y - 1 := rfl

theorem div_neg : (x.div p y).neg = (x.neg ^^ y.neg) := rfl

theorem abs_div_val : |(x.div p y).val| = ((x.div p y).mant : ℚ) / 2 * 2 ^ divExp p x y := by
  rw [abs_val, div_exp, ← two_mul_half_zpow (divExp p x y)]
  ring

theorem abs_quotient (hy : y.mant ≠ 0) :
    |x.val / y.val| = (divNumerator p x y : ℚ) / y.mant * 2 ^ divExp p x y := by
  have hy' : (y.mant : ℚ) ≠ 0 := by exact_mod_cast hy
  have h2 := (two_zpow_pos y.exp).ne'
  rw [abs_div, abs_val, abs_val, divNumerator, divExp, Nat.shiftLeft_eq, zpow_sub₀ (by norm_num),
    zpow_sub₀ (by norm_num), zpow_natCast]
  push_cast
  field_simp

theorem sign_mul_abs (x : Exact) : (x.sign : ℚ) * |x.val| = x.val := by
  rw [abs_val, val_eq_sign_mul]
  push_cast
  ring

theorem div_sign : ((x.div p y).sign : ℚ) = x.sign * y.sign := by
  simp only [Exact.sign, div_neg]
  by_cases hx : x.neg = true <;> by_cases hy : y.neg = true <;> simp [hx, hy]

theorem sign_mul_abs_quotient : ((x.div p y).sign : ℚ) * |x.val / y.val| = x.val / y.val := by
  have hinv : ((y.sign : ℚ))⁻¹ = y.sign := by unfold Exact.sign; split <;> norm_num
  rw [abs_div, div_sign]
  calc (x.sign * y.sign : ℚ) * (|x.val| / |y.val|)
      = x.sign * |x.val| / ((y.sign : ℚ)⁻¹ * |y.val|) := by
        rw [div_eq_mul_inv, div_eq_mul_inv, mul_inv, inv_inv]
        ring
    _ = x.val / y.val := by rw [hinv, sign_mul_abs, sign_mul_abs]

theorem SameSide.sign_mul {h q h' q' : ℚ} (hs : SameSide h q h' q') (x : Exact) :
    SameSide h (x.sign * q) h' (x.sign * q') := by
  unfold Exact.sign
  split
  · simpa using hs.neg
  · simpa using hs

theorem abs_div_sameSide (hy : y.mant ≠ 0) :
    SameSide (2 ^ divExp p x y) |(x.div p y).val| (2 ^ divExp p x y) |x.val / y.val| := by
  have hs := sameSide_sticky (a := divNumerator p x y) hy
  have hg := two_zpow_pos (divExp p x y)
  rw [abs_div_val, abs_quotient hy, div_mant]
  simpa using ((SameSide.scale 1 _ hg).symm.trans hs).trans (.scale 1 _ hg)

/-- The quotient kept and the true one lie alike between the multiples of the unit of the whole part. -/
theorem div_sameSide (hy : y.mant ≠ 0) :
    SameSide (2 ^ divExp p x y) (x.div p y).val (2 ^ divExp p x y) (x.val / y.val) := by
  rw [← sign_mul_abs (x.div p y), ← sign_mul_abs_quotient (p := p)]
  exact (abs_div_sameSide hy).sign_mul _

theorem le_div_whole (hx : x.mant ≠ 0) (hy : y.mant ≠ 0) :
    2 ^ (p + 2) ≤ divNumerator p x y / y.mant := by
  rw [Nat.le_div_iff_mul_le (Nat.pos_of_ne_zero hy), divNumerator, Nat.shiftLeft_eq]
  calc 2 ^ (p + 2) * y.mant ≤ 2 ^ (p + 2) * 2 ^ (y.mant.log2 + 1) :=
        Nat.mul_le_mul_left _ (Nat.lt_log2_self).le
    _ = 1 * 2 ^ (p + 3 + y.mant.log2) := by rw [one_mul, ← pow_add]; congr 1; omega
    _ ≤ x.mant * 2 ^ (p + 3 + y.mant.log2) := Nat.mul_le_mul_right _ (Nat.pos_of_ne_zero hx)

theorem le_div_mant (hx : x.mant ≠ 0) (hy : y.mant ≠ 0) : 2 ^ (p + 3) ≤ (x.div p y).mant := by
  have := le_div_whole (p := p) hx hy
  rw [div_mant, pow_succ]
  omega

theorem le_div_top (hx : x.mant ≠ 0) (hy : y.mant ≠ 0) :
    divExp p x y + p + 2 ≤ (x.div p y).top := by
  have h := le_div_mant (p := p) hx hy
  have := (Nat.le_log2 (by have := Nat.two_pow_pos (p + 3); omega)).2 h
  rw [Exact.top, div_exp]
  omega

/-- The two quotients lie alike between the powers of two. -/
theorem abs_div_lt_iff (hx : x.mant ≠ 0) (hy : y.mant ≠ 0) (j : ℤ) :
    |(x.div p y).val| < (2 : ℚ) ^ j ↔ |x.val / y.val| < (2 : ℚ) ^ j := by
  have hs := abs_div_sameSide (p := p) (x := x) hy
  rcases le_or_gt (divExp p x y) j with hj | hj
  · obtain ⟨i, hi⟩ := Int.eq_ofNat_of_zero_le (sub_nonneg.2 hj)
    have := (hs (2 ^ i)).2
    rw [show j = i + divExp p x y by omega, zpow_add₀ (by norm_num), zpow_natCast]
    exact_mod_cast this
  · have hunit : (2 : ℚ) ^ j < 2 ^ divExp p x y := zpow_two_lt_iff.2 hj
    have hd : (2 : ℚ) ^ divExp p x y ≤ |(x.div p y).val| := by
      have hm : 2 ≤ (x.div p y).mant := by
        have := le_div_whole (p := p) hx hy
        have := Nat.two_pow_pos (p + 2)
        rw [div_mant]
        omega
      have : (2 : ℚ) ≤ (x.div p y).mant := by exact_mod_cast hm
      rw [abs_div_val]
      exact le_mul_of_one_le_left (two_zpow_pos _).le (by linarith)
    have ht : (2 : ℚ) ^ divExp p x y ≤ |x.val / y.val| := by
      have := (hs.le 1).1
      rw [Int.cast_one, one_mul] at this
      exact this.1 hd
    constructor <;> intro <;> linarith

/-- The same holds of the multiples of half of the unit that the quotient rounds to. -/
theorem div_sameSide_half (hx : x.mant ≠ 0) (hy : y.mant ≠ 0) {e : ℤ}
    (he : (x.div p y).top + 1 = e + p) :
    SameSide (2 ^ (e - 1)) (x.div p y).val (2 ^ (e - 1)) (x.val / y.val) := by
  have htop := le_div_top (p := p) hx hy
  obtain ⟨i, hi⟩ := Int.eq_ofNat_of_zero_le (a := e - 1 - divExp p x y) (by omega)
  have hpow : (2 : ℚ) ^ (e - 1) = ((2 ^ i : ℤ) : ℚ) * 2 ^ divExp p x y := by
    rw [show e - 1 = i + divExp p x y by omega, zpow_add₀ (by norm_num), zpow_natCast]
    push_cast
    rfl
  rw [hpow]
  exact (div_sameSide hy).multiple _

/-- A quotient rounds, compares with the powers of two, and is exact, as the true one. -/
theorem div_round (hx : x.mant ≠ 0) (hy : y.mant ≠ 0) (rm : BitVec 2) :
    RoundsTo p rm (x.val / y.val) ((x.div p y).round p rm).val ∧
    (((x.div p y).round p rm).val = (x.div p y).val ↔
      ((x.div p y).round p rm).val = x.val / y.val) := by
  have hd : (x.div p y).mant ≠ 0 := by
    have := le_div_mant (p := p) hx hy
    have := Nat.two_pow_pos (p + 3)
    omega
  obtain ⟨e, he⟩ : ∃ e : ℤ, (x.div p y).top + 1 = e + p := ⟨(x.div p y).top + 1 - p, by omega⟩
  obtain ⟨k, hk, hb⟩ := round_between rm (x.div p y) he
  have hs := div_sameSide_half hx hy he
  obtain ⟨hlo, hhi⟩ := top_bounds hd
  rw [hk]
  constructor
  · refine .of_between ?_ ?_ (hb.of_sameSide hs)
    · rw [← not_lt, ← abs_div_lt_iff (p := p) hx hy, not_lt]
      rwa [show e + p - 1 = (x.div p y).top by omega]
    · rw [← abs_div_lt_iff (p := p) hx hy]
      rwa [show e + p = (x.div p y).top + 1 by omega]
  · have := hs.eq (2 * k)
    push_cast at this
    rwa [← two_mul_half_zpow e, ← mul_assoc, mul_comm (k : ℚ) 2]

end Sys2Proof.Machine
end

section
/-! The formats F and L (R250 to R252): their fields, their values and the bits of a value that a format
holds. -/

namespace Sys2Proof.Machine

/-! ## Fields -/

section
variable {w : Nat}

/-- The S bit is the most significant bit (R250). -/
theorem fpSign_eq_msb (z : BitVec w) : fpSign z = z.msb := by
  rw [fpSign, BitVec.msb_eq_getLsbD_last]

theorem fpExp_lt (z : BitVec w) : fpExp z < 2 ^ expBits w := Nat.mod_lt _ (Nat.two_pow_pos _)

theorem fpFrac_lt (z : BitVec w) : fpFrac z < 2 ^ fracBits w := Nat.mod_lt _ (Nat.two_pow_pos _)

theorem fpValue_normalized {z : BitVec w} (hz : fpIsZero z = false) : fpValue z =
    ⟨fpSign z, 2 ^ fracBits w + fpFrac z, (fpExp z : ℤ) - fpBias w - fracBits w⟩ := by
  rw [fpValue, hz]
  rfl

theorem fpValue_log2 {z : BitVec w} (hz : fpIsZero z = false) : (fpValue z).mant.log2 = fracBits w := by
  have hf := fpFrac_lt z
  have hp := Nat.two_pow_pos (fracBits w)
  rw [fpValue_normalized hz, Nat.log2_eq_iff (by dsimp only; omega), pow_succ]
  dsimp only
  omega

theorem fpValue_top {z : BitVec w} (hz : fpIsZero z = false) :
    (fpValue z).top = fpExp z - fpBias w := by
  rw [Exact.top, fpValue_log2 hz, fpValue_normalized hz]
  ring

/-- The value of a normalized number (R251). -/
theorem fpValue_val {z : BitVec w} (hz : fpIsZero z = false) : (fpValue z).val =
    (if z.msb then -1 else 1) * (1 + (fpFrac z : ℚ) / 2 ^ fracBits w) *
      (2 : ℚ) ^ ((fpExp z : ℤ) - fpBias w) := by
  rw [fpValue_normalized hz, Exact.val, fpSign_eq_msb, zpow_sub₀ (by norm_num) _ (fracBits w : ℤ),
    zpow_natCast]
  push_cast
  field_simp

theorem fpValue_zero {z : BitVec w} (hz : fpIsZero z = true) : (fpValue z).val = 0 := by
  rw [fpValue, if_pos hz, Exact.val]
  simp

end

section
variable {w : Nat} (hw : w = 32 ∨ w = 64)
include hw

/-- The widths of the fields, and the bias as half of the exponents. -/
theorem format_widths : w = fracBits w + expBits w + 1 ∧ 2 ^ expBits w = 2 * fpBias w + 2 := by
  rcases hw with rfl | rfl <;> decide

/-- A value is its three fields (R250). -/
theorem toNat_eq_fields (z : BitVec w) :
    z.toNat = (if fpSign z then 2 ^ (w - 1) else 0) + fpExp z * 2 ^ fracBits w + fpFrac z := by
  have hlt := z.isLt
  rcases hw with rfl | rfl <;>
    simp only [fpSign, fpExp, fpFrac, fracBits, expBits, BitVec.getLsbD,
      Nat.testBit_eq_decide_div_mod_eq, decide_eq_true_eq] <;>
    norm_num <;> split <;> omega

/-- The three fields of what is put together from three fields. -/
theorem fields_ofNat (neg : Bool) {e f : Nat} (he : e < 2 ^ expBits w) (hf : f < 2 ^ fracBits w) :
    fpSign (BitVec.ofNat w ((if neg then 2 ^ (w - 1) else 0) + e * 2 ^ fracBits w + f)) = neg ∧
    fpExp (BitVec.ofNat w ((if neg then 2 ^ (w - 1) else 0) + e * 2 ^ fracBits w + f)) = e ∧
    fpFrac (BitVec.ofNat w ((if neg then 2 ^ (w - 1) else 0) + e * 2 ^ fracBits w + f)) = f := by
  rcases hw with rfl | rfl <;> cases neg <;>
    simp [fpSign, fpExp, fpFrac, fracBits, expBits, BitVec.getLsbD,
      Nat.testBit_eq_decide_div_mod_eq] at he hf ⊢ <;> omega

/-- A normalized number: the exponents of the formats but the least and the largest (R251, R253). -/
theorem normalized_iff (z : BitVec w) : (fpReserved z = false ∧ fpIsZero z = false) ↔
    1 ≤ fpExp z ∧ fpExp z ≤ 2 * fpBias w := by
  obtain ⟨-, hb⟩ := format_widths hw
  have hlt := fpExp_lt z
  simp only [fpReserved, fpIsZero, Bool.or_eq_false_iff, Bool.and_eq_false_iff, beq_eq_false_iff_ne,
    bne_eq_false_iff_eq]
  omega

end

/-! ## A number has one normalized form -/

theorem val_ne_zero {x : Exact} (hx : x.mant ≠ 0) : x.val ≠ 0 := by
  obtain ⟨hlo, -⟩ := top_bounds hx
  intro h
  rw [h, abs_zero] at hlo
  exact absurd (two_zpow_pos x.top) (not_lt.2 hlo)

theorem val_eq_zero_iff (x : Exact) : x.val = 0 ↔ x.mant = 0 := by
  refine ⟨fun h => by_contra fun hx => val_ne_zero hx h, fun h => ?_⟩
  rw [val_eq_sign_mul, h]
  simp

theorem top_eq_of_val_eq {x y : Exact} (hx : x.mant ≠ 0) (h : x.val = y.val) : x.top = y.top := by
  have hy : y.mant ≠ 0 := fun hy => val_ne_zero hx (h.trans ((val_eq_zero_iff y).2 hy))
  have hiff : ∀ j, x.top < j ↔ y.top < j := fun j => by
    rw [top_lt_iff x hx, top_lt_iff y hy, h]
  have h₁ := (hiff (x.top + 1)).1 (by omega)
  have h₂ := (hiff (y.top + 1)).2 (by omega)
  omega

theorem neg_iff {x : Exact} (hx : x.mant ≠ 0) : x.neg = true ↔ x.val < 0 := by
  have hpos : (0 : ℚ) < x.mant * 2 ^ x.exp :=
    mul_pos (by exact_mod_cast Nat.pos_of_ne_zero hx) (two_zpow_pos _)
  rw [Exact.val, mul_assoc]
  by_cases hn : x.neg = true
  · simpa [hn] using hpos
  · simpa [hn] using hpos.le

theorem neg_eq_of_val_eq {x y : Exact} (hx : x.mant ≠ 0) (h : x.val = y.val) : x.neg = y.neg := by
  have hy : y.mant ≠ 0 := fun hy => val_ne_zero hx (h.trans ((val_eq_zero_iff y).2 hy))
  rw [Bool.eq_iff_iff, neg_iff hx, neg_iff hy, h]

theorem mant_eq_of_val_eq {x y : Exact} (he : x.exp = y.exp) (h : x.val = y.val) : x.mant = y.mant := by
  have ha : |x.val| = |y.val| := by rw [h]
  rw [abs_val, abs_val, he] at ha
  exact_mod_cast mul_right_cancel₀ (two_zpow_pos y.exp).ne' ha

theorem fpValue_injective {w : Nat} (hw : w = 32 ∨ w = 64) {z z' : BitVec w} (hz : fpIsZero z = false)
    (hz' : fpIsZero z' = false) (h : (fpValue z).val = (fpValue z').val) : z = z' := by
  have hm : (fpValue z).mant ≠ 0 := by
    have := Nat.two_pow_pos (fracBits w)
    rw [fpValue_normalized hz]
    dsimp only
    omega
  have hexp : fpExp z = fpExp z' := by
    have := top_eq_of_val_eq hm h
    rw [fpValue_top hz, fpValue_top hz'] at this
    omega
  have hsign := neg_eq_of_val_eq hm h
  have hmant := mant_eq_of_val_eq (by rw [fpValue_normalized hz, fpValue_normalized hz', hexp]) h
  rw [fpValue_normalized hz, fpValue_normalized hz'] at hsign hmant
  have hfrac : fpFrac z = fpFrac z' := Nat.add_left_cancel hmant
  apply BitVec.eq_of_toNat_eq
  rw [toNat_eq_fields hw z, toNat_eq_fields hw z', hexp, hfrac, show fpSign z = fpSign z' from hsign]

/-! ## The bits of a value that a format holds -/

/-- The leading bits of a value, as a significand of f + 1 bits. -/
def significand (f : Nat) (x : Exact) : Nat :=
  if x.mant.log2 ≤ f then x.mant <<< (f - x.mant.log2) else x.mant >>> (x.mant.log2 - f)

theorem fpEncode_eq (w : Nat) (x : Exact) : fpEncode w x =
    BitVec.ofNat w ((if x.neg then 2 ^ (w - 1) else 0) + (x.top + fpBias w).toNat * 2 ^ fracBits w +
      (significand (fracBits w) x - 2 ^ fracBits w)) := rfl

/-- Where no bit is lost the significand is the value's own, moved to its leading bit. -/
theorem significand_mul {f : Nat} {x : Exact}
    (h : x.mant.log2 ≤ f ∨ 2 ^ (x.mant.log2 - f) ∣ x.mant) :
    significand f x * 2 ^ x.mant.log2 = x.mant * 2 ^ f := by
  unfold significand
  split
  · next hl =>
    rw [Nat.shiftLeft_eq, mul_assoc, ← pow_add, Nat.sub_add_cancel hl]
  · next hl =>
    obtain ⟨c, hc⟩ := h.resolve_left hl
    generalize x.mant.log2 = l at *
    rw [Nat.shiftRight_eq_div_pow, hc, Nat.mul_div_cancel_left _ (Nat.two_pow_pos _),
      mul_comm (2 ^ (l - f)) c, mul_assoc, ← pow_add, Nat.sub_add_cancel (by omega)]

theorem significand_bounds {f : Nat} {x : Exact} (hx : x.mant ≠ 0)
    (h : x.mant.log2 ≤ f ∨ 2 ^ (x.mant.log2 - f) ∣ x.mant) :
    2 ^ f ≤ significand f x ∧ significand f x < 2 ^ (f + 1) := by
  have hmul := significand_mul h
  have hlo := Nat.log2_self_le hx
  have hhi := Nat.lt_log2_self (n := x.mant)
  have hp := Nat.two_pow_pos x.mant.log2
  have hf := Nat.two_pow_pos f
  constructor
  · refine Nat.le_of_mul_le_mul_right ?_ hp
    rw [hmul, mul_comm]
    exact Nat.mul_le_mul_right _ hlo
  · refine Nat.lt_of_mul_lt_mul_right (a := 2 ^ x.mant.log2) ?_
    rw [hmul, show 2 ^ (f + 1) * 2 ^ x.mant.log2 = 2 ^ (x.mant.log2 + 1) * 2 ^ f by ring]
    exact Nat.mul_lt_mul_of_pos_right hhi hf

/-- The bits of a value that the format holds: a normalized number of that value (R251). -/
theorem fpEncode_spec {w : Nat} (hw : w = 32 ∨ w = 64) {x : Exact} (hx : x.mant ≠ 0)
    (h : x.mant.log2 ≤ fracBits w ∨ 2 ^ (x.mant.log2 - fracBits w) ∣ x.mant)
    (hlo : fpEmin w ≤ x.top) (hhi : x.top ≤ fpEmax w) :
    fpReserved (fpEncode w x) = false ∧ fpIsZero (fpEncode w x) = false ∧
      (fpValue (fpEncode w x)).val = x.val := by
  obtain ⟨-, hb⟩ := format_widths hw
  obtain ⟨hs₁, hs₂⟩ := significand_bounds hx h
  rw [pow_succ] at hs₂
  rw [fpEmin] at hlo
  rw [fpEmax] at hhi
  obtain ⟨hsign, hexp, hfrac⟩ := fields_ofNat hw x.neg (e := (x.top + fpBias w).toNat)
    (f := significand (fracBits w) x - 2 ^ fracBits w) (by omega) (by omega)
  rw [← fpEncode_eq] at hsign hexp hfrac
  have hnorm := (normalized_iff hw (fpEncode w x)).2 (by rw [hexp]; omega)
  refine ⟨hnorm.1, hnorm.2, ?_⟩
  have hmul : (significand (fracBits w) x : ℚ) * 2 ^ x.mant.log2 = x.mant * 2 ^ fracBits w := by
    exact_mod_cast significand_mul h
  have hexp' : (((x.top + fpBias w).toNat : ℕ) : ℤ) - fpBias w - fracBits w =
      x.exp + (x.mant.log2 : ℕ) - (fracBits w : ℕ) := by
    rw [Exact.top] at *
    omega
  rw [fpValue_normalized hnorm.2, hsign, hexp, hfrac, Exact.val, Exact.val]
  dsimp only
  rw [hexp', Nat.add_sub_cancel' hs₁, zpow_sub₀ (by norm_num), zpow_add₀ (by norm_num), zpow_natCast,
    zpow_natCast, mul_assoc, mul_assoc, ← mul_div_assoc, mul_comm ((2 : ℚ) ^ x.exp),
    ← mul_assoc _ _ ((2 : ℚ) ^ x.exp), hmul]
  field_simp

end Sys2Proof.Machine
end

section
/-! Delivery of a floating-point result and of an integer (R257, R278): each case with what it makes of
FSR. -/

namespace Sys2Proof.Machine

/-! ## FSR after an operation -/

theorem fsrSetTT_none (f : Word) : fsrSetTT f ttNone = fsrAfter f 0 0 := by
  simp [fsrSetTT, fsrAfter, ttNone]

theorem fsrSetTT_overflow (f : Word) : fsrSetTT f ttOverflow = fsrAfter f 2 0 := by
  simp [fsrSetTT, fsrAfter, ttOverflow]

theorem fsrSetUF_underflow (f : Word) : fsrSetUF (fsrSetTT f ttUnderflow) = fsrAfter f 1 0x10 := rfl

theorem fsrSetIF_inexact (f : Word) : fsrSetIF (fsrSetTT f ttInexact) = fsrAfter f 6 0x40 := rfl

/-! ## The magnitude of a rounded value -/

/-- A rounded value has at most p bits, or is a power of two; its leading bit is the value's, or the next
above. -/
theorem round_mant {p : Nat} (hp : 1 ≤ p) (rm : BitVec 2) {x : Exact} (hx : x.mant ≠ 0) :
    (x.round p rm).mant ≠ 0 ∧
    ((x.round p rm).mant.log2 + 1 ≤ p ∨ (x.round p rm).mant = 2 ^ p) ∧
    x.top ≤ (x.round p rm).top ∧ (x.round p rm).top ≤ x.top + 1 := by
  rcases Nat.lt_or_ge p (x.mant.log2 + 1) with hlt | hle
  · obtain ⟨k, hk⟩ := Nat.exists_eq_add_of_lt hlt
    have hlo := Nat.log2_self_le hx
    have hhi := Nat.lt_log2_self (n := x.mant)
    rw [Exact.top, Exact.top, round_of_lt rm (k := k + 1) (by omega) (by omega)]
    dsimp only
    have hl : x.mant.log2 = p - 1 + (k + 1) := by omega
    have hq₁ : 2 ^ (p - 1) ≤ x.mant >>> (k + 1) := by
      rw [Nat.shiftRight_eq_div_pow, Nat.le_div_iff_mul_le (Nat.two_pow_pos _), ← pow_add, ← hl]
      exact hlo
    have hq₂ : x.mant >>> (k + 1) < 2 ^ p := by
      rw [Nat.shiftRight_eq_div_pow, Nat.div_lt_iff_lt_mul (Nat.two_pow_pos _), ← pow_add]
      rwa [show p + (k + 1) = x.mant.log2 + 1 by omega]
    have hr₁ := shiftRight_le_roundNat rm x.neg (k + 1) x.mant
    have hr₂ := roundNat_le rm x.neg (k + 1) x.mant
    generalize roundNat rm x.neg (k + 1) x.mant = n at *
    have hpos := Nat.two_pow_pos (p - 1)
    rcases Nat.lt_or_ge n (2 ^ p) with hn | hn
    · have hlog : n.log2 = p - 1 := by
        rw [Nat.log2_eq_iff (by omega), Nat.sub_add_cancel hp]
        omega
      refine ⟨by omega, .inl (by omega), ?_, ?_⟩ <;> rw [hlog] <;> push_cast <;> omega
    · obtain rfl : n = 2 ^ p := by omega
      refine ⟨by omega, .inr rfl, ?_, ?_⟩ <;> rw [Nat.log2_two_pow] <;> push_cast <;> omega
  · rw [round_of_le rm hle]
    exact ⟨hx, .inl hle, le_refl _, by omega⟩

/-- A rounded value keeps all its bits in the format (R256). -/
theorem round_fits {f : Nat} (rm : BitVec 2) {x : Exact} (hx : x.mant ≠ 0) :
    (x.round (f + 1) rm).mant.log2 ≤ f ∨
      2 ^ ((x.round (f + 1) rm).mant.log2 - f) ∣ (x.round (f + 1) rm).mant := by
  obtain ⟨-, h | h, -⟩ := round_mant (p := f + 1) (by omega) rm hx
  · exact .inl (by omega)
  · refine .inr ?_
    rw [h, Nat.log2_two_pow]
    exact Nat.pow_dvd_pow 2 (by omega)

/-- A value that p bits hold rounds to itself. -/
theorem round_val_of_val_eq {p : Nat} (rm : BitVec 2) {x y : Exact} (hy : y.mant ≠ 0)
    (hlog : y.mant.log2 + 1 = p) (h : x.val = y.val) : (x.round p rm).val = x.val := by
  have hx : x.mant ≠ 0 := fun hx => val_ne_zero hy (h.symm.trans ((val_eq_zero_iff x).2 hx))
  have htop := top_eq_of_val_eq hx h
  obtain ⟨k, hk, hb⟩ := round_between rm x (e := y.exp) (p := p) (by rw [htop, Exact.top]; omega)
  have hval : x.val = ((y.sign * y.mant : ℤ) : ℚ) * (2 * 2 ^ (y.exp - 1)) := by
    rw [two_mul_half_zpow, h, val_eq_sign_mul]
  rw [hk, hb.eq_of_multiple (two_zpow_pos _) hval, hval, two_mul_half_zpow]

/-! ## The cases of delivery -/

section
variable {w : Nat} {fsr : Word} {x : Exact} (neg lossy : Bool)

theorem fpDeliver_zero (hx : x.mant = 0) :
    fpDeliver w fsr x neg = .ok (fpZero w neg, fsrAfter fsr 0 0) := by
  simp [fpDeliver, hx, fsrSetTT_none]

theorem fpDeliver_zero_lossy (hx : x.mant = 0) :
    deliveredInexact fsr (fpZero w neg) (fpDeliver w fsr x neg true) := by
  simp only [fpDeliver, hx, if_true, fsrSetIF_inexact]
  rfl

theorem fpDeliver_overflow (hx : x.mant ≠ 0) (h : fpEmax w < (x.round (fracBits w + 1) (fsrRM fsr)).top) :
    fpDeliver w fsr x neg lossy = .error (.fpu (fsrAfter fsr 2 0)) := by
  simp only [fpDeliver, hx, h, if_true, if_false, fsrSetTT_overflow]

theorem fpDeliver_underflow (hx : x.mant ≠ 0)
    (h : ¬ fpEmax w < (x.round (fracBits w + 1) (fsrRM fsr)).top) (hu : x.top < fpEmin w) :
    fpDeliver w fsr x neg lossy = if fsr.getLsbD 3 then .error (.fpu (fsrAfter fsr 1 0x10))
      else .ok (0, fsrAfter fsr 1 0x10) := by
  simp only [fpDeliver, hx, h, hu, if_true, if_false, fsrSetUF_underflow]
  rfl

theorem fpDeliver_exact (hx : x.mant ≠ 0)
    (h : ¬ fpEmax w < (x.round (fracBits w + 1) (fsrRM fsr)).top) (hu : ¬ x.top < fpEmin w)
    (he : (x.round (fracBits w + 1) (fsrRM fsr)).val = x.val) : fpDeliver w fsr x neg =
      .ok (fpEncode w (x.round (fracBits w + 1) (fsrRM fsr)), fsrAfter fsr 0 0) := by
  have heq := (eq_iff x (x.round (fracBits w + 1) (fsrRM fsr))).2 he.symm
  simp [fpDeliver, hx, h, hu, heq, fsrSetTT_none]

theorem fpDeliver_inexact (hx : x.mant ≠ 0)
    (h : ¬ fpEmax w < (x.round (fracBits w + 1) (fsrRM fsr)).top) (hu : ¬ x.top < fpEmin w)
    (he : (x.round (fracBits w + 1) (fsrRM fsr)).val ≠ x.val ∨ lossy = true) :
    deliveredInexact fsr (fpEncode w (x.round (fracBits w + 1) (fsrRM fsr)))
      (fpDeliver w fsr x neg lossy) := by
  have heq : (x.eq (x.round (fracBits w + 1) (fsrRM fsr)) && !lossy) = false := by
    rw [Bool.and_eq_false_iff, Bool.eq_false_iff, Ne, eq_iff]
    exact he.imp Ne.symm (by simp)
  simp only [fpDeliver, hx, h, hu, heq, if_false, Bool.false_eq_true, fsrSetIF_inexact]
  rfl

end

end Sys2Proof.Machine
end

section
/-! Values, rounding and delivery, as the statement says them (O52). -/

namespace Sys2Proof.Machine

/-! ## Delivery, by magnitude -/

section
variable {w : Nat} {fsr : Word} {x : Exact} (neg lossy : Bool)

theorem fpDeliver_too_large (hx : x.mant ≠ 0)
    (h : (2 : ℚ) ^ (fpBias w + 1) ≤ |(x.round (fracBits w + 1) (fsrRM fsr)).val|) :
    fpDeliver w fsr x neg lossy = .error (.fpu (fsrAfter fsr 2 0)) := by
  obtain ⟨hy, -⟩ := round_mant (p := fracBits w + 1) (by omega) (fsrRM fsr) hx
  have htop := not_congr (top_lt_iff _ hy (fpBias w + 1 : ℕ))
  rw [zpow_natCast, not_lt, not_lt] at htop
  have := htop.2 h
  exact fpDeliver_overflow neg lossy hx (by rw [fpEmax]; omega)

theorem one_le_fpBias (w : Nat) : 1 ≤ fpBias w := by
  unfold fpBias; split <;> omega

theorem fpDeliver_too_small (hx : x.mant ≠ 0) (h : |x.val| < (2 : ℚ) ^ (1 - (fpBias w : ℤ))) :
    fpDeliver w fsr x neg lossy = if fsr.getLsbD 3 then .error (.fpu (fsrAfter fsr 1 0x10))
      else .ok (0, fsrAfter fsr 1 0x10) := by
  obtain ⟨-, -, -, hy⟩ := round_mant (p := fracBits w + 1) (by omega) (fsrRM fsr) hx
  have hlt := (top_lt_iff x hx _).2 h
  have := one_le_fpBias w
  exact fpDeliver_underflow neg lossy hx (by rw [fpEmax]; omega) hlt

/-- In range the rounded value is a normalized number, and it is delivered (R256, R257). -/
theorem fpDeliver_in_range (hw : w = 32 ∨ w = 64) (hlo : (2 : ℚ) ^ (1 - (fpBias w : ℤ)) ≤ |x.val|)
    (hhi : |(x.round (fracBits w + 1) (fsrRM fsr)).val| < (2 : ℚ) ^ (fpBias w + 1)) :
    ∃ z : BitVec w, fpReserved z = false ∧ fpIsZero z = false ∧
      (fpValue z).val = (x.round (fracBits w + 1) (fsrRM fsr)).val ∧
      ((x.round (fracBits w + 1) (fsrRM fsr)).val = x.val ∧ lossy = false →
        fpDeliver w fsr x neg lossy = .ok (z, fsrAfter fsr 0 0)) ∧
      ((x.round (fracBits w + 1) (fsrRM fsr)).val ≠ x.val ∨ lossy = true →
        deliveredInexact fsr z (fpDeliver w fsr x neg lossy)) := by
  have hx : x.mant ≠ 0 := fun hx => by
    rw [(val_eq_zero_iff x).2 hx, abs_zero] at hlo
    exact absurd (two_zpow_pos _) (not_lt.2 hlo)
  obtain ⟨hy, -, htop, -⟩ := round_mant (p := fracBits w + 1) (by omega) (fsrRM fsr) hx
  have hmin : ¬ x.top < fpEmin w := by rw [top_lt_iff x hx]; exact not_lt.2 hlo
  have hmax : ¬ fpEmax w < (x.round (fracBits w + 1) (fsrRM fsr)).top := by
    rw [← zpow_natCast, ← top_lt_iff _ hy] at hhi
    rw [fpEmax]
    omega
  obtain ⟨hres, hzero, hval⟩ := fpEncode_spec hw hy (round_fits (fsrRM fsr) hx) (by omega) (by omega)
  refine ⟨_, hres, hzero, hval, ?_, fpDeliver_inexact neg lossy hx hmax hmin⟩
  rintro ⟨he, rfl⟩
  exact fpDeliver_exact neg hx hmax hmin he

/-- A result that the format holds is delivered unchanged. -/
theorem fpDeliver_held (hw : w = 32 ∨ w = 64) {z : BitVec w} (hres : fpReserved z = false)
    (hzero : fpIsZero z = false) (h : x.val = (fpValue z).val) :
    fpDeliver w fsr x neg = .ok (z, fsrAfter fsr 0 0) := by
  have hm : (fpValue z).mant ≠ 0 := by
    intro hm
    have := fpValue_log2 hzero
    rw [fpValue_normalized hzero] at hm
    have := Nat.two_pow_pos (fracBits w)
    dsimp only at hm
    omega
  obtain ⟨hemin, hemax⟩ := (normalized_iff hw z).1 ⟨hres, hzero⟩
  obtain ⟨hlo, hhi⟩ := top_bounds hm
  rw [fpValue_top hzero] at hlo hhi
  have hround : (x.round (fracBits w + 1) (fsrRM fsr)).val = x.val :=
    round_val_of_val_eq _ hm (by rw [fpValue_log2 hzero]) h
  obtain ⟨z', hres', hzero', hval, hdel, -⟩ := fpDeliver_in_range (fsr := fsr) (x := x) neg false hw
    (by rw [h]; exact (zpow_le_zpow_right₀ (by norm_num) (by omega)).trans hlo)
    (by
      rw [hround, h, ← zpow_natCast]
      exact hhi.trans_le (zpow_le_zpow_right₀ (by norm_num) (by push_cast; omega)))
  obtain rfl : z' = z := fpValue_injective hw hzero' hzero (by rw [hval, hround, h])
  exact hdel ⟨hround, rfl⟩

/-- Every case of delivery. -/
theorem fpDeliver_rounded (hw : w = 32 ∨ w = 64) (fsr : Word) (x : Exact) (neg lossy : Bool) :
    let y := x.round (fracBits w + 1) (fsr.extractLsb' 7 2)
    (x.mant = 0 → lossy = false →
      fpDeliver w fsr x neg lossy = .ok (fpZero w neg, fsrAfter fsr 0 0)) ∧
    (x.mant = 0 → lossy = true → deliveredInexact fsr (fpZero w neg) (fpDeliver w fsr x neg lossy)) ∧
    (x.mant ≠ 0 → (2 : ℚ) ^ (fpBias w + 1) ≤ |y.val| →
      fpDeliver w fsr x neg lossy = .error (.fpu (fsrAfter fsr 2 0))) ∧
    (x.mant ≠ 0 → |x.val| < (2 : ℚ) ^ (1 - (fpBias w : ℤ)) → fpDeliver w fsr x neg lossy =
      if fsr.getLsbD 3 then .error (.fpu (fsrAfter fsr 1 0x10)) else .ok (0, fsrAfter fsr 1 0x10)) ∧
    ((2 : ℚ) ^ (1 - (fpBias w : ℤ)) ≤ |x.val| → |y.val| < (2 : ℚ) ^ (fpBias w + 1) →
      ∃ z : BitVec w, fpReserved z = false ∧ fpIsZero z = false ∧ (fpValue z).val = y.val ∧
        (y.val = x.val ∧ lossy = false → fpDeliver w fsr x neg lossy = .ok (z, fsrAfter fsr 0 0)) ∧
        (y.val ≠ x.val ∨ lossy = true → deliveredInexact fsr z (fpDeliver w fsr x neg lossy))) := by
  refine ⟨?_, ?_, fpDeliver_too_large neg lossy, fpDeliver_too_small neg lossy,
    fpDeliver_in_range neg lossy hw⟩
  · rintro hx rfl
    exact fpDeliver_zero neg hx
  · rintro hx rfl
    exact fpDeliver_zero_lossy neg hx

end

/-! ## Fields and values of a format -/

theorem fpReserved_eq {w : Nat} (z : BitVec w) : fpReserved z =
    (decide (fpExp z = 2 ^ expBits w - 1) || decide (fpExp z = 0 ∧ fpFrac z ≠ 0)) := by
  rw [Bool.eq_iff_iff]
  simp [fpReserved]

theorem fpIsZero_iff {w : Nat} (z : BitVec w) : fpIsZero z = true ↔ fpExp z = 0 ∧ fpFrac z = 0 := by
  simp [fpIsZero]

/-- A format's fields and what they stand for (R250 to R253). -/
theorem format_fields {w : Nat} (z : BitVec w) :
    fpReserved z = (decide (fpExp z = 2 ^ expBits w - 1) || decide (fpExp z = 0 ∧ fpFrac z ≠ 0)) ∧
    (fpIsZero z = true ↔ fpExp z = 0 ∧ fpFrac z = 0) ∧ (fpIsZero z = true → (fpValue z).val = 0) ∧
    (fpReserved z = false → fpIsZero z = false → (fpValue z).val =
      (if z.msb then -1 else 1) * (1 + (fpFrac z : ℚ) / 2 ^ fracBits w) *
        (2 : ℚ) ^ ((fpExp z : ℤ) - fpBias w)) :=
  ⟨fpReserved_eq z, fpIsZero_iff z, fpValue_zero, fun _ => fpValue_val⟩

/-! ## Sums, and products added -/

theorem fpAdd_zero (w : Nat) (fsr : Word) (x y : Exact) (h : (x.add y).mant = 0) : fpAdd w fsr x y =
    .ok (fpZero w (if x.mant = 0 ∧ y.mant = 0 ∧ x.neg = y.neg then x.neg
      else decide (fsr.extractLsb' 7 2 = 3)), fsrAfter fsr 0 0) := by
  rw [fpAdd, fpDeliver_zero _ h]
  rfl

theorem fracBits_succ (w : Nat) : fracBits w + 1 = if w = 32 then 24 else 53 := by
  unfold fracBits; split <;> rfl

theorem mulAdd_rounds (w : Nat) (fsr : Word) (x y z : Exact) :
    let exact := x.mul y
    let rounded := exact.round (if w = 32 then 24 else 53) (fsr.extractLsb' 7 2)
    (exact.val = rounded.val ∨ Config.dotPolyFused = true → mulAdd w fsr x y z = fpAdd w fsr exact z) ∧
    (exact.val ≠ rounded.val → Config.dotPolyFused = false →
      mulAdd w fsr x y z = fpAdd w fsr rounded z true) := by
  dsimp only
  rw [← fracBits_succ]
  unfold mulAdd fsrRM
  constructor
  · rintro (h | h)
    · rw [if_pos ((eq_iff _ _).2 h)]
    · simp [h]
  · intro h hf
    rw [if_neg (mt (eq_iff _ _).1 h), hf]
    rfl

/-! ## Conversions to an integer -/

/-- What the three conversions give (R278 to R280). -/
theorem toInteger_spec (x : Exact) :
    |((x.toInteger .trunc : ℤ) : ℚ)| ≤ |x.val| ∧ 0 ≤ (x.toInteger .trunc : ℤ) * x.val ∧
    |x.val| < |((x.toInteger .trunc : ℤ) : ℚ)| + 1 ∧
    ((x.toInteger .floor : ℤ) : ℚ) ≤ x.val ∧ x.val < (x.toInteger .floor : ℤ) + 1 ∧
    2 * |((x.toInteger .round : ℤ) : ℚ) - x.val| ≤ 1 ∧
    (2 * |((x.toInteger .round : ℤ) : ℚ) - x.val| = 1 → x.toInteger .round % 2 = 0) := by
  have hone : (2 : ℚ) * (1 / 2) = 1 := by norm_num
  have ht := toInteger_between x .trunc
  have hf := toInteger_between x .floor
  have hr := toInteger_between x .round
  have ht₁ := ht.towardZero_le rfl (by norm_num)
  have ht₂ := ht.error_lt
  have hf₁ := hf.down rfl
  have hf₂ := hf.error_lt
  have hr₁ := hr.error_le rfl
  have hr₂ := hr.even_of_half rfl
  rw [hone, mul_one] at ht₁ ht₂ hf₂ hr₁ hr₂
  push_cast at hf₁
  refine ⟨ht₁.1, ht₁.2, ?_, by linarith, ?_, hr₁, hr₂⟩
  · rw [abs_sub_comm] at ht₂
    linarith [abs_sub_abs_le_abs_sub x.val (x.toInteger .trunc)]
  · rw [abs_lt] at hf₂
    linarith [hf₂.1]

theorem fitsSigned_eq (w : Nat) (n : Int) : fitsSigned w n = !outOfRange w n := by
  simp [fitsSigned, outOfRange, Bool.not_or, ← decide_not]

theorem fpToInt_rounds (w : Nat) (fsr : Word) (x : Exact) (m : ToInt) :
    let n := x.toInteger m
    (outOfRange w n = true → fpToInt w fsr x m = .error (.fpu (fsrAfter fsr 2 0))) ∧
    (outOfRange w n = false → (n : ℚ) = x.val →
      fpToInt w fsr x m = .ok (BitVec.ofInt w n, fsrAfter fsr 0 0)) ∧
    (outOfRange w n = false → (n : ℚ) ≠ x.val →
      deliveredInexact fsr (BitVec.ofInt w n) (fpToInt w fsr x m)) := by
  dsimp only
  rw [Ne, ← isInteger_iff]
  simp only [fpToInt, fitsSigned_eq, Bool.not_not]
  refine ⟨fun h => ?_, fun h hi => ?_, fun h hi => ?_⟩
  · rw [if_pos h, fsrSetTT_overflow]
  · rw [if_neg (by simp [h]), if_pos hi, fsrSetTT_none]
  · rw [if_neg (by simp [h]), if_neg hi]
    rfl

end Sys2Proof.Machine

namespace Sys2Proof.Proofs

open Sys2Proof.Machine

/-- Settles O52: rounding is placed between the multiples of half of its unit (`round_between`), which the
quotient kept (`div_sameSide`) and the integers (`toInteger_between`) share, and a rounded value in range
is encoded without loss (`fpEncode_spec`). -/
theorem resultsAreRoundedAsTheModeSays : Obligations.ResultsAreRoundedAsTheModeSays := by
  unfold Obligations.ResultsAreRoundedAsTheModeSays
  refine ⟨?held, fun p rm x _ hx => round_roundsTo rm hx, ?fieldsF, ?deliverF, ?fieldsL, ?deliverL,
    ?exact, exactOf_val, ?quotient, fpAdd_zero, ?mulAdd, toInteger_spec, ?toInt⟩
  case held =>
    intro w fsr x z neg hw hres hzero heq
    rw [fpDeliver_held neg hw hres hzero ((eq_iff _ _).1 heq)]
    simp [fsrAfter]
  case fieldsF =>
    intro z
    obtain ⟨hres, hzero, hval⟩ := format_fields z
    exact ⟨hres, hzero, hval.1, hval.2, rfl, rfl⟩
  case deliverF => exact fpDeliver_rounded (.inl rfl)
  case fieldsL =>
    intro z
    obtain ⟨hres, hzero, hval⟩ := format_fields z
    exact ⟨hres, hzero, hval.1, hval.2, rfl, rfl⟩
  case deliverL => exact fpDeliver_rounded (.inr rfl)
  case exact => exact fun x y => ⟨add_val x y, mul_val x y, negate_val x, lt_iff x y, eq_iff x y⟩
  case quotient =>
    intro p rm x y _ hx hy
    obtain ⟨hround, hexact⟩ := div_round hx hy rm
    exact ⟨hround, hexact, abs_div_lt_iff hx hy⟩
  case mulAdd => exact fun w fsr x y z _ => mulAdd_rounds w fsr x y z
  case toInt => exact fun w fsr x m _ => fpToInt_rounds w fsr x m

end Sys2Proof.Proofs
end

section
/-! What an instruction that begins in User mode can do without a trap: a run of a few kinds of updates
(R99, R430, R503). First the updates, then the operations that make them. -/

namespace Sys2Proof.Machine

/-! ## Updates that User mode may make -/

/-- One update that is left to User mode: of the registers that are not protected; of the selected stack
pointer; of PSR but for U, S, P and I; or of one byte of memory, written through the translation for User
mode. -/
inductive UserUpdate : State → State → Prop where
  | registers (s : State) (regs : Vector Word 8) (pc fp sb : Word) (mod : BitVec 16)
      (fd : Vector Quad 8) (fsr : Word) (waiting : Bool) (freeCount : Nat) (boundary : Boundary) :
      UserUpdate s { s with
        regs := regs, pc := pc, fp := fp, sb := sb, mod := mod, fd := fd, fsr := fsr
        waiting := waiting, freeCount := freeCount, boundary := boundary }
  | stackPointer (s : State) (v : Word) : UserUpdate s (s.setSp v)
  | flags (s : State) (p : BitVec 16) (h : p &&& 0x0F00 = s.psr &&& 0x0F00) :
      UserUpdate s { s with psr := p }
  | store {s t : State} {k : Access} {va : Word} {b : Byte} (hk : k = .write ∨ k = .rmw)
      (h : s.writeByte k true va b = .ok t) : UserUpdate s t

/-- A byte is stored at the address that the translation gives, and nothing else changes. -/
theorem writeByte_spec {s t : State} {k : Access} {u : Bool} {va : Word} {b : Byte}
    (h : s.writeByte k u va b = .ok t) :
    ∃ q, s.translate k u va = some q ∧ t = { s with mem := s.mem.set q.toNat b } := by
  unfold State.writeByte at h
  split at h
  · next q hq => cases h; exact ⟨q, hq, rfl⟩
  · cases h

/-- U, S, P and I stay. -/
theorem UserUpdate.psr_high {s t : State} (h : UserUpdate s t) :
    t.psr &&& 0x0F00 = s.psr &&& 0x0F00 := by
  cases h with
  | registers => rfl
  | stackPointer v => rw [setSp_psr]
  | flags p h => exact h
  | store hk h => obtain ⟨q, -, rfl⟩ := writeByte_spec h; rfl

theorem UserUpdate.flagU {s t : State} (h : UserUpdate s t) : t.flagU = s.flagU := by
  have h8 := congrArg (·.getLsbD 8) h.psr_high
  simpa [State.flagU] using h8

theorem UserUpdate.xlate {s t : State} (h : UserUpdate s t) : t.xlate = s.xlate := by
  cases h with
  | registers => rfl
  | stackPointer v => rw [setSp_xlate]
  | flags p h => rfl
  | store hk h => obtain ⟨q, -, rfl⟩ := writeByte_spec h; rfl

/-- `t` is reached from `s₀` in User mode, by updates that are left to it. -/
structure UserRun (s₀ t : State) : Prop where
  /-- the run is in User mode -/
  flagU : t.flagU = true
  /-- the updates -/
  updates : Relation.ReflTransGen UserUpdate s₀ t

namespace UserRun
variable {s₀ s t : State}

theorem refl (h : s.flagU = true) : UserRun s s := ⟨h, .refl⟩

theorem update (h : UserRun s₀ s) (hu : UserUpdate s t) : UserRun s₀ t :=
  ⟨hu.flagU.trans h.flagU, h.updates.tail hu⟩

theorem registers (h : UserRun s₀ s) {regs : Vector Word 8} {pc fp sb : Word} {mod : BitVec 16}
    {fd : Vector Quad 8} {fsr : Word} {waiting : Bool} {freeCount : Nat} {boundary : Boundary} :
    UserRun s₀ { s with
      regs := regs, pc := pc, fp := fp, sb := sb, mod := mod, fd := fd, fsr := fsr
      waiting := waiting, freeCount := freeCount, boundary := boundary } :=
  h.update (.registers ..)

theorem setSp (h : UserRun s₀ s) (v : Word) : UserRun s₀ (s.setSp v) := h.update (.stackPointer s v)

/-- A flag outside U, S, P and I may be replaced. -/
theorem setFlag (h : UserRun s₀ s) {i : Nat} (b : Bool)
    (hi : (0xF0FF : BitVec 16).getLsbD i = true) : UserRun s₀ (s.setFlag i b) :=
  h.update (.flags s _ (putBit_and_not s.psr 0xF0FF b hi))

theorem setC (h : UserRun s₀ s) (b : Bool) : UserRun s₀ (s.setC b) := h.setFlag b (by decide)

theorem setF (h : UserRun s₀ s) (b : Bool) : UserRun s₀ (s.setF b) := h.setFlag b (by decide)

theorem setZNL (h : UserRun s₀ s) (z n l : Bool) : UserRun s₀ (s.setZNL z n l) :=
  ((h.setFlag z (by decide)).setFlag n (by decide)).setFlag l (by decide)

theorem compareFlags {w : Nat} (h : UserRun s₀ s) (a b : BitVec w) :
    UserRun s₀ (s.compareFlags a b) := h.setZNL _ _ _

/-- A write of UPSR leaves the high byte of PSR (R34). -/
theorem setUpsr (h : UserRun s₀ s) (v : BitVec 8) : UserRun s₀ (s.setUpsr v) := by
  refine h.update (.flags s _ ?_)
  have hv : v.setWidth 16 &&& 0x0F00 = 0 := by revert v; decide
  have hm : psrMask &&& 0x0F00 = 0x0F00 := by decide
  have hp : (0xFF00 : BitVec 16) &&& 0x0F00 = 0x0F00 := by decide
  rw [BitVec.and_assoc, hm, or_and_mask, hv, BitVec.and_assoc, hp]
  simp

end UserRun

/-! ## Computations -/

/-- Of what a computation answers, if it answers, `P` holds. -/
def Ensures {α : Type} (P : α → Prop) : Except Stop α → Prop
  | .ok a => P a
  | .error _ => True

theorem ensures_iff {α : Type} {P : α → Prop} {x : Except Stop α} :
    Ensures P x ↔ ∀ a, x = .ok a → P a := by
  cases x <;> simp [Ensures]

namespace Ensures
variable {α β : Type} {P : α → Prop} {Q : β → Prop} {x : Except Stop α} {f : α → Except Stop β}

theorem bind (hx : Ensures P x) (hf : ∀ a, P a → Ensures Q (f a)) : Ensures Q (x >>= f) := by
  cases x with
  | ok a => exact hf a hx
  | error e => trivial

/-- For a part of which nothing need be known, as a read of memory or an address. -/
theorem any (hf : ∀ a, Ensures Q (f a)) : Ensures Q (x >>= f) :=
  bind (P := fun _ => True) (ensures_iff.2 fun _ _ => trivial) fun a _ => hf a

/-- A computation whose first part never answers does not answer. -/
theorem stops (hx : Ensures (fun _ => False) x) : Ensures Q (x >>= f) := hx.bind fun _ h => h.elim

end Ensures

theorem privileged_stops {s : State} (h : s.flagU = true) : Ensures (fun _ => False) (privileged s) := by
  simp [privileged, h, Ensures]

theorem needMmu_stops {s : State} (h : s.flagU = true) : Ensures (fun _ => False) (needMmu s) := by
  simp [needMmu, h, Ensures]

theorem ovfTrap_userRun {s₀ s : State} (hs : UserRun s₀ s) (b : Bool) :
    Ensures (UserRun s₀) (ovfTrap b s) := by
  unfold ovfTrap; split; exacts [trivial, hs]

/-! ## Locations that are written -/

/-- A location in memory is accessed as one that is written. -/
def Loc.forWriting : Loc → Prop
  | .mem _ k => k = .write ∨ k = .rmw
  | .reg _ | .pair _ | .freg _ | .push => True

theorem loc_forWriting (f : File) (r : Reg) : (f.loc r).forWriting := by cases f <;> trivial

theorem writeLoc_forWriting (f : File) (spi : Word) (g : Gen) (s : State) :
    Ensures Loc.forWriting (writeLoc f spi g s) := by
  unfold writeLoc
  split
  · exact loc_forWriting f _
  · trivial
  · exact .any fun _ => .inl rfl

theorem rmwLoc_forWriting (f : File) (spi : Word) (g : Gen) (s : State) :
    Ensures Loc.forWriting (rmwLoc f spi g s) := by
  unfold rmwLoc
  split
  · exact loc_forWriting f _
  · exact .any fun _ => .inr rfl

/-! ## Memory and the stack -/

section
variable {s₀ s : State} (hs : UserRun s₀ s)
include hs

theorem writeBytes_userRun {k : Access} (hk : k = .write ∨ k = .rmw) (n : Nat) (va : Word) (v : Nat) :
    Ensures (UserRun s₀) (State.writeBytes k true n va v s) := by
  induction n generalizing va v s with
  | zero => exact hs
  | succ n ih =>
    unfold State.writeBytes
    split
    · trivial
    · next h => exact ih (hs.update (.store hk h)) _ _

theorem write_userRun {w : Nat} {k : Access} (hk : k = .write ∨ k = .rmw) (va : Word) (v : BitVec w) :
    Ensures (UserRun s₀) (s.write va v k) := by
  rw [State.write, hs.flagU]
  exact writeBytes_userRun hs hk _ _ _

theorem push_userRun {w : Nat} (v : BitVec w) : Ensures (UserRun s₀) (s.push v) :=
  write_userRun (hs.setSp _) (.inl rfl) _ _

theorem pop_userRun (w : Nat) : Ensures (fun p => UserRun s₀ p.2) (s.pop w) :=
  ensures_iff.2 fun p hp => by
    obtain ⟨-, ht⟩ := pop_spec (v := p.1) (t := p.2) hp
    rw [ht]
    exact hs.setSp _

/-! ## Operands -/

theorem readGen_userRun (f : File) (w : Nat) (spi : Word) (g : Gen) :
    Ensures (fun p => UserRun s₀ p.2) (readGen f w spi g s) :=
  ensures_iff.2 fun ⟨x, t⟩ h => by
    obtain rfl | ⟨-, rfl⟩ | ⟨r, -, -, -, rfl⟩ := readGen_spec h
    exacts [hs, hs.setSp _, hs.registers]

theorem readAt_userRun (w : Nat) (l : Loc) : Ensures (fun p => UserRun s₀ p.2) (readAt w l s) :=
  ensures_iff.2 fun ⟨x, t⟩ h => by
    obtain rfl | rfl := readAt_spec h
    exacts [hs, hs.registers]

theorem writeAt_userRun {w : Nat} {l : Loc} (hl : l.forWriting) (v : BitVec w) :
    Ensures (UserRun s₀) (writeAt l v s) := by
  cases l with
  | reg r => exact hs.registers
  | pair r => change UserRun s₀ (writePair s r v); unfold writePair; split <;> exact hs.registers
  | freg r => exact hs.registers
  | mem a k => exact write_userRun hs hl a v
  | push => exact push_userRun hs v

end

/-! ## Shapes of instructions -/

/-- The state that comes with a result is reached in User mode. -/
abbrev ResultRun {w : Nat} (s₀ : State) (x : Except Stop (Result w)) : Prop :=
  Ensures (fun r => UserRun s₀ r.state) x

theorem deliver_userRun {s₀ : State} {w : Nat} {l : Loc} {r : Result w} (hl : l.forWriting)
    (len : Nat) (h : UserRun s₀ r.state) : Ensures (UserRun s₀) (deliver len l r) :=
  (writeAt_userRun h hl r.value).bind fun _ ht => ovfTrap_userRun ht.registers _

section
variable {s₀ s : State} {fa fb : File} {wa wb len : Nat} {a b : Gen}

theorem source_userRun (hs : UserRun s₀ s) {op : BitVec wa → State → Except Stop State}
    (hop : ∀ x t, UserRun s₀ t → Ensures (UserRun s₀) (op x t)) :
    Ensures (UserRun s₀) (source fa wa len a s op) :=
  (readGen_userRun hs _ _ _ _).bind fun _ h₁ => (hop _ _ h₁).bind fun _ h₂ => h₂.registers

theorem sources_userRun (hs : UserRun s₀ s) {op : BitVec wa → BitVec wb → State → Except Stop State}
    (hop : ∀ x y t, UserRun s₀ t → Ensures (UserRun s₀) (op x y t)) :
    Ensures (UserRun s₀) (sources fa fb wa wb len a b s op) :=
  (readGen_userRun hs _ _ _ _).bind fun _ h₁ => (readGen_userRun h₁ _ _ _ _).bind fun _ h₂ =>
    (hop _ _ _ h₂).bind fun _ h₃ => h₃.registers

theorem store_userRun {op : State → Result wb} (hop : UserRun s₀ (op s).state) :
    Ensures (UserRun s₀) (store fb wb len b s op) :=
  (writeLoc_forWriting _ _ _ _).bind fun _ hl => deliver_userRun hl _ hop

theorem unary_userRun (hs : UserRun s₀ s) {op : BitVec wa → State → Except Stop (Result wb)}
    (hop : ∀ x t, UserRun s₀ t → ResultRun s₀ (op x t)) :
    Ensures (UserRun s₀) (unary fa fb wa wb len a b s op) :=
  (readGen_userRun hs _ _ _ _).bind fun _ h₁ => (writeLoc_forWriting _ _ _ _).bind fun _ hl =>
    (hop _ _ h₁).bind fun _ h₂ => deliver_userRun hl _ h₂

theorem fromAddr_userRun {op : Word → State → Result wb} (hop : ∀ ea, UserRun s₀ (op ea s).state) :
    Ensures (UserRun s₀) (fromAddr wb len a b s op) :=
  .any fun _ => (writeLoc_forWriting _ _ _ _).bind fun _ hl => deliver_userRun hl _ (hop _)

theorem modify_userRun (hs : UserRun s₀ s) {op : BitVec wb → State → Except Stop (Result wb)}
    (hop : ∀ y t, UserRun s₀ t → ResultRun s₀ (op y t)) :
    Ensures (UserRun s₀) (modify fb wb len b s op) :=
  (rmwLoc_forWriting _ _ _ _).bind fun _ hl => (readAt_userRun hs _ _).bind fun _ h₁ =>
    (hop _ _ h₁).bind fun _ h₂ => deliver_userRun hl _ h₂

theorem binary_userRun (hs : UserRun s₀ s)
    {op : BitVec wa → BitVec wb → State → Except Stop (Result wb)}
    (hop : ∀ x y t, UserRun s₀ t → ResultRun s₀ (op x y t)) :
    Ensures (UserRun s₀) (binary fa fb wa wb len a b s op) :=
  (readGen_userRun hs _ _ _ _).bind fun _ h₁ => (rmwLoc_forWriting _ _ _ _).bind fun _ hl =>
    (readAt_userRun h₁ _ _).bind fun _ h₂ => (hop _ _ _ h₂).bind fun _ h₃ => deliver_userRun hl _ h₃

end

end Sys2Proof.Machine
end

section
/-! The meanings of the instructions, run in User mode. -/

namespace Sys2Proof.Machine

/-! ## Integer, logical and packed decimal instructions -/

section
variable {s₀ s : State} (hs : UserRun s₀ s) (w len : Nat) (a b : Gen)
include hs

theorem arithResult_userRun {w : Nat} (r : Arith w) : UserRun s₀ (arithResult r s).state :=
  (hs.setC _).setF _

theorem readLowHalf_userRun (l : Loc) : Ensures (fun p => UserRun s₀ p.2) (readLowHalf w l s) := by
  unfold readLowHalf
  split
  · split; exacts [hs, hs.registers]
  · exact readAt_userRun hs w _

theorem meiI_userRun : Ensures (UserRun s₀) (meiI w len a b s) :=
  (readGen_userRun hs _ _ _ _).bind fun _ h₁ => (rmwLoc_forWriting _ _ _ _).bind fun l hl =>
    (readLowHalf_userRun h₁ w l).bind fun _ h₂ => deliver_userRun hl _ h₂

theorem signedDivision_userRun (f : Int → Int → Int) (o : Bool) :
    Ensures (UserRun s₀) (signedDivision w len a b s f o) :=
  binary_userRun hs fun x y t ht => by split; exacts [trivial, ht]

theorem deiI_userRun : Ensures (UserRun s₀) (deiI w len a b s) :=
  binary_userRun hs fun x y t ht => by
    split
    · trivial
    · dsimp only; split; exacts [ht.registers, ht]

theorem logical_userRun (f : BitVec w → BitVec w → BitVec w) :
    Ensures (UserRun s₀) (logical w len a b s f) :=
  binary_userRun hs fun _ _ _ ht => ht

theorem shift_userRun (f : BitVec w → Nat → BitVec w × Bool) (g : BitVec w → Nat → BitVec w) :
    Ensures (UserRun s₀) (shift w len a b s f g) :=
  binary_userRun hs fun c y t ht => by
    split
    · exact ht.registers
    · split; exacts [ht, ht]

theorem packed_userRun (f : Nat → Nat → Nat → Nat × Bool) :
    Ensures (UserRun s₀) (packed w len a b s f) :=
  binary_userRun hs fun x y t ht => by
    dsimp only
    split
    · exact (ht.setC _).setF _
    · exact ((ht.registers (s := t)).setC _).setF _

/-! ## Bit and bit-field instructions -/

theorem bitOp_userRun (change : Option (Bool → Bool)) :
    Ensures (UserRun s₀) (bitOp w len a b s change) := by
  refine (readGen_userRun hs _ _ _ _).bind fun x h₁ => .any fun base => ?_
  cases base with
  | reg r =>
    dsimp only
    split
    · cases change
      · exact (h₁.setF _).registers
      · exact (h₁.registers.setF _).registers
    · cases change
      · exact (h₁.registers.setF _).registers
      · exact (h₁.registers.setF _).registers
  | mem ea =>
    cases change with
    | none => exact .any fun _ => (h₁.setF _).registers
    | some f =>
      exact .any fun _ => (write_userRun h₁ (.inr rfl) _ _).bind fun _ h₂ => (h₂.setF _).registers

theorem ffsI_userRun : Ensures (UserRun s₀) (ffsI w len a b s) :=
  binary_userRun hs fun x y t ht => by
    dsimp only
    split
    · exact ht.registers.setF _
    · split <;> exact ht.setF _

theorem deliverField_userRun (spi : Word) (b : Gen) (d : Word) (k n : Int) :
    Ensures (UserRun s₀) (deliverField w len spi b s d k n) := by
  refine (writeLoc_forWriting _ _ _ _).bind fun l hl => ?_
  split
  · exact deliver_userRun hl _ hs
  · exact deliver_userRun hl _ hs.registers

theorem extField_userRun (off n : Int) : Ensures (UserRun s₀) (extField w len off n a b s) := by
  refine .any fun base => ?_
  cases base with
  | reg r => exact deliverField_userRun hs w len _ _ _ _ _
  | mem ea => exact .any fun _ => deliverField_userRun hs w len _ _ _ _ _

theorem insField_userRun (off n : Int) : Ensures (UserRun s₀) (insField w len off n a b s) := by
  refine (readGen_userRun hs _ _ _ _).bind fun x h₁ => .any fun base => ?_
  cases base with
  | reg r => dsimp only; split <;> exact h₁.registers
  | mem ea =>
    refine .any fun d => ?_
    split
    · exact (write_userRun h₁ (.inr rfl) _ _).bind fun _ h₂ => h₂.registers
    · exact (write_userRun h₁.registers (.inr rfl) _ _).bind fun _ h₂ => h₂.registers

/-! ## Processor control -/

theorem branchIf_userRun (c : Cond) (d : Disp) : Ensures (UserRun s₀) (branchIf c len d s) := by
  unfold branchIf; split <;> exact hs.registers

theorem caseI_userRun : Ensures (UserRun s₀) (caseI w a s) :=
  (readGen_userRun hs _ _ _ _).bind fun _ h₁ => h₁.registers

theorem acbI_userRun (q : BitVec 4) (d : Disp) : Ensures (UserRun s₀) (acbI w len q a d s) :=
  (rmwLoc_forWriting _ _ _ _).bind fun l hl => (readAt_userRun hs _ l).bind fun _ h₁ =>
    (writeAt_userRun h₁ hl _).bind fun _ h₂ =>
      ovfTrap_userRun (by split <;> exact h₂.registers) _

theorem bsr_userRun (d : Disp) : Ensures (UserRun s₀) (bsr len d s) :=
  (push_userRun hs _).bind fun _ h₁ => h₁.registers

theorem jsr_userRun : Ensures (UserRun s₀) (jsr len a s) :=
  .any fun _ => (push_userRun hs _).bind fun _ h₁ => h₁.registers

theorem ret_userRun (d : Disp) : Ensures (UserRun s₀) (ret d s) := .any fun _ => (hs.setSp _).registers

theorem callExternal_userRun (d : Word) : Ensures (UserRun s₀) (callExternal len d s) :=
  .any fun _ => .any fun _ => (push_userRun hs.registers _).bind fun _ h₁ =>
    (push_userRun h₁ _).bind fun _ h₂ => h₂.registers

theorem rxp_userRun (d : Disp) : Ensures (UserRun s₀) (rxp d s) :=
  .any fun _ => .any fun _ => .any fun _ => (hs.setSp _).registers

theorem flagTrap_userRun : Ensures (UserRun s₀) (flagTrap s) := by
  unfold flagTrap; split; exacts [trivial, hs.registers]

/-! ## Processor service -/

theorem pushList_userRun (l : BitVec 8) (k : Nat) : Ensures (UserRun s₀) (pushList l k s) := by
  induction k generalizing s with
  | zero => exact hs
  | succ k ih =>
    unfold pushList
    split
    · exact (push_userRun hs _).bind fun _ h₁ => ih h₁
    · exact ih hs

theorem popList_userRun (l : BitVec 8) (k : Nat) : Ensures (UserRun s₀) (popList l k s) := by
  induction k generalizing s with
  | zero => exact hs
  | succ k ih =>
    unfold popList
    split
    · exact (pop_userRun hs 32).bind fun _ h₁ => ih h₁.registers
    · exact ih hs

theorem save_userRun (l : BitVec 8) : Ensures (UserRun s₀) (save len l s) :=
  (pushList_userRun hs l 8).bind fun _ h₁ => h₁.registers

theorem restore_userRun (l : BitVec 8) : Ensures (UserRun s₀) (restore len l s) :=
  (popList_userRun hs l 8).bind fun _ h₁ => h₁.registers

theorem enter_userRun (l : BitVec 8) (d : Disp) : Ensures (UserRun s₀) (enter len l d s) :=
  (push_userRun hs _).bind fun t h₁ =>
    have h₂ : UserRun s₀ { t with fp := t.sp } := h₁.registers
    (pushList_userRun (h₂.setSp _) l 8).bind fun _ h₃ => h₃.registers

theorem exit_userRun (l : BitVec 8) : Ensures (UserRun s₀) (exit len l s) :=
  (popList_userRun hs l 8).bind fun _ h₁ => (pop_userRun (h₁.setSp _) 32).bind fun _ h₂ => h₂.registers

/-- A register that LPRi loads in User mode is none of the protected ones (R430). -/
theorem loadProc_userRun {r : ProcReg} (hr : procPrivileged r = false) (v : BitVec w) :
    UserRun s₀ (loadProc s r v) := by
  cases r with
  | upsr => exact hs.setUpsr _
  | sp => exact hs.setSp _
  | fp | sb | mod => exact hs.registers
  | dcr | bpc | dsr | car | usp | cfg | psr | intbase => cases hr

theorem lprI_userRun (r : ProcReg) : Ensures (UserRun s₀) (lprI w len r a s) := by
  unfold lprI procCheck
  cases hr : procPrivileged r with
  | true => exact .stops (privileged_stops hs.flagU)
  | false => exact .any fun _ => source_userRun hs fun _ _ ht => loadProc_userRun ht w hr _

/-! ## Strings, blocks and arrays -/

theorem terminate_userRun (f : Bool) : UserRun s₀ (terminate s f) := (hs.setF f).registers

theorem limitReached_userRun : UserRun s₀ (limitReached s).2 := by
  unfold limitReached
  split
  · exact hs
  · split; exacts [hs.registers, hs]

theorem nextElement_userRun (kind : StringKind) (back : Bool) :
    UserRun s₀ (nextElement w kind back s) := by
  cases kind <;> exact hs.registers

theorem elementTail_userRun (kind : StringKind) (u : Until) (back : Bool) (x : BitVec w) :
    Ensures (UserRun s₀) (elementTail kind w u back x s) := by
  unfold elementTail
  split
  · exact terminate_userRun hs _
  · cases kind with
    | movs => exact (write_userRun hs (.inl rfl) _ _).bind fun _ h₁ => nextElement_userRun h₁ _ _ _
    | cmps =>
      refine .any fun y => ?_
      have h₁ := hs.compareFlags x y
      dsimp only
      split; exacts [nextElement_userRun h₁ _ _ _, terminate_userRun h₁ _]
    | skps => exact nextElement_userRun hs _ _ _

theorem stringElement_userRun (kind : StringKind) (u : Until) (back t : Bool) :
    Ensures (UserRun s₀) (stringElement kind w u back t s) := by
  have h₀ : UserRun s₀ (if kind = .cmps then s.setZNL true false false else s) := by
    split; exacts [hs.setZNL _ _ _, hs]
  have h₁ := limitReached_userRun h₀
  rw [stringElement_eq]
  dsimp only
  generalize limitReached (if kind = .cmps then s.setZNL true false false else s) = r at h₁
  split
  · exact terminate_userRun h₁ _
  · refine .any fun x => ?_
    split
    · exact .any fun y => elementTail_userRun h₁ _ _ _ _ _
    · exact elementTail_userRun h₁ _ _ _ _ _

theorem blockCount_userRun (n : Nat) (d : Disp) : UserRun s₀ (blockCount n d s).2 := by
  unfold blockCount
  dsimp only
  split; exacts [hs, hs.registers]

theorem moveElements_userRun (free : Bool) (k : Nat) (p q : Word) :
    Ensures (UserRun s₀) (moveElements w free k p q s) := by
  induction k generalizing s p q with
  | zero => exact hs
  | succ k ih =>
    refine .any fun x => ?_
    cases free
    · exact (write_userRun hs (.inl rfl) _ _).bind fun _ h₁ => ih h₁ _ _
    · exact (write_userRun hs.registers (.inl rfl) _ _).bind fun _ h₁ => ih h₁ _ _

theorem movmI_userRun (d : Disp) : Ensures (UserRun s₀) (movmI w len a b d s) :=
  .any fun _ => .any fun _ =>
    (moveElements_userRun (blockCount_userRun hs (w / 8) d) w _ _ _ _).bind fun _ h₁ => h₁.registers

theorem compareElements_userRun (k : Nat) (p q : Word) :
    Ensures (UserRun s₀) (compareElements w k p q s) := by
  induction k generalizing p q with
  | zero => exact hs.setZNL _ _ _
  | succ k ih =>
    refine .any fun x => .any fun y => ?_
    split; exacts [ih _ _, hs.compareFlags _ _]

theorem cmpmI_userRun (d : Disp) : Ensures (UserRun s₀) (cmpmI w len a b d s) :=
  .any fun _ => .any fun _ =>
    (compareElements_userRun (blockCount_userRun hs (w / 8) d) w _ _ _).bind fun _ h₁ => h₁.registers

theorem checkI_userRun (r : Reg) : Ensures (UserRun s₀) (checkI w len r a b s) := by
  refine .any fun ea => (readGen_userRun hs _ _ _ _).bind fun x h₁ => .any fun up => .any fun lo => ?_
  dsimp only
  split
  · exact ovfTrap_userRun (h₁.setF _).registers _
  · exact (h₁.setF _).registers

/-! ## Floating-point instructions -/

theorem fpBinary_userRun (f : Word → BitVec w → BitVec w → Except Stop (BitVec w × Word)) :
    Ensures (UserRun s₀) (fpBinary w len a b s f) :=
  .any fun _ => binary_userRun hs fun _ _ _ ht => .any fun _ => .any fun _ => ht.registers

theorem fpAccumulate_userRun
    (f : Word → BitVec w → BitVec w → BitVec w → Except Stop (BitVec w × Word)) :
    Ensures (UserRun s₀) (fpAccumulate w len a b s f) :=
  .any fun _ => sources_userRun hs fun _ _ _ ht => .any fun _ => .any fun _ => ht.registers

theorem fpUnary_userRun {fb : File} {wa wb : Nat} {f : BitVec wa → State → Except Stop (Result wb)}
    (hf : ∀ x t, UserRun s₀ t → ResultRun s₀ (f x t)) :
    Ensures (UserRun s₀) (fpUnary fb wa wb len a b s f) :=
  .any fun _ => unary_userRun hs fun _ _ ht => .any fun _ => hf _ _ ht

theorem logbFp_userRun : Ensures (UserRun s₀) (logbFp w len a b s) :=
  fpUnary_userRun hs len a b fun x t ht => by split <;> exact ht.registers

theorem cmpFp_userRun : Ensures (UserRun s₀) (cmpFp w len a b s) :=
  .any fun _ => sources_userRun hs fun _ _ _ ht => .any fun _ => ht.registers.setZNL _ _ _

end

end Sys2Proof.Machine
end

section
/-! A User-mode instruction stores only where translation lets User mode write (O10). -/

namespace Sys2Proof.Machine

/-- Where an outcome is a next state in which no trap was taken, a run in User mode leads to it. -/
def RunsInUserMode (s : State) (o : Host.Outcome State Fault Refusal) : Prop :=
  ∀ t, o = .next t → t.boundary ≠ .trapped → UserRun s t

/-- A body that stops ends in a trap or in no next state; only one that answers is a run. -/
theorem conclude_userRun {s : State} {x : Except Stop State} (hx : Ensures (UserRun s) x) :
    RunsInUserMode s (conclude s x) := by
  intro t h hb
  cases x with
  | ok t' => cases h; exact hx
  | error e =>
    cases e with
    | trap | abort | fpu | overflow => exact absurd (takeException_boundary h) hb
    | custom | noFpu | undefined => cases h

/-- RETI is privileged (R400). -/
theorem reti_userRun {s : State} (hu : s.flagU = true) : RunsInUserMode s (reti s) := by
  have hr : reti s = conclude s (.error (.trap .ill)) := by simp [reti, privileged, hu]
  exact hr ▸ conclude_userRun trivial

/-- A custom instruction traps or is the Custom Slave's (R471, R472). -/
theorem customOp_userRun {s : State} : Ensures (UserRun s) (customOp s) := by
  unfold customOp; split <;> trivial

/-- ALL THAT AN INSTRUCTION CAN DO IN USER MODE, where it ends without a trap: the updates that are left
to User mode. A privileged one stops at its first action (R503). -/
theorem exec_userRun {s : State} (hu : s.flagU = true) (i : Instr) : RunsInUserMode s (exec i s) := by
  have hs : UserRun s s := .refl hu
  have ok {x : Except Stop State} (hx : Ensures (UserRun s) x) : RunsInUserMode s (conclude s x) :=
    conclude_userRun hx
  cases i with
  | beq | bne | bcs | bcc | bhi | bls | bgt | ble | bfs | bfc | blo | bhs | blt | bge =>
    exact ok (branchIf_userRun hs ..)
  | br | nop | wait | dia => exact ok (x := .ok _) hs.registers
  | bsr => exact ok (bsr_userRun hs ..)
  | ret => exact ok (ret_userRun hs ..)
  | cxp => exact ok (.any fun _ => .any fun _ => callExternal_userRun hs ..)
  | cxpd => exact ok (.any fun _ => .any fun _ => callExternal_userRun hs ..)
  | rxp => exact ok (rxp_userRun hs ..)
  | jump => exact ok (.any fun _ => hs.registers)
  | jsr => exact ok (jsr_userRun hs ..)
  | caseb | casew | cased => exact ok (caseI_userRun hs ..)
  | acbb | acbw | acbd => exact ok (acbI_userRun hs ..)
  | save => exact ok (save_userRun hs ..)
  | restore => exact ok (restore_userRun hs ..)
  | enter => exact ok (enter_userRun hs ..)
  | exit => exact ok (exit_userRun hs ..)
  | flag => exact ok (flagTrap_userRun hs)
  | svc | bpt => exact ok (x := .error (.trap _)) trivial
  | rett | bicpsrw | bispsrw | setcfg | cinv | movsub | movsuw | movsud | movusb | movusw | movusd
  | custom16 => exact ok (.stops (privileged_stops hu))
  | reti => exact reti_userRun hu
  | rdval | wrval | lmr | smr => exact ok (.stops (needMmu_stops hu))
  | custom36 | customB6 => exact ok customOp_userRun
  | addqb | addqw | addqd => exact ok (modify_userRun hs fun _ _ ht => arithResult_userRun ht _)
  | cmpqb | cmpqw | cmpqd => exact ok (source_userRun hs fun _ _ ht => ht.compareFlags _ _)
  | lprb | lprw | lprd => exact ok (lprI_userRun hs ..)
  | sprb | sprw | sprd => exact ok (.any fun _ => store_userRun hs)
  | seqb | sneb | scsb | sccb | shib | slsb | sgtb | sleb | sfsb | sfcb | slob | shsb | sltb
  | sgeb | seqw | snew | scsw | sccw | shiw | slsw | sgtw | slew | sfsw | sfcw | slow | shsw
  | sltw | sgew | seqd | sned | scsd | sccd | shid | slsd | sgtd | sled | sfsd | sfcd | slod
  | shsd | sltd | sged | movqb | movqw | movqd => exact ok (store_userRun hs)
  | bicpsrb | bispsrb => exact ok (source_userRun hs fun _ _ ht => ht.setUpsr _)
  | adjspb | adjspw | adjspd => exact ok (source_userRun hs fun _ _ ht => ht.setSp _)
  | addb | addw | addd | subb | subw | subd | addcb | addcw | addcd | subcb | subcw | subcd =>
    exact ok (binary_userRun hs fun _ _ _ ht => arithResult_userRun ht _)
  | negb | negw | negd => exact ok (unary_userRun hs fun _ _ ht => arithResult_userRun ht _)
  | absb | absw | absd => exact ok (unary_userRun hs fun _ _ ht => ht.setF _)
  | mulb | mulw | muld => exact ok (binary_userRun hs fun _ _ _ ht => ht)
  | bicb | bicw | bicd | orb | orw | ord | andb | andw | andd | xorb | xorw | xord =>
    exact ok (logical_userRun hs ..)
  | movb | movw | movd | movxbw | movxbd | movxwd | movzbw | movzbd | movzwd | comb | comw | comd
  | notb | notw | notd => exact ok (unary_userRun hs fun _ _ ht => ht)
  | cmpb | cmpw | cmpd => exact ok (sources_userRun hs fun _ _ _ ht => ht.compareFlags _ _)
  | meib | meiw | meid => exact ok (meiI_userRun hs ..)
  | deib | deiw | deid => exact ok (deiI_userRun hs ..)
  | quob | quow | quod | remb | remw | remd | modb | modw | modd | divb | divw | divd =>
    exact ok (signedDivision_userRun hs ..)
  | rotb | rotw | rotd | ashb | ashw | ashd | lshb | lshw | lshd => exact ok (shift_userRun hs ..)
  | subpb | subpw | subpd | addpb | addpw | addpd => exact ok (packed_userRun hs ..)
  | addr | cvtp => exact ok (fromAddr_userRun fun _ => hs)
  | tbitb | tbitw | tbitd | cbitb | cbitw | cbitd | cbitib | cbitiw | cbitid | sbitb | sbitw
  | sbitd | sbitib | sbitiw | sbitid | ibitb | ibitw | ibitd => exact ok (bitOp_userRun hs ..)
  | inssb | inssw | inssd | insb | insw | insd => exact ok (insField_userRun hs ..)
  | extsb | extsw | extsd | extb | extw | extd => exact ok (extField_userRun hs ..)
  | ffsb | ffsw | ffsd => exact ok (ffsI_userRun hs ..)
  | movsb | movsw | movsd | movst | cmpsb | cmpsw | cmpsd | cmpst | skpsb | skpsw | skpsd
  | skpst => exact ok (stringElement_userRun hs ..)
  | movmb | movmw | movmd => exact ok (movmI_userRun hs ..)
  | cmpmb | cmpmw | cmpmd => exact ok (cmpmI_userRun hs ..)
  | checkb | checkw | checkd => exact ok (checkI_userRun hs ..)
  | indexb | indexw | indexd => exact ok (sources_userRun hs fun _ _ _ ht => ht.registers)
  | lfsr => exact ok (.any fun _ => source_userRun hs fun _ _ ht => ht.registers)
  | sfsr => exact ok (.any fun _ => store_userRun hs)
  | illegalFp0011 | illegalFp1001 => exact ok (.any fun _ => trivial)
  | movbf | movwf | movdf | movbl | movwl | movdl =>
    exact ok (.any fun _ => unary_userRun hs fun _ _ ht => .any fun _ => ht.registers)
  | movf | movl => exact ok (.any fun _ => unary_userRun hs fun _ _ ht => ht.registers)
  | movlf | movfl | roundfb | roundfw | roundfd | roundlb | roundlw | roundld | truncfb | truncfw
  | truncfd | trunclb | trunclw | truncld | floorfb | floorfw | floorfd | floorlb | floorlw
  | floorld => exact ok (fpUnary_userRun hs _ _ _ fun _ _ ht => .any fun _ => ht.registers)
  | negf | negl | absf | absl => exact ok (fpUnary_userRun hs _ _ _ fun _ _ ht => ht.registers)
  | addf | addl | subf | subl | mulf | mull | divf | divl | scalbf | scalbl =>
    exact ok (fpBinary_userRun hs ..)
  | dotf | dotl | polyf | polyl => exact ok (fpAccumulate_userRun hs ..)
  | cmpf | cmpl => exact ok (cmpFp_userRun hs ..)
  | logbf | logbl => exact ok (logbFp_userRun hs ..)

/-! ## Stores -/

/-- The byte at a physical address is one that translation lets User mode write (R99, R505). -/
def UserMayStore (s : State) (pa : Nat) : Prop :=
  ∃ (k : Access) (va q : Word), (k = .write ∨ k = .rmw) ∧ s.translate k true va = some q ∧
    pa = q.toNat

theorem UserUpdate.mayStore {s t : State} {pa : Nat} (h : UserUpdate s t)
    (hpa : t.mem.get pa ≠ s.mem.get pa) : UserMayStore s pa := by
  cases h with
  | registers => exact absurd rfl hpa
  | stackPointer v => rw [setSp_mem] at hpa; exact absurd rfl hpa
  | flags p h => exact absurd rfl hpa
  | store hk h =>
    obtain ⟨q, hq, rfl⟩ := writeByte_spec h
    refine ⟨_, _, q, hk, hq, ?_⟩
    by_contra hne
    exact hpa (get_set_other _ _ _ _ hne)

theorem xlate_of_updates {s t : State} (h : Relation.ReflTransGen UserUpdate s t) :
    t.xlate = s.xlate := by
  induction h with
  | refl => rfl
  | tail _ hu ih => exact hu.xlate.trans ih

/-- No update changes the parameter `Translate`, so every store of a run is one that it permits at the
start. -/
theorem mayStore_of_updates {s t : State} {pa : Nat} (h : Relation.ReflTransGen UserUpdate s t)
    (hpa : t.mem.get pa ≠ s.mem.get pa) : UserMayStore s pa := by
  induction h with
  | refl => exact absurd rfl hpa
  | @tail u t h hu ih =>
    by_cases hm : t.mem.get pa = u.mem.get pa
    · exact ih (hm ▸ hpa)
    · have hlast := hu.mayStore hm
      rwa [UserMayStore, translate_congr (xlate_of_updates h)] at hlast

end Sys2Proof.Machine

namespace Sys2Proof.Proofs

open Sys2Proof.Machine

/-- Settles O10: without a trap an instruction makes the updates that are left to User mode
(`exec_userRun`), and those store through the translation for User mode. -/
theorem userModeStoresOnlyWhereItMay : Obligations.UserModeStoresOnlyWhereItMay := by
  unfold Obligations.UserModeStoresOnlyWhereItMay
  exact fun i _ t _ hu h hb hpa => mayStore_of_updates (exec_userRun hu i t h hb).updates hpa

end Sys2Proof.Proofs
end

section
/-! A value written to memory is read back (O12): the bytes that a write stores and a read collects, with
the default `Translate` (R81, R82, R99). -/

namespace Sys2Proof.Machine

/-- With the default `Translate` an address is translated to itself (R99). -/
theorem translate_of_xlate_nil {s : State} (h : s.xlate = []) (k : Access) (u : Bool) (va : Word) :
    s.translate k u va = some va := by
  simp [State.translate, State.region, h]

/-- The j-th byte of a number, the least significant first (R81). -/
def byteOf (v j : Nat) : Byte := BitVec.ofNat 8 (v / 256 ^ j)

theorem byteOf_succ (v j : Nat) : byteOf v (j + 1) = byteOf (v / 256) j := by
  rw [byteOf, byteOf, Nat.pow_succ', Nat.div_div_eq_div_mul]

theorem byteOf_toNat {w : Nat} (v : BitVec w) (j : Nat) : byteOf v.toNat j = v.extractLsb' (8 * j) 8 := by
  rw [byteOf, BitVec.extractLsb', Nat.shiftRight_eq_div_pow, Nat.pow_mul]

/-- The j-th address from the second on. -/
theorem add_ofNat_succ (va : Word) (j : Nat) :
    va + BitVec.ofNat 32 (j + 1) = va + 1 + BitVec.ofNat 32 j := by
  rw [Nat.add_comm, BitVec.ofNat_add, BitVec.add_assoc]
  rfl

/-- Fewer than 2^32 addresses do not come back to the first. -/
theorem add_ofNat_ne {j : Nat} (va : Word) (hj : j + 1 < 2 ^ 32) :
    va.toNat ≠ (va + BitVec.ofNat 32 (j + 1)).toNat := by
  rw [BitVec.toNat_add, BitVec.toNat_ofNat]
  omega

/-- A write stores to the addresses of its bytes alone. -/
theorem writeBytes_frame {s t : State} {k : Access} {u : Bool} {n v pa : Nat} {va : Word}
    (hx : s.xlate = []) (h : State.writeBytes k u n va v s = .ok t)
    (hpa : ∀ j, j < n → pa ≠ (va + BitVec.ofNat 32 j).toNat) : t.mem.get pa = s.mem.get pa := by
  obtain ⟨-, hframe, -⟩ := writeBytes_spec h
  refine hframe pa ?_
  rintro ⟨j, q, hj, hq, e⟩
  rw [translate_of_xlate_nil hx] at hq
  cases hq
  exact hpa j hj e

/-- The first byte is stored, then the rest. -/
theorem writeBytes_succ {s : State} (hx : s.xlate = []) (k : Access) (u : Bool) (n v : Nat) (va : Word) :
    State.writeBytes k u (n + 1) va v s =
      State.writeBytes k u n (va + 1) (v / 256)
        { s with mem := s.mem.set va.toNat (byteOf v 0) } := by
  simp only [State.writeBytes, State.writeByte, translate_of_xlate_nil hx, byteOf, Nat.pow_zero,
    Nat.div_one]

/-- The bytes that a write stores: no later one falls on the first. -/
theorem writeBytes_get {s t : State} {k : Access} {u : Bool} {n v : Nat} {va : Word}
    (hx : s.xlate = []) (hm : s.mem.wf = true) (hn : n < 2 ^ 32)
    (h : State.writeBytes k u n va v s = .ok t) (j : Nat) (hj : j < n) :
    t.mem.get (va + BitVec.ofNat 32 j).toNat = byteOf v j := by
  induction n generalizing s va v j with
  | zero => omega
  | succ n ih =>
    rw [writeBytes_succ hx] at h
    have hx₁ : { s with mem := s.mem.set va.toNat (byteOf v 0) }.xlate = [] := hx
    cases j with
    | zero =>
      have hfirst := writeBytes_frame (pa := va.toNat) hx₁ h fun i hi => by
        rw [← add_ofNat_succ]; exact add_ofNat_ne va (by omega)
      rw [BitVec.add_zero, hfirst, get_set_same _ _ _ hm]
    | succ j =>
      rw [add_ofNat_succ, byteOf_succ]
      exact ih hx₁ (wf_set _ _ _ va.isLt hm) (by omega) h j (by omega)

/-- The number that a read collects. -/
theorem readBytes_of_get {s : State} {k : Access} {u : Bool} {n v : Nat} {va : Word}
    (hx : s.xlate = []) (h : ∀ j, j < n → s.mem.get (va + BitVec.ofNat 32 j).toNat = byteOf v j) :
    s.readBytes k u va n = .ok (v % 256 ^ n) := by
  induction n generalizing va v with
  | zero => simp [State.readBytes, Nat.mod_one]
  | succ n ih =>
    have h0 : s.mem.get va.toNat = byteOf v 0 := by simpa using h 0 (by omega)
    have hrest := ih (va := va + 1) (v := v / 256) fun j hj => by
      rw [← add_ofNat_succ, ← byteOf_succ]
      exact h (j + 1) (by omega)
    simp only [State.readBytes, State.readByte, translate_of_xlate_nil hx, hrest, h0]
    rw [Nat.pow_succ', Nat.mod_mul]
    simp [byteOf]

/-- A write with the default `Translate`: its bytes, a read of it, and every other byte. -/
theorem write_read {s : State} {n : Nat} (va : Word) (v : BitVec (8 * n)) (hn : n < 2 ^ 32)
    (hx : s.xlate = []) (hm : s.mem.wf = true) :
    ∃ t, s.write va v = .ok t ∧ t.read (8 * n) va = .ok v ∧
      (∀ j, j < n → t.mem.get (va + BitVec.ofNat 32 j).toNat = v.extractLsb' (8 * j) 8) ∧
      ∀ pa, (∀ j, j < n → pa ≠ (va + BitVec.ofNat 32 j).toNat) → t.mem.get pa = s.mem.get pa := by
  have hn8 : 8 * n / 8 = n := Nat.mul_div_cancel_left n (by decide)
  obtain ⟨t, ht⟩ := write_ok (accessible_of_xlate_nil s hx) va v .write s.flagU
  obtain ⟨⟨m, hmem⟩, -⟩ := write_spec ht
  have htx : t.xlate = [] := by rw [hmem]; exact hx
  rw [State.write, hn8] at ht
  have hget := writeBytes_get hx hm hn ht
  refine ⟨t, by rw [State.write, hn8]; exact ht, ?_, fun j hj => ?_,
    fun pa hpa => writeBytes_frame hx ht hpa⟩
  · have h256 : 256 ^ n = 2 ^ (8 * n) := by rw [Nat.pow_mul]
    simp only [State.read, hn8, readBytes_of_get htx hget, h256]
    rw [Nat.mod_eq_of_lt v.isLt, BitVec.ofNat_toNat, BitVec.setWidth_eq]
  · rw [hget j hj, byteOf_toNat]

end Sys2Proof.Machine

namespace Sys2Proof.Proofs

open Sys2Proof.Machine

/-- Settles O12. -/
theorem memoryReadAfterWrite : Obligations.MemoryReadAfterWrite := by
  unfold Obligations.MemoryReadAfterWrite
  intro s va n v hn hx hm
  exact write_read va v (by omega) hx hm

end Sys2Proof.Proofs
end

section
/-! Decoding reads what encoding wrote (O1): first the parts of an instruction after its basic
instruction, each parser against the bytes that the encoder writes for it (R122, R143 to R148, R159 to
R162). -/

namespace Sys2Proof

/-! ## Displacements and immediates -/

/-- A displacement is read back, but for the reserved first byte 0xE0 (R143). -/
theorem parseDisp_bytes (d : Disp) (rest : List Byte) (h : d.wellFormed = true) :
    parseDisp (d.bytes ++ rest) = .ok (d, rest) := by
  cases d with
  | d7 v =>
    have hv := v.isLt
    have hb : v.toNat % 256 = v.toNat := by omega
    simp [Disp.bytes, parseDisp, hb, hv]
  | d14 v =>
    have hv := v.isLt
    have hb : (128 + v.toNat / 256) % 256 = 128 + v.toNat / 256 := by omega
    have hval : 256 * (v.toNat / 256) + v.toNat % 256 = v.toNat := by omega
    simp [Disp.bytes, parseDisp, hb, hval]
    omega
  | d30 v =>
    have hv := v.isLt
    simp only [Disp.wellFormed, decide_eq_true_eq] at h
    have hb : (192 + v.toNat / 16777216) % 256 = 192 + v.toNat / 16777216 := by omega
    have hval : 16777216 * (v.toNat / 16777216) + 65536 * (v.toNat / 65536 % 256) +
        256 * (v.toNat / 256 % 256) + v.toNat % 256 = v.toNat := by omega
    simp [Disp.bytes, parseDisp, hb, hval, show ¬ 192 + v.toNat / 16777216 < 128 by omega,
      show 192 + v.toNat / 16777216 ≠ 224 by omega]

theorem parseImm_bytes (v : ImmVal) (rest : List Byte) :
    parseImm v.size (v.bytes ++ rest) = .ok (v, rest) := by
  have join {w k m : Nat} (v : BitVec w) (start : Nat) (h : k = start + 8) :
      v.extractLsb' k m ++ v.extractLsb' start 8 = v.extractLsb' start (m + 8) :=
    BitVec.extractLsb'_append_extractLsb'_eq_extractLsb' h
  cases v with
  | b v => rfl
  | w v =>
    have hv : v.extractLsb' 8 8 ++ v.extractLsb' 0 8 = v := by
      rw [join v 0 (by rfl)]
      exact BitVec.extractLsb'_eq_self
    exact congrArg (fun v => Except.ok (ImmVal.w v, rest)) hv
  | d v =>
    have hv : v.extractLsb' 24 8 ++ v.extractLsb' 16 8 ++ v.extractLsb' 8 8 ++ v.extractLsb' 0 8 = v := by
      rw [join v 16 (by rfl), join v 8 (by rfl), join v 0 (by rfl)]
      exact BitVec.extractLsb'_eq_self
    exact congrArg (fun v => Except.ok (ImmVal.d v, rest)) hv
  | q v =>
    have hv : v.extractLsb' 56 8 ++ v.extractLsb' 48 8 ++ v.extractLsb' 40 8 ++ v.extractLsb' 32 8 ++
        v.extractLsb' 24 8 ++ v.extractLsb' 16 8 ++ v.extractLsb' 8 8 ++ v.extractLsb' 0 8 = v := by
      rw [join v 48 (by rfl), join v 40 (by rfl), join v 32 (by rfl), join v 24 (by rfl),
        join v 16 (by rfl), join v 8 (by rfl), join v 0 (by rfl)]
      exact BitVec.extractLsb'_eq_self
    exact congrArg (fun v => Except.ok (ImmVal.q v, rest)) hv

/-! ## Modes -/

theorem withDisp_bytes (k : Disp → Mode) (d : Disp) (rest : List Byte) (h : d.wellFormed = true) :
    withDisp k (d.bytes ++ rest) = .ok (k d, rest) := by
  simp only [withDisp, parseDisp_bytes d rest h]

theorem withDisps_bytes (k : Disp → Disp → Mode) (d1 d2 : Disp) (rest : List Byte)
    (h : (d1.wellFormed && d2.wellFormed) = true) :
    withDisps k (d1.bytes ++ d2.bytes ++ rest) = .ok (k d1 d2, rest) := by
  obtain ⟨h1, h2⟩ := Bool.and_eq_true_iff.1 h
  simp only [withDisps, List.append_assoc, parseDisp_bytes d1 _ h1, parseDisp_bytes d2 rest h2]

theorem regOf_val (r : Reg) : regOf r.val = r := Fin.ofNat_val_eq_self r

/-- The codes below 28 are the modes'; those from 28 on announce an index byte (R159, R162). -/
theorem Mode.code_lt (m : Mode) : m.code < 28 := by
  cases m with
  | reg n | regRel n _ => have := n.isLt; simp only [Mode.code]; omega
  | _ => simp [Mode.code]

/-- A mode is read back from its code and its extension, where an immediate is as long as the operand
(R148, R159). -/
theorem parseMode_extension (imm : Option Size) (bad : DecodeError) (m : Mode) (rest : List Byte)
    (h : m.wellFormed imm = true) :
    parseMode imm bad m.code (m.extension ++ rest) = .ok (m, rest) := by
  cases m with
  | reg n =>
    simp only [parseMode, Mode.code, n.isLt, if_true, regOf_val]
    rfl
  | regRel n d =>
    have hn := n.isLt
    refine (if_neg (show ¬ 8 + n.val < 8 by omega)).trans
      ((if_pos (show 8 + n.val < 16 by omega)).trans ?_)
    rw [Mode.code, Nat.add_sub_cancel_left, regOf_val]
    exact withDisp_bytes _ d rest h
  | imm v =>
    obtain rfl : imm = some v.size := by simpa [Mode.wellFormed] using h
    have hv := parseImm_bytes v rest
    simp only [parseMode, Mode.code, Mode.extension, hv]
    rfl
  | tos => rfl
  | frameRel d1 d2 | stackRel d1 d2 | staticRel d1 d2 | ext d1 d2 => exact withDisps_bytes _ d1 d2 rest h
  | abs d | frame d | stack d | static d | prog d => exact withDisp_bytes _ d rest h

/-! ## General operands -/

/-- What the index byte of an operand comes to (R147). -/
def Gen.head : Gen → Head
  | .plain m => .plain m.code
  | .indexed sc m r => .indexed sc.scaleCode m.code r.val

theorem scaleOf_scaleCode (sc : Size) : scaleOf sc.scaleCode = sc := by cases sc <;> rfl

theorem Size.scaleCode_lt (sc : Size) : sc.scaleCode < 4 := by cases sc <;> decide

theorem Gen.code_lt (g : Gen) : g.code < 32 := by
  cases g with
  | plain m => have := m.code_lt; simp only [Gen.code]; omega
  | indexed sc m r => have := sc.scaleCode_lt; simp only [Gen.code]; omega

theorem parseHead_indexBytes (g : Gen) (rest : List Byte) :
    parseHead g.code (g.indexBytes ++ rest) = .ok (g.head, rest) := by
  cases g with
  | plain m => exact if_pos m.code_lt
  | indexed sc m r =>
    have hm := m.code_lt
    have hr := r.isLt
    have hbyte : (BitVec.ofNat 8 (8 * m.code + r.val)).toNat = 8 * m.code + r.val := by
      rw [BitVec.toNat_ofNat]; omega
    simp only [parseHead, Gen.code, Gen.indexBytes, Gen.head, List.cons_append, List.nil_append, hbyte]
    rw [if_neg (by omega), Nat.add_sub_cancel_left, show (8 * m.code + r.val) / 8 = m.code by omega,
      show (8 * m.code + r.val) % 8 = r.val by omega]

theorem parseExt_extension (t : Attr) (g : Gen) (rest : List Byte) (h : g.wellFormed t = true) :
    parseExt t g.head (g.extension ++ rest) = .ok (g, rest) := by
  cases g with
  | plain m => simp only [parseExt, Gen.head, Gen.extension, parseMode_extension _ _ m rest h]
  | indexed sc m r =>
    simp only [parseExt, Gen.head, Gen.extension, parseMode_extension _ _ m rest h, regOf_val,
      scaleOf_scaleCode]

/-- One operand: its index byte, then its extension (R122). -/
theorem parseGen_bytes (t : Attr) (g : Gen) (rest : List Byte) (h : g.wellFormed t = true) :
    parseGen t g.code (g.indexBytes ++ (g.extension ++ rest)) = .ok (g, rest) := by
  simp only [parseGen, parseHead_indexBytes, parseExt_extension t g rest h]

/-- Two operands: both index bytes stand before both extensions (R122). -/
theorem parseGens_bytes (ta tb : Attr) (a b : Gen) (rest : List Byte) (ha : a.wellFormed ta = true)
    (hb : b.wellFormed tb = true) :
    parseGens ta tb a.code b.code
      (a.indexBytes ++ (b.indexBytes ++ (a.extension ++ (b.extension ++ rest)))) =
      .ok ((a, b), rest) := by
  simp only [parseGens, parseHead_indexBytes, parseExt_extension ta a _ ha,
    parseExt_extension tb b rest hb]

end Sys2Proof
end

section
/-! Decoding reads what encoding wrote (O1): the basic instruction (R121, R123, R165 to R177), and an
instruction from its basic instruction and what follows it. -/

namespace Sys2Proof

open Sys2Proof.Machine (wellFormed_one wellFormed_two)

/-! ## What follows the basic instruction -/

/-- The bytes of an instruction after its basic instruction, in the order of R122. -/
def Layout.operandBytes (l : Layout) : List Byte :=
  (l.operands.flatMap fun o => o.2.indexBytes) ++ (l.operands.flatMap fun o => o.2.extension)
    ++ l.tail.flatMap Tail.bytes

theorem encode_eq (i : Instr) :
    encode i = leBytes (layout i).basic (layout i).word ++ (layout i).operandBytes := by
  simp only [encode, Layout.bytes, Layout.operandBytes, List.append_assoc]

/-- A parser reads an instruction from the bytes after its basic instruction. -/
def Reads (p : List Byte → Parse Instr) (i : Instr) : Prop :=
  ∀ rest, p ((layout i).operandBytes ++ rest) = .ok (i, rest)

/-- The decoder reads an instruction from its encoding. -/
def Decodes (i : Instr) : Prop := ∀ rest, decode (encode i ++ rest) = .ok (i, rest)

theorem decodes_of_reads {i : Instr} {p : List Byte → Parse Instr}
    (hw : ∀ bs, decode (leBytes (layout i).basic (layout i).word ++ bs) = p bs) (hp : Reads p i) :
    Decodes i := fun rest => by rw [encode_eq, List.append_assoc, hw, hp]

section
variable {i : Instr} {p : List Byte → Parse Instr} {n w : Nat} {ta tb : Attr} {a b : Gen} {d : Disp}
  {v : Byte}

theorem wellFormed_disp (h : i.wellFormed = true) (hd : Tail.disp d ∈ (layout i).tail) :
    d.wellFormed = true := by
  obtain ⟨-, htail⟩ := Bool.and_eq_true_iff.1 h
  exact List.all_eq_true.1 htail _ hd

theorem disp1_bytes (k : Disp → Instr) (rest : List Byte) (hd : d.wellFormed = true) :
    disp1 k (d.bytes ++ rest) = .ok (k d, rest) := by simp only [disp1, parseDisp_bytes d rest hd]

theorem reads_none0 (hl : layout i = ⟨n, w, [], []⟩) (hp : ∀ bs, p bs = none0 i bs) : Reads p i :=
  fun rest => by rw [hl, hp]; rfl

theorem reads_disp1 {k : Disp → Instr} (h : i.wellFormed = true) (hl : layout i = ⟨n, w, [], [.disp d]⟩)
    (hp : ∀ bs, p bs = disp1 k bs) (hi : k d = i) : Reads p i := fun rest => by
  have hd := wellFormed_disp (d := d) h (by rw [hl]; simp)
  rw [hl, hp, ← hi]
  simpa [Layout.operandBytes, Tail.bytes] using disp1_bytes k rest hd

theorem reads_byte1 {k : Byte → Instr} (hl : layout i = ⟨n, w, [], [.imm v]⟩)
    (hp : ∀ bs, p bs = byte1 k bs) (hi : k v = i) : Reads p i := fun rest => by
  rw [hl, hp, ← hi]
  rfl

theorem reads_byteDisp {k : Byte → Disp → Instr} (h : i.wellFormed = true)
    (hl : layout i = ⟨n, w, [], [.imm v, .disp d]⟩) (hp : ∀ bs, p bs = byteDisp k bs)
    (hi : k v d = i) : Reads p i := fun rest => by
  have hd := wellFormed_disp (d := d) h (by rw [hl]; simp)
  rw [hl, hp, ← hi]
  simpa [Layout.operandBytes, Tail.bytes, byteDisp, parseByte] using disp1_bytes (k v) rest hd

theorem reads_oneGen {k : Gen → Instr} (h : i.wellFormed = true) (hl : layout i = ⟨n, w, [(ta, a)], []⟩)
    (hp : ∀ bs, p bs = oneGen ta a.code bs k) (hi : k a = i) : Reads p i := fun rest => by
  have ha := wellFormed_one h (by rw [hl])
  rw [hl, hp, ← hi]
  simp [Layout.operandBytes, oneGen, parseGen_bytes ta a rest ha]

theorem reads_oneGenDisp {k : Gen → Disp → Instr} (h : i.wellFormed = true)
    (hl : layout i = ⟨n, w, [(ta, a)], [.disp d]⟩) (hp : ∀ bs, p bs = oneGenDisp ta a.code bs k)
    (hi : k a d = i) : Reads p i := fun rest => by
  have ha := wellFormed_one h (by rw [hl])
  have hd := wellFormed_disp (d := d) h (by rw [hl]; simp)
  rw [hl, hp, ← hi]
  simp [Layout.operandBytes, Tail.bytes, oneGenDisp, parseGen_bytes ta a _ ha, disp1_bytes _ rest hd]

theorem reads_twoGen {k : Gen → Gen → Instr} (h : i.wellFormed = true)
    (hl : layout i = ⟨n, w, [(ta, a), (tb, b)], []⟩)
    (hp : ∀ bs, p bs = twoGen ta tb a.code b.code bs k) (hi : k a b = i) : Reads p i := fun rest => by
  obtain ⟨ha, hb⟩ := wellFormed_two h (by rw [hl])
  rw [hl, hp, ← hi]
  simp [Layout.operandBytes, twoGen, parseGens_bytes ta tb a b rest ha hb]

theorem reads_twoGenDisp {k : Gen → Gen → Disp → Instr} (h : i.wellFormed = true)
    (hl : layout i = ⟨n, w, [(ta, a), (tb, b)], [.disp d]⟩)
    (hp : ∀ bs, p bs = twoGenDisp ta tb a.code b.code bs k) (hi : k a b d = i) :
    Reads p i := fun rest => by
  obtain ⟨ha, hb⟩ := wellFormed_two h (by rw [hl])
  have hd := wellFormed_disp (d := d) h (by rw [hl]; simp)
  rw [hl, hp, ← hi]
  simp [Layout.operandBytes, Tail.bytes, twoGenDisp, parseGens_bytes ta tb a b _ ha hb,
    disp1_bytes _ rest hd]

theorem reads_twoGenByte {k : Gen → Gen → Byte → Instr} (h : i.wellFormed = true)
    (hl : layout i = ⟨n, w, [(ta, a), (tb, b)], [.imm v]⟩)
    (hp : ∀ bs, p bs = twoGenByte ta tb a.code b.code bs k) (hi : k a b v = i) :
    Reads p i := fun rest => by
  obtain ⟨ha, hb⟩ := wellFormed_two h (by rw [hl])
  rw [hl, hp, ← hi]
  simp [Layout.operandBytes, Tail.bytes, twoGenByte, parseGens_bytes ta tb a b _ ha hb, byte1, parseByte]

end

/-! ## Basic instructions -/

theorem decode_leBytes_two {w : Nat} (bs : List Byte) (hw : w < 65536) (h : w % 4 ≠ 2) :
    decode (leBytes 2 w ++ bs) = decodeTwo w bs := by
  have hval : w % 256 + 256 * (w / 256 % 256) = w := by omega
  simp [leBytes, decode, hval, h]

theorem decode_leBytes_three {w : Nat} (bs : List Byte) (hw : w < 16777216)
    (h : isThreeByte (w % 256) = true) :
    decode (leBytes 3 w ++ bs) = decodeThree (w % 256) (w / 256) bs := by
  have hval : w / 256 % 256 + 256 * (w / 256 / 256 % 256) = w / 256 := by omega
  have hfirst : ∀ n, isThreeByte n = true → n % 4 = 2 ∧ n % 16 ≠ 10 ∧ n % 16 ≠ 2 := by
    intro n hn
    have : n ∈ [0x0E, 0x4E, 0xCE, 0x2E, 0x6E, 0xAE, 0xEE, 0x3E, 0xBE, 0xFE, 0x1E] := by
      simpa [isThreeByte] using hn
    fin_cases this <;> decide
  obtain ⟨h4, h10, h2⟩ := hfirst _ h
  rw [Nat.mod_mod_of_dvd _ (by decide)] at h4 h10 h2
  simp [leBytes, decode, hval, h, h4, h10, h2]

section
variable {i : Instr} {n w q : Nat} {ta tb : Attr} {a b : Gen} {tail : List Tail}

/-- Formats 0 and 1, and the custom instructions (R165, R166). -/
theorem decodes_one (hl : layout i = layOne w tail)
    (hp : Reads (fun bs => decode (BitVec.ofNat 8 w :: bs)) i) : Decodes i :=
  decodes_of_reads (fun bs => by rw [hl]; rfl) hp

/-- A basic instruction of two bytes. -/
theorem decodes_two {ops : List (Attr × Gen)} (hl : layout i = ⟨2, w, ops, tail⟩) (hw : w < 65536)
    (h2 : w % 4 ≠ 2) (hp : Reads (decodeTwo w) i) : Decodes i :=
  decodes_of_reads (fun bs => by rw [hl]; exact decode_leBytes_two bs hw h2) hp

/-- Format 2 (R167). -/
theorem decodes_fmt2 (hl : layout i = layQuick w q ta a tail) (hq : q < 16)
    (hw : w < 112 ∧ w % 16 / 4 = 3 ∧ w % 4 ≠ 2) (hp : Reads (decodeFmt2 (w / 16) (w % 4) q a.code) i) :
    Decodes i := by
  have ha := a.code_lt
  refine decodes_two hl (by omega) (by omega) ?_
  have e : decodeTwo (w + 128 * q + 2048 * a.code) = decodeFmt2 (w / 16) (w % 4) q a.code := by
    funext bs
    rw [decodeTwo, if_neg (by omega), if_pos (by omega)]
    congr 1 <;> omega
  rwa [e]

/-- Scondi (R311). -/
theorem decodes_scond (hl : layout i = layGen w ta a)
    (hw : w < 2048 ∧ w % 16 / 4 = 3 ∧ w / 16 % 8 = 3 ∧ w % 4 ≠ 2)
    (hp : Reads (decodeScond (w % 4) (w / 128) a.code) i) : Decodes i := by
  refine decodes_fmt2 (w := w % 128) (ta := ta) (a := a) (q := w / 128) (tail := []) ?_ (by omega) (by omega) ?_
  · rw [hl, layGen, layQuick, Nat.mod_add_div]
  · rwa [show w % 128 / 16 = 3 by omega, show w % 128 % 4 = w % 4 by omega]

/-- Format 3 (R168). -/
theorem decodes_fmt3 (hl : layout i = layGen w ta a)
    (hw : w < 2048 ∧ w % 16 / 4 = 3 ∧ w / 16 % 8 = 7 ∧ w % 4 ≠ 2)
    (hp : Reads (decodeFmt3 (w / 128) (w % 4) a.code) i) : Decodes i := by
  have ha := a.code_lt
  refine decodes_two hl (by omega) (by omega) ?_
  have e : decodeTwo (w + 2048 * a.code) = decodeFmt3 (w / 128) (w % 4) a.code := by
    funext bs
    rw [decodeTwo, if_neg (by omega), if_neg (by omega)]
    congr 1 <;> omega
  rwa [e]

/-- Format 4 (R169). -/
theorem decodes_fmt4 (hl : layout i = layTwo w ta tb a b) (hw : w < 64 ∧ w / 4 % 4 ≠ 3 ∧ w % 4 ≠ 2)
    (hp : Reads (decodeFmt4 (w / 4) (w % 4) a.code b.code) i) : Decodes i := by
  have ha := a.code_lt
  have hb := b.code_lt
  refine decodes_two hl (by omega) (by omega) ?_
  have e : decodeTwo (w + 64 * b.code + 2048 * a.code) = decodeFmt4 (w / 4) (w % 4) a.code b.code := by
    funext bs
    rw [decodeTwo, if_pos (by omega)]
    congr 1 <;> omega
  rwa [e]

/-- A basic instruction of three bytes. -/
theorem decodes_three {ops : List (Attr × Gen)} (hl : layout i = ⟨3, w, ops, tail⟩)
    (hw : w < 16777216) (hn : w % 256 = n) (h3 : isThreeByte n = true)
    (hp : Reads (decodeThree n (w / 256)) i) : Decodes i := by
  subst hn
  exact decodes_of_reads (fun bs => by rw [hl]; exact decode_leBytes_three bs hw h3) hp

/-- Formats 6 to 12: two general operands, with gen codes `c₁` and `c₂` (R171 to R176). -/
theorem decodes_long {ops : List (Attr × Gen)} {c₁ c₂ : Nat}
    (hl : layout i = ⟨3, w + 16384 * c₂ + 524288 * c₁, ops, tail⟩) (h₁ : c₁ < 32) (h₂ : c₂ < 32)
    (hw : w < 16384) (hn : w % 256 = n) (h3 : isThreeByte n = true)
    (hp : Reads (decodeThree n (w / 256 + 64 * c₂ + 2048 * c₁)) i) : Decodes i := by
  refine decodes_three (n := n) hl (by omega) (by omega) h3 ?_
  rwa [show (w + 16384 * c₂ + 524288 * c₁) / 256 = w / 256 + 64 * c₂ + 2048 * c₁ by omega]

end

end Sys2Proof
end

section
/-! Decoding reads what encoding wrote (O1): the formats of three bytes (R170 to R177), then every
instruction. -/

namespace Sys2Proof

/-! ## The fields of a three-byte basic instruction -/

section
variable {v c₁ c₂ : Nat}

/-- The fields of the second and third byte, where two gen codes stand above the six low bits (R171 to
R176). -/
theorem long_fields (hv : v < 64) (h₂ : c₂ < 32) :
    (v + 64 * c₂ + 2048 * c₁) % 4 = v % 4 ∧ (v + 64 * c₂ + 2048 * c₁) / 4 % 16 = v / 4 ∧
    (v + 64 * c₂ + 2048 * c₁) / 4 % 2 = v / 4 % 2 ∧ (v + 64 * c₂ + 2048 * c₁) / 8 % 8 = v / 8 ∧
    (v + 64 * c₂ + 2048 * c₁) / 64 % 32 = c₂ ∧ (v + 64 * c₂ + 2048 * c₁) / 2048 = c₁ := by omega

theorem decodeThree_fmt6 (hv : v < 64) (h₂ : c₂ < 32) :
    decodeThree 0x4E (v + 64 * c₂ + 2048 * c₁) = decodeFmt6 (v / 4) (v % 4) c₁ c₂ := by
  obtain ⟨e₁, e₂, -, -, e₅, e₆⟩ := long_fields (c₁ := c₁) hv h₂
  funext bs
  simp only [decodeThree, e₁, e₂, e₅, e₆]

theorem decodeThree_fmt7 (hv : v < 64) (h₂ : c₂ < 32) :
    decodeThree 0xCE (v + 64 * c₂ + 2048 * c₁) = decodeFmt7 (v / 4) (v % 4) c₁ c₂ := by
  obtain ⟨e₁, e₂, -, -, e₅, e₆⟩ := long_fields (c₁ := c₁) hv h₂
  funext bs
  simp only [decodeThree, e₁, e₂, e₅, e₆]

/-- The two high bits of the first byte are part of the opcode (R173). -/
theorem decodeThree_fmt8 {k : Nat} (hk : k < 4) (hv : v < 64) (h₂ : c₂ < 32) :
    decodeThree (0x2E + 64 * k) (v + 64 * c₂ + 2048 * c₁) =
      decodeFmt8 (4 * (v / 4 % 2) + k) (v % 4) (v / 8) c₁ c₂ := by
  obtain ⟨e₁, -, e₃, e₄, e₅, e₆⟩ := long_fields (c₁ := c₁) hv h₂
  funext bs
  interval_cases k <;> simp only [decodeThree, e₁, e₃, e₄, e₅, e₆]

theorem decodeThree_fmt9 (hv : v < 64) (h₂ : c₂ < 32) :
    decodeThree 0x3E (v + 64 * c₂ + 2048 * c₁) = decodeFmt9 (v / 8) (v / 4 % 2) (v % 4) c₁ c₂ := by
  obtain ⟨e₁, -, e₃, e₄, e₅, e₆⟩ := long_fields (c₁ := c₁) hv h₂
  funext bs
  simp only [decodeThree, e₁, e₃, e₄, e₅, e₆]

theorem decodeThree_fmt11 (hv : v < 64) (h₂ : c₂ < 32) :
    decodeThree 0xBE (v + 64 * c₂ + 2048 * c₁) = decodeFmt11 (v / 4) (v % 4) c₁ c₂ := by
  obtain ⟨e₁, e₂, -, -, e₅, e₆⟩ := long_fields (c₁ := c₁) hv h₂
  funext bs
  simp only [decodeThree, e₁, e₂, e₅, e₆]

theorem decodeThree_fmt12 (hv : v < 64) (h₂ : c₂ < 32) :
    decodeThree 0xFE (v + 64 * c₂ + 2048 * c₁) = decodeFmt12 (v / 4) (v % 4) c₁ c₂ := by
  obtain ⟨e₁, e₂, -, -, e₅, e₆⟩ := long_fields (c₁ := c₁) hv h₂
  funext bs
  simp only [decodeThree, e₁, e₂, e₅, e₆]

end

/-! ## Formats -/

section
variable {i : Instr} {w : Nat} {ta tb : Attr} {a b : Gen} {r : Reg} {tail : List Tail}

theorem decodes_fmt6 (hl : layout i = layTwoLong w ta tb a b tail) (hw : w < 16384 ∧ w % 256 = 0x4E)
    (hp : Reads (decodeFmt6 (w / 256 / 4) (w / 256 % 4) a.code b.code) i) : Decodes i :=
  decodes_long hl a.code_lt b.code_lt hw.1 hw.2 rfl
    (by rwa [decodeThree_fmt6 (by omega) b.code_lt])

theorem decodes_fmt7 (hl : layout i = layTwoLong w ta tb a b tail) (hw : w < 16384 ∧ w % 256 = 0xCE)
    (hp : Reads (decodeFmt7 (w / 256 / 4) (w / 256 % 4) a.code b.code) i) : Decodes i :=
  decodes_long hl a.code_lt b.code_lt hw.1 hw.2 rfl
    (by rwa [decodeThree_fmt7 (by omega) b.code_lt])

theorem decodes_fmt8 (hl : layout i = layTwoLong w ta tb a b tail) (hw : w < 16384 ∧ w % 64 = 0x2E)
    (hp : Reads (decodeFmt8 (4 * (w / 1024 % 2) + w % 256 / 64) (w / 256 % 4) (w / 2048) a.code b.code) i) :
    Decodes i := by
  obtain ⟨hw, hn⟩ := hw
  have h3 : ∀ k < 4, isThreeByte (0x2E + 64 * k) = true := by decide
  refine decodes_long (n := 0x2E + 64 * (w % 256 / 64)) hl a.code_lt b.code_lt hw (by omega)
    (h3 _ (by omega)) ?_
  rwa [decodeThree_fmt8 (by omega) (by omega) b.code_lt, show w / 256 / 4 % 2 = w / 1024 % 2 by omega,
    show w / 256 / 8 = w / 2048 by omega]

/-- Format 8 with a register in the reg field (R173). -/
theorem decodes_fmt8_reg (hl : layout i = layTwoLong (w + 2048 * r.val) ta tb a b tail)
    (hw : w < 2048 ∧ w % 64 = 0x2E)
    (hp : Reads (decodeFmt8 (4 * (w / 1024) + w % 256 / 64) (w / 256 % 4) r.val a.code b.code) i) :
    Decodes i := by
  have hr := r.isLt
  refine decodes_fmt8 hl (by omega) ?_
  rwa [show (w + 2048 * r.val) / 1024 % 2 = w / 1024 by omega,
    show (w + 2048 * r.val) % 256 = w % 256 by omega,
    show (w + 2048 * r.val) / 256 % 4 = w / 256 % 4 by omega,
    show (w + 2048 * r.val) / 2048 = r.val by omega]

theorem decodes_fmt9 (hl : layout i = layTwoLong w ta tb a b tail) (hw : w < 16384 ∧ w % 256 = 0x3E)
    (hp : Reads (decodeFmt9 (w / 256 / 8) (w / 256 / 4 % 2) (w / 256 % 4) a.code b.code) i) :
    Decodes i :=
  decodes_long hl a.code_lt b.code_lt hw.1 hw.2 rfl
    (by rwa [decodeThree_fmt9 (by omega) b.code_lt])

theorem decodes_fmt11 (hl : layout i = layTwoLong w ta tb a b tail) (hw : w < 16384 ∧ w % 256 = 0xBE)
    (hp : Reads (decodeFmt11 (w / 256 / 4) (w / 256 % 4) a.code b.code) i) : Decodes i :=
  decodes_long hl a.code_lt b.code_lt hw.1 hw.2 rfl
    (by rwa [decodeThree_fmt11 (by omega) b.code_lt])

theorem decodes_fmt12 (hl : layout i = layTwoLong w ta tb a b tail) (hw : w < 16384 ∧ w % 256 = 0xFE)
    (hp : Reads (decodeFmt12 (w / 256 / 4) (w / 256 % 4) a.code b.code) i) : Decodes i :=
  decodes_long hl a.code_lt b.code_lt hw.1 hw.2 rfl
    (by rwa [decodeThree_fmt12 (by omega) b.code_lt])

/-- Format 14: the gen code stands above the short field (R177). -/
theorem decodes_fmt14 (hl : layout i = layGenLong w ta a)
    (hw : w < 524288 ∧ w % 256 = 0x1E ∧ w / 16384 % 2 = 0)
    (hp : Reads (decodeFmt14 (w / 1024 % 16) (w / 256 % 4) (w / 32768) a.code) i) : Decodes i := by
  have ha := a.code_lt
  obtain ⟨hw, hn, hz⟩ := hw
  refine decodes_three (n := 0x1E) hl (by omega) (by omega) rfl ?_
  have e : decodeThree 0x1E ((w + 524288 * a.code) / 256) =
      decodeFmt14 (w / 1024 % 16) (w / 256 % 4) (w / 32768) a.code := by
    have e₁ : (w + 524288 * a.code) / 256 % 4 = w / 256 % 4 := by omega
    have e₂ : (w + 524288 * a.code) / 256 / 4 % 16 = w / 1024 % 16 := by omega
    have e₃ : (w + 524288 * a.code) / 256 / 64 % 2 = 0 := by omega
    have e₄ : (w + 524288 * a.code) / 256 / 128 % 16 = w / 32768 := by omega
    have e₅ : (w + 524288 * a.code) / 256 / 2048 = a.code := by omega
    funext bs
    simp only [decodeThree, e₁, e₂, e₃, e₄, e₅]
    rfl
  rwa [e]

/-- The string instructions, whose every field is given (R170). -/
theorem decodes_string (hl : layout i = layBare w) (hw : w < 16777216 ∧ w % 256 = 0x0E)
    (hp : ∀ bs, decodeThree 0x0E (w / 256) bs = none0 i bs) : Decodes i :=
  decodes_three hl hw.1 hw.2 rfl (reads_none0 hl hp)

end

/-! ## Single instructions -/

theorem decodes_setcfg (k : BitVec 4) : Decodes (.setcfg k) := by
  have hk := k.isLt
  refine decodes_three (n := 0x0E) rfl (by omega) (by omega) rfl (reads_none0 rfl fun bs => ?_)
  have e : (0x000B0E + 32768 * k.toNat) / 256 = 0x0B + 128 * k.toNat := by omega
  have e₁ : (0x0B + 128 * k.toNat) % 4 = 3 := by omega
  have e₂ : (0x0B + 128 * k.toNat) / 4 % 16 = 2 := by omega
  have e₃ : (0x0B + 128 * k.toNat) / 64 % 2 = 0 := by omega
  have e₄ : (0x0B + 128 * k.toNat) / 128 % 16 = k.toNat := by omega
  have e₅ : (0x0B + 128 * k.toNat) / 2048 = 0 := by omega
  simp only [e, decodeThree, e₁, e₂, e₃, e₄, e₅, decodeFmt5, onlyD, fixedField, BitVec.ofNat_toNat,
    BitVec.setWidth_eq]
  rfl

/-- The two formats that the floating-point unit rejects keep their fields (R183). -/
theorem decodes_illegalFp {i : Instr} {w : Nat} {c₁ c₂ : BitVec 5} {lo : BitVec 2}
    (hl : layout i = layBare (w + 256 * lo.toNat + 16384 * c₂.toNat + 524288 * c₁.toNat))
    (hw : w < 15360 ∧ w % 1024 = 0xBE)
    (hp : ∀ bs, decodeFmt11 (w / 1024) lo.toNat c₁.toNat c₂.toNat bs = none0 i bs) : Decodes i := by
  have hlo := lo.isLt
  have h₁ := c₁.isLt
  have h₂ := c₂.isLt
  refine decodes_long (n := 0xBE) hl h₁ h₂ (by omega) (by omega) rfl ?_
  rw [decodeThree_fmt11 (by omega) h₂, show (w + 256 * lo.toNat) / 256 / 4 = w / 1024 by omega,
    show (w + 256 * lo.toNat) / 256 % 4 = lo.toNat by omega]
  exact reads_none0 hl hp

theorem decodes_lfsr {g : Gen} (h : (Instr.lfsr g).wellFormed = true) : Decodes (.lfsr g) := by
  refine decodes_long (w := 0x000F3E) (n := 0x3E) (c₁ := g.code) (c₂ := 0) rfl g.code_lt (by decide)
    (by decide) rfl rfl ?_
  rw [decodeThree_fmt9 (by decide) (by decide)]
  exact reads_oneGen h rfl (fun _ => rfl) rfl

theorem decodes_sfsr {g : Gen} (h : (Instr.sfsr g).wellFormed = true) : Decodes (.sfsr g) := by
  refine decodes_long (w := 0x00373E) (n := 0x3E) (c₁ := 0) (c₂ := g.code) rfl (by decide) g.code_lt
    (by decide) rfl rfl ?_
  rw [decodeThree_fmt9 (by decide) g.code_lt]
  exact reads_oneGen h rfl (fun _ => rfl) rfl

theorem ProcReg.code_lt (r : ProcReg) : r.code < 16 := by cases r <;> decide

theorem procRegOf_code (r : ProcReg) : procRegOf r.code = some r := by cases r <;> rfl

end Sys2Proof
end

section
/-! Every instruction is decoded from its encoding (O1). -/

namespace Sys2Proof

theorem decodes_all (i : Instr) (h : i.wellFormed = true) : Decodes i := by
  cases i with
  | beq | bne | bcs | bcc | bhi | bls | bgt | ble | bfs | bfc | blo | bhs | blt | bge | br | bsr | ret
  | cxp | rxp | rett => exact decodes_one rfl (reads_disp1 h rfl (fun _ => rfl) rfl)
  | reti | nop | wait | dia | flag | svc | bpt | custom16 | custom36 | customB6 =>
    exact decodes_one rfl (reads_none0 rfl fun _ => rfl)
  | save | restore | exit => exact decodes_one rfl (reads_byte1 rfl (fun _ => rfl) rfl)
  | enter => exact decodes_one rfl (reads_byteDisp h rfl (fun _ => rfl) rfl)
  | addqb q | addqw q | addqd q | cmpqb q | cmpqw q | cmpqd q | movqb q | movqw q | movqd q =>
    exact decodes_fmt2 rfl q.isLt (by decide) (reads_oneGen h rfl (fun _ => rfl) (by simp))
  | acbb q | acbw q | acbd q =>
    exact decodes_fmt2 rfl q.isLt (by decide) (reads_oneGenDisp h rfl (fun _ => rfl) (by simp))
  | sprb r | sprw r | sprd r | lprb r | lprw r | lprd r =>
    refine decodes_fmt2 rfl r.code_lt (by decide) (reads_oneGen h rfl (fun _ => ?_) rfl)
    simp only [decodeFmt2, procRegOf_code, named]
    rfl
  | seqb | sneb | scsb | sccb | shib | slsb | sgtb | sleb | sfsb | sfcb | slob | shsb | sltb
  | sgeb | seqw | snew | scsw | sccw | shiw | slsw | sgtw | slew | sfsw | sfcw | slow | shsw
  | sltw | sgew | seqd | sned | scsd | sccd | shid | slsd | sgtd | sled | sfsd | sfcd | slod
  | shsd | sltd | sged =>
    exact decodes_scond rfl (by decide) (reads_oneGen h rfl (fun _ => rfl) rfl)
  | cxpd | bicpsrb | bicpsrw | jump | bispsrb | bispsrw | adjspb | adjspw | adjspd | jsr | caseb
  | casew | cased => exact decodes_fmt3 rfl (by decide) (reads_oneGen h rfl (fun _ => rfl) rfl)
  | addb | addw | addd | cmpb | cmpw | cmpd | bicb | bicw | bicd | addcb | addcw | addcd | movb | movw
  | movd | orb | orw | ord | subb | subw | subd | addr | andb | andw | andd | subcb | subcw | subcd
  | tbitb | tbitw | tbitd | xorb | xorw | xord =>
    exact decodes_fmt4 rfl (by decide) (reads_twoGen h rfl (fun _ => rfl) rfl)
  | movsb u bk | movsw u bk | movsd u bk | movst u bk | cmpsb u bk | cmpsw u bk | cmpsd u bk
  | cmpst u bk | skpsb u bk | skpsw u bk | skpsd u bk | skpst u bk =>
    cases u <;> cases bk <;> exact decodes_string rfl (by decide) fun _ => rfl
  | setcfg k => exact decodes_setcfg k
  | rotb | rotw | rotd | ashb | ashw | ashd | cbitb | cbitw | cbitd | cbitib | cbitiw | cbitid | lshb
  | lshw | lshd | sbitb | sbitw | sbitd | sbitib | sbitiw | sbitid | negb | negw | negd | notb | notw
  | notd | subpb | subpw | subpd | absb | absw | absd | comb | comw | comd | ibitb | ibitw | ibitd
  | addpb | addpw | addpd =>
    exact decodes_fmt6 rfl (by decide) (reads_twoGen h rfl (fun _ => rfl) rfl)
  | movmb | movmw | movmd | cmpmb | cmpmw | cmpmd =>
    exact decodes_fmt7 rfl (by decide) (reads_twoGenDisp h rfl (fun _ => rfl) rfl)
  | inssb | inssw | inssd | extsb | extsw | extsd =>
    exact decodes_fmt7 rfl (by decide) (reads_twoGenByte h rfl (fun _ => rfl) rfl)
  | movxbw | movzbw | movzbd | movzwd | movxbd | movxwd | mulb | mulw | muld | meib | meiw | meid
  | deib | deiw | deid | quob | quow | quod | remb | remw | remd | modb | modw | modd | divb | divw
  | divd => exact decodes_fmt7 rfl (by decide) (reads_twoGen h rfl (fun _ => rfl) rfl)
  | extb r | extw r | extd r | insb r | insw r | insd r =>
    exact decodes_fmt8_reg rfl (by decide) (reads_twoGenDisp h rfl (fun _ => rfl) (by rw [regOf_val]))
  | cvtp r | checkb r | checkw r | checkd r | indexb r | indexw r | indexd r =>
    exact decodes_fmt8_reg rfl (by decide) (reads_twoGen h rfl (fun _ => rfl) (by rw [regOf_val]))
  | ffsb | ffsw | ffsd | movsub | movsuw | movsud | movusb | movusw | movusd =>
    exact decodes_fmt8 rfl (by decide) (reads_twoGen h rfl (fun _ => rfl) rfl)
  | movbf | movwf | movdf | movbl | movwl | movdl | movlf | movfl | roundfb | roundfw | roundfd
  | roundlb | roundlw | roundld | truncfb | truncfw | truncfd | trunclb | trunclw | truncld | floorfb
  | floorfw | floorfd | floorlb | floorlw | floorld =>
    exact decodes_fmt9 rfl (by decide) (reads_twoGen h rfl (fun _ => rfl) rfl)
  | lfsr => exact decodes_lfsr h
  | sfsr => exact decodes_sfsr h
  | addf | addl | movf | movl | cmpf | cmpl | subf | subl | negf | negl | divf | divl | mulf | mull
  | absf | absl => exact decodes_fmt11 rfl (by decide) (reads_twoGen h rfl (fun _ => rfl) rfl)
  | polyf | polyl | dotf | dotl | scalbf | scalbl | logbf | logbl =>
    exact decodes_fmt12 rfl (by decide) (reads_twoGen h rfl (fun _ => rfl) rfl)
  | illegalFp0011 c₁ c₂ lo => exact decodes_illegalFp rfl (by decide) fun _ => by simp [decodeFmt11]
  | illegalFp1001 c₁ c₂ lo => exact decodes_illegalFp rfl (by decide) fun _ => by simp [decodeFmt11]
  | rdval | wrval => exact decodes_fmt14 rfl (by decide) (reads_oneGen h rfl (fun _ => rfl) rfl)
  | lmr r | smr r =>
    cases r <;> exact decodes_fmt14 rfl (by decide) (reads_oneGen h rfl (fun _ => rfl) rfl)
  | cinv al ic dc =>
    cases al <;> cases ic <;> cases dc <;>
      exact decodes_fmt14 rfl (by decide) (reads_oneGen h rfl (fun _ => rfl) rfl)

end Sys2Proof

namespace Sys2Proof.Proofs

/-- Settles O1: each format's word gives its fields back, and each parser the operand that the encoder
wrote. -/
theorem decodeReadsWhatEncodeWrites : Obligations.DecodeReadsWhatEncodeWrites := by
  unfold Obligations.DecodeReadsWhatEncodeWrites
  exact fun i rest h => decodes_all i h rest

end Sys2Proof.Proofs
end

section
/-! The words that the spec prints (O2), the step that runs a decoded instruction (O6) and the effective
addresses (O14). -/

namespace Sys2Proof

/-- A word that is an instruction's encoding decodes to it and leaves nothing. -/
theorem decode_of_encode_eq {i : Instr} {bs : List Byte} (h : i.wellFormed = true)
    (he : encode i = bs) : decode bs = .ok (i, []) := by
  rw [← he, ← List.append_nil (encode i)]
  exact decodes_all i h []

end Sys2Proof

namespace Sys2Proof.Machine

/-! ## A step -/

/-- What a fetch delivers depends on PC, PSR.U, the parameter `Translate` and memory alone. -/
theorem fetchBytes_congr {s t : State} (hp : t.flagU = s.flagU) (hx : t.xlate = s.xlate)
    (hm : t.mem = s.mem) (n : Nat) (a : Word) : fetchBytes t n a = fetchBytes s n a := by
  induction n generalizing a with
  | zero => rfl
  | succ n ih => simp only [fetchBytes, State.readByte, hp, translate_congr hx, hm, ih]

theorem latchTrace_flagU (s : State) : (latchTrace s).flagU = s.flagU := by
  unfold latchTrace State.setFlag State.flagU putBit
  split <;> simp

theorem fetchDecode_latchTrace {s : State} {i : Instr} {rest : List Byte}
    (h : decode (fetchBytes s maxLength s.pc).1 = .ok (i, rest)) :
    fetchDecode (latchTrace s) = .ok i := by
  have hf : fetchBytes (latchTrace s) maxLength (latchTrace s).pc = fetchBytes s maxLength s.pc :=
    fetchBytes_congr (latchTrace_flagU s) rfl rfl _ _
  simp only [fetchDecode, hf, h]

/-- Where a decoded instruction stands at PC, a step is its execution and the boundary. -/
theorem step_of_decode {s : State} {i : Instr} {rest : List Byte} (hr : s.resetRequest = false)
    (hw : s.waiting = false) (he : s.entryFault = false)
    (h : decode (fetchBytes s maxLength s.pc).1 = .ok (i, rest)) :
    step s = settle (exec i (latchTrace s)) := by
  simp only [step, hr, hw, he, Bool.false_eq_true, if_false, fetchDecode_latchTrace h]

theorem acceptInterrupt_of_none {s : State} (hn : s.nmiPending = false) (hi : s.intRequest = false)
    (image : BitVec 16) (o : Host.Outcome State Fault Refusal) : acceptInterrupt s image o = o := by
  simp [acceptInterrupt, hn, hi]

theorem settle_trapped {t : State} (hb : t.boundary = .trapped) : settle (.next t) = .next t := by
  simp only [settle, atBoundary, hb]

theorem settle_element {t : State} (hn : t.nmiPending = false) (hi : t.intRequest = false)
    (hb : t.boundary = .element) : settle (.next t) = .next t := by
  simp only [settle, atBoundary, hb, acceptInterrupt_of_none hn hi]

theorem settle_done {t : State} (hn : t.nmiPending = false) (hi : t.intRequest = false)
    (hb : t.boundary = .done) (hp : t.flagP = false) : settle (.next t) = .next t := by
  simp only [settle, atBoundary, hb, acceptInterrupt_of_none hn hi, hp, Bool.false_eq_true, if_false]

/-! ## Addresses -/

/-- A mode that reads a pointer and adds a displacement to it. -/
theorem pointer_ok {s : State} (hs : s.accessible) (a d : Word) :
    ∃ p, s.read 32 a = .ok p ∧
      (do let p ← s.read 32 a; Except.ok (p + d)) = (.ok (p + d) : Except Stop Word) := by
  obtain ⟨p, hp⟩ := read_ok hs 32 a .read s.flagU
  exact ⟨p, hp, by rw [hp]; rfl⟩

/-- The pointers that External mode reads: the link table's address, then the link table's entry (R157). -/
theorem external_ok {s : State} (hs : s.accessible) (spi : Word) (d1 d2 : Disp) :
    ∃ lb p, s.read 32 (s.mod.setWidth 32 + 4) = .ok lb ∧
      s.read 32 (lb + 4 * dispValue d1) = .ok p ∧
      modeAddr spi s (.ext d1 d2) = .ok (p + dispValue d2) := by
  obtain ⟨lb, hlb⟩ := read_ok hs 32 (s.mod.setWidth 32 + 4) .read s.flagU
  obtain ⟨p, hp, h⟩ := pointer_ok hs (lb + 4 * dispValue d1) (dispValue d2)
  refine ⟨lb, p, hlb, hp, ?_⟩
  change (s.read 32 (s.mod.setWidth 32 + 4)).bind _ = _
  rw [hlb]
  exact h

theorem genAddr_indexed {s : State} {spi a : Word} {m : Mode} (sc : Size) (r : Reg)
    (h : modeAddr spi s m = .ok a) :
    genAddr spi s (.indexed sc m r) = .ok (a + s.reg r * BitVec.ofNat 32 sc.bytes) := by
  simp only [genAddr, h]
  rfl

end Sys2Proof.Machine

namespace Sys2Proof.Proofs

open Sys2Proof.Machine

/-- Settles O2: each word is the encoding of the instruction that it stands for. -/
theorem sampleWordsDecode : Obligations.SampleWordsDecode := by
  unfold Obligations.SampleWordsDecode
  refine ⟨?_, ?_, ?_, ?_, ?_, ?_, ?_, ?_⟩ <;> exact decode_of_encode_eq (by decide) (by decide)

/-- Settles O6. -/
theorem stepRunsTheDecodedInstruction : Obligations.StepRunsTheDecodedInstruction := by
  unfold Obligations.StepRunsTheDecodedInstruction
  intro s i rest hr hw he _ hdec
  have hstep := step_of_decode hr hw he hdec
  refine ⟨hstep, fun t ht => ?_⟩
  have hnext : step s = settle (.next t) := hstep.trans (congrArg settle ht)
  rw [hnext]
  exact ⟨settle_trapped, settle_element, settle_done⟩

/-- Settles O14: an address in a register or from PC at once, and one behind pointers by reading them;
each displacement is sign-extended. -/
theorem addressesOfTheModes : Obligations.AddressesOfTheModes := by
  unfold Obligations.AddressesOfTheModes
  intro s spi n r d d1 d2 sc m hs
  refine ⟨rfl, rfl, pointer_ok hs _ _, pointer_ok hs _ _, pointer_ok hs _ _, rfl,
    external_ok hs spi d1 d2, rfl, rfl, rfl, rfl, rfl, fun a ha => genAddr_indexed sc r ha,
    fun v => ?_, fun v => ?_, fun v => ?_⟩ <;>
  exact BitVec.toInt_signExtend_of_le (by decide)

end Sys2Proof.Proofs
end

section
/-! How operands are read and written (O15): registers and their parts, pairs, the two views of the
floating-point registers, memory and the stack. -/

namespace Sys2Proof

/-- The modes whose operand lies in memory at their address, in every access class (R153 to R160). -/
def Mode.inMemory : Mode → Prop
  | .reg _ | .tos | .imm _ => False
  | _ => True

theorem Mode.inMemory_of_ne {m : Mode} (hr : ∀ n, m ≠ .reg n) (ht : m ≠ .tos) (hi : ∀ v, m ≠ .imm v) :
    m.inMemory := by
  cases m with
  | reg n => exact hr n rfl
  | tos => exact ht rfl
  | imm v => exact hi v rfl
  | _ => trivial

/-- An operand that is found through its address: a mode in memory, or Scaled Indexing (R162). -/
def Gen.inMemory : Gen → Prop
  | .plain m => m.inMemory
  | .indexed _ _ _ => True

end Sys2Proof

namespace Sys2Proof.Machine

/-! ## Operands in memory -/

/-- Each class evaluates the address of an operand in memory once. -/
theorem operand_eq_of_inMemory {g : Gen} (hg : g.inMemory) (f : File) (w : Nat) (spi : Word) (s : State) :
    readGen f w spi g s = (do let a ← genAddr spi s g; let v ← s.read w a; Except.ok (v, s)) ∧
    writeLoc f spi g s = (do let a ← genAddr spi s g; Except.ok (.mem a .write)) ∧
    rmwLoc f spi g s = (do let a ← genAddr spi s g; Except.ok (.mem a .rmw)) := by
  cases g with
  | indexed sc m r => exact ⟨rfl, rfl, rfl⟩
  | plain m =>
    cases m with
    | reg n | tos | imm v => exact hg.elim
    | _ => exact ⟨rfl, rfl, rfl⟩

/-- An operand in memory is read, written and modified at its address (R131 to R133). -/
theorem operand_of_inMemory {s : State} {spi a : Word} {g : Gen} {w : Nat} {v : BitVec w} (f : File)
    (hg : g.inMemory) (ha : genAddr spi s g = .ok a) (hv : s.read w a = .ok v) :
    readGen f w spi g s = .ok (v, s) ∧ writeLoc f spi g s = .ok (.mem a .write) ∧
      rmwLoc f spi g s = .ok (.mem a .rmw) := by
  obtain ⟨hread, hwrite, hrmw⟩ := operand_eq_of_inMemory hg f w spi s
  rw [hread, hwrite, hrmw, ha]
  refine ⟨?_, rfl, rfl⟩
  change (s.read w a).bind _ = _
  rw [hv]
  rfl

theorem readGen_tos {s : State} {w : Nat} {v : BitVec w} (f : File) (spi : Word)
    (h : s.read w s.sp = .ok v) :
    readGen f w spi (.plain .tos) s = .ok (v, s.setSp (s.sp + BitVec.ofNat 32 (w / 8))) := by
  change s.pop w = _
  rw [State.pop, h]

theorem readAt_mem {s : State} {w : Nat} {v : BitVec w} {ea : Word} {k : Access}
    (h : s.read w ea k s.flagU = .ok v) : readAt w (.mem ea k) s = .ok (v, s) := by
  change (s.read w ea k).bind _ = _
  rw [h]
  rfl

/-- A push is in the mode and on the stack of the state before it (R90). -/
theorem writeAt_push {w : Nat} (v : BitVec w) (s : State) :
    writeAt .push v s = (s.setSp (s.sp - BitVec.ofNat 32 (w / 8))).write
      (s.sp - BitVec.ofNat 32 (w / 8)) v .write s.flagU := by
  have hu : (s.setSp (s.sp - BitVec.ofNat 32 (w / 8))).flagU = s.flagU := by simp [State.flagU]
  rw [← hu]
  rfl

theorem sp_of_flagS {s : State} (h : s.flagS = true) : s.sp = s.sp1 := by simp [State.sp, h]

theorem sp_of_not_flagS {s : State} (h : s.flagS = false) : s.sp = s.sp0 := by simp [State.sp, h]

/-! ## Register pairs -/

/-- A pair has its least significant half in the even register (R152). -/
theorem readReg_pair_even {r : Reg} (hr : r.val % 2 = 0) (w : Nat) (s : State) :
    readReg (2 * w) s .pair r =
      (((s.reg (r + 1)).setWidth w ++ (s.reg r).setWidth w).setWidth (2 * w), s) := by
  have hw : 2 * w / 2 = w := by omega
  rw [readReg, if_pos hr, hw, pairHigh]

theorem readReg_pair_odd {r : Reg} (hr : r.val % 2 = 1) (w : Nat) (s : State) :
    readReg w s .pair r = s.draw w := if_neg (by omega)

theorem writeAt_pair_odd {w : Nat} {r : Reg} (hr : r.val % 2 = 1) (v : BitVec w) (s : State) :
    writeAt (.pair r) v s = .ok s.drawRegs :=
  congrArg Except.ok (if_neg (by omega))

/-! ## Parts of a general register -/

/-- The low w bits are replaced and the others stay (R21). -/
theorem lowPart_toNat {w : Nat} (hw : w ≤ 32) (old : Word) (v : BitVec w) :
    (lowPart old v).toNat = v.toNat + old.toNat / 2 ^ w * 2 ^ w := by
  have hshift : (old.toNat >>> w) <<< w < 2 ^ 32 := by
    rw [Nat.shiftRight_eq_div_pow, Nat.shiftLeft_eq]
    exact Nat.lt_of_le_of_lt (Nat.div_mul_le_self _ _) old.isLt
  have hv : v.toNat < 2 ^ 32 := Nat.lt_of_lt_of_le v.isLt (Nat.pow_le_pow_right (by decide) hw)
  rw [lowPart, BitVec.toNat_or, BitVec.toNat_shiftLeft, BitVec.toNat_ushiftRight, BitVec.toNat_setWidth,
    Nat.mod_eq_of_lt hshift, Nat.mod_eq_of_lt hv, ← Nat.shiftLeft_add_eq_or_of_lt v.isLt,
    Nat.shiftLeft_eq, Nat.shiftRight_eq_div_pow, Nat.add_comm]

theorem lowPart_setWidth {w : Nat} (hw : w ≤ 32) (old : Word) (v : BitVec w) :
    (lowPart old v).setWidth w = v := by
  apply BitVec.eq_of_toNat_eq
  rw [BitVec.toNat_setWidth, lowPart_toNat hw, Nat.add_mul_mod_self_right, Nat.mod_eq_of_lt v.isLt]

theorem reg_setRegLow_same {w : Nat} (s : State) (r : Reg) (v : BitVec w) :
    (s.setRegLow r v).reg r = lowPart (s.reg r) v := reg_setReg_same s r _

/-- A write of the low bits of a register, and what is read back (R21, R151). -/
theorem writeAt_reg {w : Nat} (hw : w ≤ 32) (s : State) (r q : Reg) (v : BitVec w) :
    ∃ t, writeAt (.reg r) v s = .ok t ∧ t = { s with regs := t.regs } ∧
      (t.reg r).toNat = v.toNat + (s.reg r).toNat / 2 ^ w * 2 ^ w ∧ (q ≠ r → t.reg q = s.reg q) ∧
      readAt w (.reg r) t = .ok (v, t) := by
  have hr := reg_setRegLow_same s r v
  refine ⟨s.setRegLow r v, rfl, rfl, ?_, reg_setRegLow_other s r q v, ?_⟩
  · rw [hr, lowPart_toNat hw]
  · rw [readAt, readReg, hr, lowPart_setWidth hw]

theorem succ_ne_self (r : Reg) : r + 1 ≠ r := by revert r; decide

theorem writePair_even {w : Nat} {r : Reg} (hr : r.val % 2 = 0) (s : State) (u : BitVec (2 * w)) :
    writePair s r u = (s.setRegLow r (u.extractLsb' 0 w)).setRegLow (r + 1) (u.extractLsb' w w) := by
  have hw : 2 * w / 2 = w := by omega
  rw [writePair, if_pos hr, hw, pairHigh]

/-- Two halves make the whole. -/
theorem halves_append {w : Nat} (u : BitVec (2 * w)) :
    (u.extractLsb' w w ++ u.extractLsb' 0 w).setWidth (2 * w) = u := by
  rw [BitVec.extractLsb'_append_extractLsb'_eq_extractLsb' (by omega)]
  ext i hi
  simp [show i < w + w by omega, BitVec.getLsbD_eq_getElem hi]

/-- A write of a pair named by its even register, and what is read back (R152). -/
theorem writeAt_pair_even {w : Nat} (hw : w ≤ 32) (s : State) {r : Reg} (hr : r.val % 2 = 0) (q : Reg)
    (u : BitVec (2 * w)) :
    ∃ t, writeAt (.pair r) u s = .ok t ∧ t = { s with regs := t.regs } ∧
      (t.reg r).toNat = u.toNat % 2 ^ w + (s.reg r).toNat / 2 ^ w * 2 ^ w ∧
      (t.reg (r + 1)).toNat = u.toNat / 2 ^ w + (s.reg (r + 1)).toNat / 2 ^ w * 2 ^ w ∧
      (q ≠ r → q ≠ r + 1 → t.reg q = s.reg q) ∧ readAt (2 * w) (.pair r) t = .ok (u, t) := by
  have hu : u.toNat / 2 ^ w < 2 ^ w := by
    rw [Nat.div_lt_iff_lt_mul (Nat.two_pow_pos w), ← Nat.pow_add, ← Nat.two_mul]
    exact u.isLt
  have hlow : (writePair s r u).reg r = lowPart (s.reg r) (u.extractLsb' 0 w) := by
    rw [writePair_even hr, reg_setRegLow_other _ _ _ _ (succ_ne_self r).symm, reg_setRegLow_same]
  have hhigh : (writePair s r u).reg (r + 1) = lowPart (s.reg (r + 1)) (u.extractLsb' w w) := by
    rw [writePair_even hr, reg_setRegLow_same, reg_setRegLow_other _ _ _ _ (succ_ne_self r)]
  refine ⟨writePair s r u, rfl, ?_, ?_, ?_, fun h h' => ?_, ?_⟩
  · rw [writePair_even hr]; rfl
  · rw [hlow, lowPart_toNat hw, BitVec.extractLsb'_toNat, Nat.shiftRight_zero]
  · rw [hhigh, lowPart_toNat hw, BitVec.extractLsb'_toNat, Nat.shiftRight_eq_div_pow, Nat.mod_eq_of_lt hu]
  · rw [writePair_even hr, reg_setRegLow_other _ _ _ _ h', reg_setRegLow_other _ _ _ _ h]
  · rw [readAt, readReg_pair_even hr, hlow, hhigh, lowPart_setWidth hw, lowPart_setWidth hw,
      halves_append]

/-! ## Floating-point registers -/

theorem fsrSetRMB_eq (f : Word) : fsrSetRMB f = f ||| 0x00010000 := rfl

theorem fd_set_get (fd : Vector Quad 8) (e q : Reg) (v : Quad) :
    (fd.set e v)[q] = if q = e then v else fd[q] := by
  by_cases h : q = e
  · subst h; simp
  · have h' : e.val ≠ q.val := fun he => h (Fin.ext he.symm)
    simp [h, h']

theorem evenOf_even {r : Reg} (h : r.val % 2 = 0) : evenOf r = r := by revert r; decide

/-- A single-precision register is half of the 64-bit register of the even number (R58). -/
theorem freg_single (s : State) (r : Reg) :
    s.freg 32 r = if r.val % 2 = 0 then (s.fd[evenOf r]).extractLsb' 0 32
      else (s.fd[evenOf r]).extractLsb' 32 32 := by
  change (s.freg32 r).setWidth 32 = _
  rw [BitVec.setWidth_eq, State.freg32]
  split
  · next h => simp only [evenOf_even h]
  · rfl

theorem freg_double (s : State) (r : Reg) : s.freg 64 r = s.fd[r] := BitVec.setWidth_eq _

/-- A 64-bit value with one half replaced: the low one, or the high one. -/
def replaceHalf (low : Bool) (old : Quad) (x : BitVec 32) : Quad :=
  if low then old.extractLsb' 32 32 ++ x else x ++ old.extractLsb' 0 32

theorem replaceHalf_low (low : Bool) (old : Quad) (x : BitVec 32) :
    (replaceHalf low old x).extractLsb' 0 32 = if low then x else old.extractLsb' 0 32 := by
  cases low <;> exact BitVec.extractLsb'_append_eq_right

theorem replaceHalf_high (low : Bool) (old : Quad) (x : BitVec 32) :
    (replaceHalf low old x).extractLsb' 32 32 = if low then old.extractLsb' 32 32 else x := by
  cases low <;> exact BitVec.extractLsb'_append_eq_left

/-- A single-precision write replaces one half of the 64-bit register of the even number (R58). -/
theorem setFreg_single (s : State) (r : Reg) (x : BitVec 32) :
    s.setFreg r x = { s with
      fd := s.fd.set (evenOf r) (replaceHalf (r.val % 2 == 0) s.fd[evenOf r] x)
      fsr := s.fsr ||| 0x00010000 } := by
  by_cases h : r.val % 2 = 0 <;> simp [State.setFreg, replaceHalf, h, fsrSetRMB_eq]

theorem setFreg_double (s : State) (r : Reg) (d : BitVec 64) :
    s.setFreg r d = { s with fd := s.fd.set r d, fsr := s.fsr ||| 0x00010000 } := by
  simp [State.setFreg, fsrSetRMB_eq]

theorem evenOf_of_pair {r q : Reg} (hq : q.val + 1 = r.val) (hr : r.val % 2 = 1) : q = evenOf r := by
  revert r q; decide

/-- Two numbers of the same parity that lie in the same 64-bit register are equal. -/
theorem eq_of_evenOf_eq {r q : Reg} (h : evenOf q = evenOf r) (hp : q.val % 2 = r.val % 2) : q = r := by
  revert r q; decide

/-- A single-precision write in each view of the registers (R58, R67). -/
theorem writeAt_freg_single (s : State) (r q : Reg) (x : BitVec 32) :
    ∃ t, writeAt (.freg r) x s = .ok t ∧ t = { s with fd := t.fd, fsr := s.fsr ||| 0x00010000 } ∧
      t.freg 32 r = x ∧ (q ≠ r → t.freg 32 q = s.freg 32 q) ∧
      (r.val % 2 = 0 → t.freg 64 r = (s.freg 64 r).extractLsb' 32 32 ++ x) ∧
      (q.val + 1 = r.val → r.val % 2 = 1 → t.freg 64 q = x ++ (s.freg 64 q).extractLsb' 0 32) := by
  refine ⟨_, congrArg Except.ok (setFreg_single s r x), rfl, ?_, fun hq => ?_, fun hr => ?_,
    fun hq hr => ?_⟩
  · by_cases hr : r.val % 2 = 0 <;>
      simp [freg_single, replaceHalf_low, replaceHalf_high, hr]
  · by_cases he : evenOf q = evenOf r
    · have hp : q.val % 2 ≠ r.val % 2 := fun hp => hq (eq_of_evenOf_eq he hp)
      by_cases hr : r.val % 2 = 0
      · simp [freg_single, replaceHalf_high, he, hr, show q.val % 2 ≠ 0 by omega]
      · simp [freg_single, replaceHalf_low, he, hr, show q.val % 2 = 0 by omega]
    · simp only [freg_single, fd_set_get, he, if_false]
  · simp [freg_double, evenOf_even hr, replaceHalf, hr]
  · simp [freg_double, evenOf_of_pair hq hr, replaceHalf, hr]

/-- A double-precision write in each view of the registers (R58, R67). -/
theorem writeAt_freg_double (s : State) (r q : Reg) (d : BitVec 64) :
    ∃ t, writeAt (.freg r) d s = .ok t ∧ t = { s with fd := t.fd, fsr := s.fsr ||| 0x00010000 } ∧
      t.freg 64 r = d ∧ (q ≠ r → t.freg 64 q = s.freg 64 q) ∧
      (r.val % 2 = 0 → t.freg 32 r = d.extractLsb' 0 32 ∧ t.freg 32 (r + 1) = d.extractLsb' 32 32) := by
  refine ⟨_, congrArg Except.ok (setFreg_double s r d), rfl, ?_, fun hq => ?_, fun hr => ?_⟩
  · simp [freg_double]
  · simp only [freg_double, fd_set_get, hq, if_false]
  · have hodd : (r + 1).val % 2 = 1 ∧ evenOf (r + 1) = r := by revert r; decide
    simp [freg_single, evenOf_even hr, hr, hodd]

end Sys2Proof.Machine

namespace Sys2Proof.Proofs

open Sys2Proof.Machine

/-- Settles O15. -/
theorem operandsAreReadAndWritten : Obligations.OperandsAreReadAndWritten := by
  unfold Obligations.OperandsAreReadAndWritten
  refine ⟨?_, ?_, ?_⟩
  · intro f w spi s r rx iv m sc k ea
    refine ⟨rfl, rfl, fun hr => congrArg Except.ok (readReg_pair_even hr w s), rfl,
      fun v hv => readGen_tos f spi hv, fun hr ht hi a v ha hv => ?_, fun a v ha hv => ?_,
      rfl, rfl, rfl, rfl, rfl, rfl, rfl, rfl, rfl,
      fun hr => congrArg Except.ok (readReg_pair_even hr w s),
      fun hr => congrArg Except.ok (readReg_pair_odd hr w s), fun v hv => readAt_mem hv,
      fun v => rfl, fun v => writeAt_push v s, fun v hr => ⟨_, _, writeAt_pair_odd hr v s⟩,
      setSp_sp s spi, sp_of_flagS, sp_of_not_flagS⟩
    · exact operand_of_inMemory f (g := .plain m) (Mode.inMemory_of_ne hr ht hi) ha hv
    · exact operand_of_inMemory f (g := .indexed sc m rx) trivial (genAddr_indexed sc rx ha) hv
  · intro s r q w v u hw
    have hw : w ≤ 32 := by omega
    exact ⟨writeAt_reg hw s r q v, fun hr => writeAt_pair_even hw s hr q u⟩
  · exact fun s r q x d => ⟨writeAt_freg_single s r q x, writeAt_freg_double s r q d⟩

end Sys2Proof.Proofs
end

section
/-! The instructions that store nothing (O17): what each leaves of memory, CFG and the floating-point
registers. -/

namespace Sys2Proof.Machine

/-! ## Completion -/

/-- Where an outcome is a next state in which no trap was taken, `R` holds of it. -/
def OnCompletion (R : State → Prop) (o : Host.Outcome State Fault Refusal) : Prop :=
  ∀ t, o = .next t → t.boundary ≠ .trapped → R t

/-- A body that stops ends in a trap or in no next state. -/
theorem conclude_onCompletion {R : State → Prop} {s : State} {x : Except Stop State}
    (hx : Ensures R x) : OnCompletion R (conclude s x) := by
  intro t h hb
  cases x with
  | ok t' => cases h; exact hx
  | error e =>
    cases e with
    | trap | abort | fpu | overflow => exact absurd (takeException_boundary h) hb
    | custom | noFpu | undefined => cases h

/-! ## What is stored -/

/-- The parts of the state that the instructions of O17 leave as they are. -/
def State.stored (s : State) : Memory × Word × Vector Quad 8 := (s.mem, s.cfg, s.fd)

@[simp] theorem stored_setSp (s : State) (v : Word) : (s.setSp v).stored = s.stored := by
  simp [State.stored]

/-- Everything stored is as in `s₀`. -/
def SameStored (s₀ t : State) : Prop := t.stored = s₀.stored

theorem SameStored.setSp {s₀ s : State} (h : SameStored s₀ s) (v : Word) : SameStored s₀ (s.setSp v) :=
  (stored_setSp s v).trans h

theorem SameStored.compareFlags {s₀ s : State} (h : SameStored s₀ s) {w : Nat} (a b : BitVec w) :
    SameStored s₀ (s.compareFlags a b) := h

theorem ovfTrap_sameStored {s₀ s : State} (hs : SameStored s₀ s) (b : Bool) :
    Ensures (SameStored s₀) (ovfTrap b s) := by
  unfold ovfTrap; split; exacts [trivial, hs]

section
variable {s₀ s : State} (hs : SameStored s₀ s) (w len : Nat) (a b : Gen)
include hs

theorem readGen_sameStored (f : File) (spi : Word) (g : Gen) :
    Ensures (fun p => SameStored s₀ p.2) (readGen f w spi g s) :=
  ensures_iff.2 fun ⟨x, t⟩ h => by
    obtain rfl | ⟨-, rfl⟩ | ⟨r, -, -, -, rfl⟩ := readGen_spec h
    exacts [hs, hs.setSp _, hs]

theorem pop_sameStored : Ensures (fun p => SameStored s₀ p.2) (s.pop w) :=
  ensures_iff.2 fun ⟨v, t⟩ h => by
    obtain ⟨-, rfl⟩ := pop_spec h
    exact hs.setSp _

/-! ## Shapes -/

/-- One source that is read, and an operation whose result `R` is not concerned with PC. -/
theorem source_ensures {R : State → Prop} {fa : File} {op : BitVec w → State → Except Stop State}
    (hR : ∀ t, R t → R (t.advance len)) (hop : ∀ x t, SameStored s₀ t → Ensures R (op x t)) :
    Ensures R (source fa w len a s op) :=
  (readGen_sameStored hs _ _ _ _).bind fun _ h₁ => (hop _ _ h₁).bind fun _ h₂ => hR _ h₂

theorem sources_ensures {R : State → Prop} {fa fb : File} {wb : Nat}
    {op : BitVec w → BitVec wb → State → Except Stop State} (hR : ∀ t, R t → R (t.advance len))
    (hop : ∀ x y t, SameStored s₀ t → Ensures R (op x y t)) :
    Ensures R (sources fa fb w wb len a b s op) :=
  (readGen_sameStored hs _ _ _ _).bind fun _ h₁ => (readGen_sameStored h₁ _ _ _ _).bind fun _ h₂ =>
    (hop _ _ _ h₂).bind fun _ h₃ => hR _ h₃

theorem source_sameStored {fa : File} {op : BitVec w → State → Except Stop State}
    (hop : ∀ x t, SameStored s₀ t → Ensures (SameStored s₀) (op x t)) :
    Ensures (SameStored s₀) (source fa w len a s op) := source_ensures hs w len a (fun _ h => h) hop

theorem sources_sameStored {fa fb : File} {wb : Nat}
    {op : BitVec w → BitVec wb → State → Except Stop State}
    (hop : ∀ x y t, SameStored s₀ t → Ensures (SameStored s₀) (op x y t)) :
    Ensures (SameStored s₀) (sources fa fb w wb len a b s op) :=
  sources_ensures hs w len a b (fun _ h => h) hop

/-! ## The meanings -/

theorem branchIf_sameStored (c : Cond) (d : Disp) : Ensures (SameStored s₀) (branchIf c len d s) := by
  unfold branchIf; split <;> exact hs

theorem flagTrap_sameStored : Ensures (SameStored s₀) (flagTrap s) := by
  unfold flagTrap; split; exacts [trivial, hs]

theorem ret_sameStored (d : Disp) : Ensures (SameStored s₀) (ret d s) := .any fun _ => hs.setSp _

theorem rxp_sameStored (d : Disp) : Ensures (SameStored s₀) (rxp d s) :=
  .any fun _ => .any fun _ => .any fun _ => hs.setSp _

theorem returnFromException_sameStored (extra : Word) :
    Ensures (SameStored s₀) (returnFromException s extra) := by
  refine .any fun t => .any fun m => .any fun p => ?_
  have hp : ∀ u v, SameStored s₀ (((s.setSp u).setPsr p).setSp v) := fun u v =>
    SameStored.setSp (s := (s.setSp u).setPsr p) (hs.setSp u) v
  split
  · exact hp _ _
  · exact .any fun _ => hp _ _

theorem popList_sameStored (l : BitVec 8) (k : Nat) : Ensures (SameStored s₀) (popList l k s) := by
  induction k generalizing s with
  | zero => exact hs
  | succ k ih =>
    unfold popList
    split
    · exact (pop_sameStored hs 32).bind fun p h₁ => ih (s := p.2.setReg (regOf k) p.1) h₁
    · exact ih hs

theorem restore_sameStored (l : BitVec 8) : Ensures (SameStored s₀) (restore len l s) :=
  (popList_sameStored hs l 8).bind fun _ h₁ => h₁

theorem exit_sameStored (l : BitVec 8) : Ensures (SameStored s₀) (exit len l s) :=
  (popList_sameStored hs l 8).bind fun _ h₁ => (pop_sameStored (h₁.setSp _) 32).bind fun _ h₂ => h₂

theorem loadMmu_sameStored (r : MmuReg) (v : Word) : SameStored s₀ (loadMmu s r v) := by
  cases r <;> exact hs

theorem validateI_sameStored (k : Access) : Ensures (SameStored s₀) (validateI k len a s) := by
  refine .any fun _ => .any fun ea => ?_
  cases s.validate k ea with
  | abort => trivial
  | allowed | denied => exact hs

theorem tbitI_sameStored : Ensures (SameStored s₀) (tbitI w len a b s) := by
  refine (readGen_sameStored hs _ _ _ _).bind fun x h₁ => .any fun base => ?_
  cases base with
  | reg r => dsimp only; split <;> exact h₁
  | mem ea => exact .any fun _ => h₁

theorem limitReached_sameStored : SameStored s₀ (limitReached s).2 := by
  unfold limitReached
  split
  · exact hs
  · split <;> exact hs

theorem terminate_sameStored (f : Bool) : SameStored s₀ (terminate s f) := hs

theorem nextElement_sameStored (kind : StringKind) (back : Bool) :
    SameStored s₀ (nextElement w kind back s) := by
  cases kind <;> exact hs

/-- The string instructions but MOVS write no element (R356, R357). -/
theorem elementTail_sameStored {kind : StringKind} (hk : kind ≠ .movs) (u : Until) (back : Bool)
    (x : BitVec w) : Ensures (SameStored s₀) (elementTail kind w u back x s) := by
  unfold elementTail
  split
  · exact hs
  · cases kind with
    | movs => exact absurd rfl hk
    | cmps =>
      refine .any fun y => ?_
      have h₁ := hs.compareFlags x y
      dsimp only
      split; exacts [nextElement_sameStored h₁ _ _ _, terminate_sameStored h₁ _]
    | skps => exact nextElement_sameStored hs _ _ _

theorem stringElement_sameStored {kind : StringKind} (hk : kind ≠ .movs) (u : Until) (back t : Bool) :
    Ensures (SameStored s₀) (stringElement kind w u back t s) := by
  have h₀ : SameStored s₀ (if kind = .cmps then s.setZNL true false false else s) := by
    split <;> exact hs
  have h₁ := limitReached_sameStored h₀
  rw [stringElement_eq]
  dsimp only
  generalize limitReached (if kind = .cmps then s.setZNL true false false else s) = r at h₁
  split
  · exact h₁
  · refine .any fun x => ?_
    split
    · exact .any fun y => elementTail_sameStored h₁ w hk _ _ _
    · exact elementTail_sameStored h₁ w hk _ _ _

theorem blockCount_sameStored (n : Nat) (d : Disp) : SameStored s₀ (blockCount n d s).2 := by
  unfold blockCount
  dsimp only
  split <;> exact hs

theorem compareElements_sameStored (k : Nat) (p q : Word) :
    Ensures (SameStored s₀) (compareElements w k p q s) := by
  induction k generalizing p q with
  | zero => exact hs
  | succ k ih =>
    refine .any fun x => .any fun y => ?_
    split; exacts [ih _ _, hs.compareFlags x y]

theorem cmpmI_sameStored (d : Disp) : Ensures (SameStored s₀) (cmpmI w len a b d s) :=
  .any fun _ => .any fun _ =>
    (compareElements_sameStored (blockCount_sameStored hs (w / 8) d) w _ _ _).bind fun _ h₁ => h₁

theorem checkI_sameStored (r : Reg) : Ensures (SameStored s₀) (checkI w len r a b s) := by
  refine .any fun ea => (readGen_sameStored hs _ _ _ _).bind fun x h₁ => .any fun up => .any fun lo => ?_
  dsimp only
  split
  · exact ovfTrap_sameStored (s := (((x.2.setF _).draw 32).2.setReg r _).advance len) h₁ _
  · exact h₁

theorem cmpFp_sameStored : Ensures (SameStored s₀) (cmpFp w len a b s) :=
  .any fun _ => sources_sameStored hs w len a b fun _ _ _ ht => .any fun _ => ht

/-! ## The instructions that load CFG or F0 -/

/-- LPRi changes CFG only where it names it (R431). -/
theorem lprI_keeps (r : ProcReg) :
    Ensures (fun t => t.mem = s₀.mem ∧ (r ≠ .cfg → t.cfg = s₀.cfg) ∧ t.fd = s₀.fd)
      (lprI w len r a s) := by
  refine .any fun _ => source_ensures hs w len a (fun _ h => h) fun x t ht => ?_
  obtain ⟨hm, hc, hf⟩ : t.mem = s₀.mem ∧ t.cfg = s₀.cfg ∧ t.fd = s₀.fd := by
    simpa [SameStored, State.stored] using ht
  cases r with
  | cfg => exact ⟨hm, fun h => absurd rfl h, hf⟩
  | psr =>
    simp only [loadProc]
    split <;> exact ⟨hm, fun _ => hc, hf⟩
  | sp =>
    refine ⟨?_, fun _ => ?_, ?_⟩
    · rw [loadProc, setSp_mem, hm]
    · rw [loadProc, setSp_cfg, hc]
    · rw [loadProc, setSp_fd, hf]
  | _ => exact ⟨hm, fun _ => hc, hf⟩

theorem fpAccumulate_keeps
    (f : Word → BitVec w → BitVec w → BitVec w → Except Stop (BitVec w × Word)) :
    Ensures (fun t => t.mem = s₀.mem ∧ t.cfg = s₀.cfg) (fpAccumulate w len a b s f) :=
  .any fun _ => sources_ensures hs w len a b (fun _ h => h) fun _ _ t ht => .any fun _ => .any fun _ => by
    obtain ⟨hm, hc, -⟩ : t.mem = s₀.mem ∧ t.cfg = s₀.cfg ∧ t.fd = s₀.fd := by
      simpa [SameStored, State.stored] using ht
    exact ⟨hm, hc⟩

end

/-! ## Every instruction that stores nothing -/

/-- What O17 says of the states before and after an instruction. -/
def KeepsStored (i : Instr) (s t : State) : Prop :=
  t.mem = s.mem ∧
  ((∀ k, i ≠ .setcfg k) → (∀ g, i ≠ .lprb .cfg g ∧ i ≠ .lprw .cfg g ∧ i ≠ .lprd .cfg g) →
    t.cfg = s.cfg) ∧
  ((∀ a b, i ≠ .dotf a b ∧ i ≠ .dotl a b ∧ i ≠ .polyf a b ∧ i ≠ .polyl a b) → t.fd = s.fd)

theorem SameStored.keeps {s t : State} (h : SameStored s t) (i : Instr) : KeepsStored i s t := by
  obtain ⟨hm, hc, hf⟩ : t.mem = s.mem ∧ t.cfg = s.cfg ∧ t.fd = s.fd := by
    simpa [SameStored, State.stored] using h
  exact ⟨hm, fun _ _ => hc, fun _ => hf⟩

theorem Ensures.mono {α : Type} {P Q : α → Prop} {x : Except Stop α} (hx : Ensures P x)
    (h : ∀ a, P a → Q a) : Ensures Q x := by
  cases x with
  | ok a => exact h a hx
  | error e => trivial

theorem OnCompletion.mono {P Q : State → Prop} {o : Host.Outcome State Fault Refusal}
    (ho : OnCompletion P o) (h : ∀ t, P t → Q t) : OnCompletion Q o :=
  fun t ht hb => h t (ho t ht hb)

theorem reti_sameStored (s : State) : OnCompletion (SameStored s) (reti s) := by
  unfold reti
  split
  · exact conclude_onCompletion (x := .error _) trivial
  · exact conclude_onCompletion (returnFromException_sameStored (s := endOfInterrupt s) rfl 0)

theorem exec_keepsStored {i : Instr} (hi : storesNothing i) (s : State) :
    OnCompletion (KeepsStored i s) (exec i s) := by
  have hs : SameStored s s := rfl
  have ok {x : Except Stop State} (hx : Ensures (SameStored s) x) :
      OnCompletion (KeepsStored i s) (conclude s x) :=
    (conclude_onCompletion hx).mono fun _ h => h.keeps i
  have lpr {w len : Nat} {r : ProcReg} {g : Gen}
      (hr : (∀ g, i ≠ .lprb .cfg g ∧ i ≠ .lprw .cfg g ∧ i ≠ .lprd .cfg g) → r ≠ .cfg) :
      OnCompletion (KeepsStored i s) (conclude s (lprI w len r g s)) :=
    (conclude_onCompletion (lprI_keeps hs w len g r)).mono fun _ ⟨hm, hc, hf⟩ =>
      ⟨hm, fun _ h => hc (hr h), fun _ => hf⟩
  have accumulate {w len : Nat} {a b : Gen}
      {f : Word → BitVec w → BitVec w → BitVec w → Except Stop (BitVec w × Word)}
      (hf : ¬ ∀ a b, i ≠ .dotf a b ∧ i ≠ .dotl a b ∧ i ≠ .polyf a b ∧ i ≠ .polyl a b) :
      OnCompletion (KeepsStored i s) (conclude s (fpAccumulate w len a b s f)) :=
    (conclude_onCompletion (fpAccumulate_keeps hs w len a b f)).mono fun _ ⟨hm, hc⟩ =>
      ⟨hm, fun _ _ => hc, fun h => absurd h hf⟩
  cases i with
  | reti => exact (reti_sameStored s).mono fun _ h => h.keeps _
  | nop | wait | dia | br => exact ok (x := .ok _) hs
  | flag => exact ok (flagTrap_sameStored hs)
  | ret => exact ok (ret_sameStored hs _)
  | rxp => exact ok (rxp_sameStored hs _)
  | rett => exact ok (.any fun _ => returnFromException_sameStored hs _)
  | restore => exact ok (restore_sameStored hs _ _)
  | exit => exact ok (exit_sameStored hs _ _)
  | beq | bne | bcs | bcc | bhi | bls | bgt | ble | bfs | bfc | blo | bhs | blt | bge =>
    exact ok (branchIf_sameStored hs ..)
  | jump => exact ok (.any fun _ => hs)
  | caseb | casew | cased => exact ok ((readGen_sameStored hs _ _ _ _).bind fun _ h₁ => h₁)
  | bicpsrb | bispsrb => exact ok (source_sameStored hs _ _ _ fun _ _ ht => ht)
  | cmpqb | cmpqw | cmpqd => exact ok (source_sameStored hs _ _ _ fun _ _ ht => ht.compareFlags _ _)
  | bicpsrw | bispsrw | lfsr | cinv =>
    exact ok (.any fun _ => source_sameStored hs _ _ _ fun _ _ ht => ht)
  | adjspb | adjspw | adjspd => exact ok (source_sameStored hs _ _ _ fun _ _ ht => ht.setSp _)
  | lmr r => exact ok (.any fun _ => source_sameStored hs _ _ _ fun _ _ ht => loadMmu_sameStored ht r _)
  | setcfg k =>
    refine conclude_onCompletion (.any fun _ => ?_)
    exact ⟨rfl, fun h => absurd rfl (h k), fun _ => rfl⟩
  | lprb r g => exact lpr fun h hr => (h g).1 (by rw [hr])
  | lprw r g => exact lpr fun h hr => (h g).2.1 (by rw [hr])
  | lprd r g => exact lpr fun h hr => (h g).2.2 (by rw [hr])
  | rdval | wrval => exact ok (validateI_sameStored hs ..)
  | cmpb | cmpw | cmpd => exact ok (sources_sameStored hs _ _ _ _ fun _ _ _ ht => ht.compareFlags _ _)
  | indexb | indexw | indexd => exact ok (sources_sameStored hs _ _ _ _ fun _ _ _ ht => ht)
  | tbitb | tbitw | tbitd => exact ok (tbitI_sameStored hs ..)
  | cmpsb | cmpsw | cmpsd | cmpst | skpsb | skpsw | skpsd | skpst =>
    exact ok (stringElement_sameStored hs _ (by decide) _ _ _)
  | cmpmb | cmpmw | cmpmd => exact ok (cmpmI_sameStored hs ..)
  | checkb | checkw | checkd => exact ok (checkI_sameStored hs ..)
  | cmpf | cmpl => exact ok (cmpFp_sameStored hs ..)
  | dotf a b => exact accumulate fun h => (h a b).1 rfl
  | dotl a b => exact accumulate fun h => (h a b).2.1 rfl
  | polyf a b => exact accumulate fun h => (h a b).2.2.1 rfl
  | polyl a b => exact accumulate fun h => (h a b).2.2.2 rfl
  | _ => exact (show False from hi).elim

end Sys2Proof.Machine

namespace Sys2Proof.Proofs

open Sys2Proof.Machine

/-- Settles O17. -/
theorem otherInstructionsStoreNothing : Obligations.OtherInstructionsStoreNothing := by
  unfold Obligations.OtherInstructionsStoreNothing
  exact fun i s t hi h hb => exec_keepsStored hi s t h hb

end Sys2Proof.Proofs
end

section
/-! The frame of an instruction with one destination (O16): what finding a source, computing a result and
writing it change, then the shapes that instructions are made of. -/

namespace Sys2Proof.Machine

/-! ## Computing a result -/

/-- What computing a result changes: PSR in the flags `fl`, FSR where `float` says so, and the count of
free values. -/
structure Computes (fl : BitVec 16) (float : Bool) (s t : State) : Prop where
  /-- nothing else changes -/
  others : ∃ psr fsr n, t = { s with psr := psr, fsr := fsr, freeCount := n }
  /-- the other bits of PSR stay -/
  flags : t.psr &&& ~~~fl = s.psr &&& ~~~fl
  /-- an instruction that is not a floating-point instruction keeps FSR -/
  fsr : float = false → t.fsr = s.fsr

namespace Computes
variable {fl : BitVec 16} {float : Bool} {s t u : State}

theorem refl (s : State) : Computes fl float s s := ⟨⟨_, _, _, rfl⟩, rfl, fun _ => rfl⟩

theorem trans (h : Computes fl float s t) (h' : Computes fl float t u) : Computes fl float s u := by
  obtain ⟨⟨p, f, n, rfl⟩, hp, hf⟩ := h
  obtain ⟨⟨p', f', n', rfl⟩, hp', hf'⟩ := h'
  exact ⟨⟨p', f', n', rfl⟩, hp'.trans hp, fun hfl => (hf' hfl).trans (hf hfl)⟩

theorem draw (h : Computes fl float s t) (w : Nat) : Computes fl float s (t.draw w).2 :=
  h.trans ⟨⟨_, _, _, rfl⟩, rfl, fun _ => rfl⟩

theorem setFlag (h : Computes fl float s t) {i : Nat} (b : Bool) (hi : fl.getLsbD i = true) :
    Computes fl float s (t.setFlag i b) :=
  h.trans ⟨⟨_, _, _, rfl⟩, putBit_and_not _ _ _ hi, fun _ => rfl⟩

theorem setC (h : Computes fl float s t) (b : Bool) (hi : fl.getLsbD 0 = true) :
    Computes fl float s (t.setC b) := h.setFlag b hi

theorem setF (h : Computes fl float s t) (b : Bool) (hi : fl.getLsbD 5 = true) :
    Computes fl float s (t.setF b) := h.setFlag b hi

theorem setFsr (h : Computes fl true s t) (f : Word) : Computes fl true s { t with fsr := f } :=
  h.trans ⟨⟨_, _, _, rfl⟩, rfl, nofun⟩

end Computes

/-- Reading a location changes only the count of free values. -/
theorem readAt_computes {fl : BitVec 16} {float : Bool} {w : Nat} {l : Loc} {s t : State} {x : BitVec w}
    (h : readAt w l s = .ok (x, t)) : Computes fl float s t := by
  obtain rfl | rfl := readAt_spec h
  exacts [.refl _, (Computes.refl s).draw w]

/-! ## Locations -/

theorem File.loc_ne_push (f : File) (r : Reg) : f.loc r ≠ .push := by cases f <;> simp [File.loc]

theorem File.loc_ne_freg {f : File} (hf : f ≠ .float) (r q : Reg) : f.loc r ≠ .freg q := by
  cases f with
  | float => exact absurd rfl hf
  | int | pair => simp [File.loc]

/-- ALL THAT A DESTINATION OF CLASS WRITE CAN BE: the register that is named, a push, or memory. -/
theorem writeLoc_spec {f : File} {spi : Word} {g : Gen} {s : State} {l : Loc}
    (h : writeLoc f spi g s = .ok l) :
    (∃ r, l = f.loc r) ∨ (operandIsTos g = true ∧ l = .push) ∨ ∃ a, l = .mem a .write := by
  unfold writeLoc at h
  split at h
  · cases h; exact .inl ⟨_, rfl⟩
  · cases h; exact .inr (.inl ⟨rfl, rfl⟩)
  · obtain ⟨a, -, h⟩ := bind_eq_ok h
    cases h; exact .inr (.inr ⟨a, rfl⟩)

/-- ALL THAT A DESTINATION OF CLASS RMW CAN BE: the register that is named, or memory. -/
theorem rmwLoc_spec {f : File} {spi : Word} {g : Gen} {s : State} {l : Loc}
    (h : rmwLoc f spi g s = .ok l) : (∃ r, l = f.loc r) ∨ ∃ a, l = .mem a .rmw := by
  unfold rmwLoc at h
  split at h
  · cases h; exact .inl ⟨_, rfl⟩
  · obtain ⟨a, -, h⟩ := bind_eq_ok h
    cases h; exact .inr ⟨a, rfl⟩

section
variable {d : Dest} {s s₁ : State} {l : Loc}

/-- A destination is pushed only if it is Top of Stack under class write. -/
theorem Dest.locate_ne_push (h : d.locate s s₁ = .ok l) (ht : d.usesTos = false) : l ≠ .push := by
  unfold Dest.locate at h
  split at h
  · obtain ⟨r, rfl⟩ | ⟨a, rfl⟩ := rmwLoc_spec h
    exacts [d.file.loc_ne_push r, nofun]
  · next hrmw =>
    obtain ⟨r, rfl⟩ | ⟨hg, rfl⟩ | ⟨a, rfl⟩ := writeLoc_spec h
    · exact d.file.loc_ne_push r
    · simp [Dest.usesTos, hrmw, hg] at ht
    · nofun

theorem Dest.locate_ne_freg (h : d.locate s s₁ = .ok l) (hf : d.file ≠ .float) (q : Reg) :
    l ≠ .freg q := by
  unfold Dest.locate at h
  split at h
  · obtain ⟨r, rfl⟩ | ⟨a, rfl⟩ := rmwLoc_spec h
    exacts [File.loc_ne_freg hf r q, nofun]
  · obtain ⟨r, rfl⟩ | ⟨-, rfl⟩ | ⟨a, rfl⟩ := writeLoc_spec h
    exacts [File.loc_ne_freg hf r q, nofun, nofun]

/-- ALL THAT READING THE SOURCE CAN DO: nothing, a pop, or a free value drawn. -/
theorem Dest.afterSource_spec (h : d.afterSource s = .ok s₁) :
    s₁ = s ∨ (d.usesTos = true ∧ ∃ v, s₁ = s.setSp v) ∨ ∃ w, s₁ = (s.draw w).2 := by
  unfold Dest.afterSource at h
  split at h
  · cases h; exact .inl rfl
  · next f w a hsrc =>
    obtain ⟨⟨x, t⟩, hx, h⟩ := bind_eq_ok h
    cases h
    obtain rfl | ⟨rfl, rfl⟩ | ⟨r, -, -, -, rfl⟩ := readGen_spec hx
    · exact .inl rfl
    · exact .inr (.inl ⟨by simp [Dest.usesTos, hsrc, operandIsTos], _, rfl⟩)
    · exact .inr (.inr ⟨w, rfl⟩)

/-! ## The frame -/

/-- The flags of a destination are none that translation or the choice of stack depends on, and only a
floating-point instruction writes a floating-point register. -/
def Dest.regular (d : Dest) : Prop := d.flags &&& 0x0300 = 0 ∧ (d.float = false → d.file ≠ .float)

theorem Dest.regular_of_file {source : Option (File × Nat × Gen)} {rmw float : Bool} {file : File}
    {w : Nat} {g : Gen} {fl : BitVec 16} (hfl : fl &&& 0x0300 = 0) (hf : file ≠ .float) :
    Dest.regular ⟨source, rmw, file, w, g, fl, float⟩ := ⟨hfl, fun _ => hf⟩

theorem Dest.regular_of_float {source : Option (File × Nat × Gen)} {rmw : Bool} {file : File} {w : Nat}
    {g : Gen} {fl : BitVec 16} (hfl : fl &&& 0x0300 = 0) :
    Dest.regular ⟨source, rmw, file, w, g, fl, true⟩ := ⟨hfl, nofun⟩

/-- A bit of PSR outside the flags stays. -/
theorem psr_bit_of_flags {p q fl : BitVec 16} {i : Nat} (h : p &&& ~~~fl = q &&& ~~~fl)
    (hi : i < 16) (hfl : fl.getLsbD i = false) : p.getLsbD i = q.getLsbD i := by
  have hbit := congrArg (·.getLsbD i) h
  simp only [BitVec.getLsbD_and, BitVec.getLsbD_not, hi, hfl, decide_true, Bool.not_false,
    Bool.and_true] at hbit
  exact hbit

theorem xor_and_mask {n : Nat} (x y m : BitVec n) : (x ^^^ y) &&& m = (x &&& m) ^^^ (y &&& m) := by
  ext i hi
  simp [Bool.and_xor_distrib_right]

theorem Computes.modes {fl : BitVec 16} {float : Bool} {t : State} (h : Computes fl float s t)
    (hfl : fl &&& 0x0300 = 0) : t.flagU = s.flagU ∧ t.flagS = s.flagS := by
  have h8 : fl.getLsbD 8 = false := by simpa using congrArg (·.getLsbD 8) hfl
  have h9 : fl.getLsbD 9 = false := by simpa using congrArg (·.getLsbD 9) hfl
  exact ⟨psr_bit_of_flags h.flags (by decide) h8, psr_bit_of_flags h.flags (by decide) h9⟩

/-- Where a write stores depends on translation, mode and the selected stack pointer alone. -/
theorem stores_congr {w : Nat} {t : State} (hx : t.xlate = s.xlate) (hu : t.flagU = s.flagU)
    (hsp : t.sp = s.sp) (l : Loc) : l.stores w t = l.stores w s := by
  funext pa
  cases l <;> simp only [Loc.stores, translate_congr hx, hu, hsp]

/-- The state after the source is read is the state before it, but for a pop and a free value. -/
theorem Dest.afterSource_frame (h : d.afterSource s = .ok s₁) :
    (∃ sp0 sp1 n, s₁ = { s with sp0 := sp0, sp1 := sp1, freeCount := n }) ∧
    (d.usesTos = false → s₁.sp0 = s.sp0 ∧ s₁.sp1 = s.sp1) ∧
    (if s.flagS then s₁.sp0 = s.sp0 else s₁.sp1 = s.sp1) := by
  obtain rfl | ⟨ht, v, rfl⟩ | ⟨w, rfl⟩ := d.afterSource_spec h
  · exact ⟨⟨_, _, _, rfl⟩, fun _ => ⟨rfl, rfl⟩, by split <;> rfl⟩
  · refine ⟨?_, fun hf => absurd (ht.symm.trans hf) (by decide), ?_⟩
    · unfold State.setSp; split; exacts [⟨_, _, _, rfl⟩, ⟨_, _, _, rfl⟩]
    · split <;> simp_all
  · exact ⟨⟨_, _, _, rfl⟩, fun _ => ⟨rfl, rfl⟩, by split <;> rfl⟩

/-- THE FRAME: an instruction that reads its source, computes a result and writes it to its destination
leaves everything else alone. -/
theorem Dest.frame_of_write {u t : State} {w : Nat} {v : BitVec w} (hreg : d.regular)
    (hw : d.width = w) (h₁ : d.afterSource s = .ok s₁) (hl : d.locate s s₁ = .ok l)
    (hu : Computes d.flags d.float s₁ u) (ht : writeAt l v u = .ok t) : d.frame s s₁ t l := by
  subst hw
  obtain ⟨hflags, hfloat⟩ := hreg
  obtain ⟨hU, hS⟩ := hu.modes hflags
  obtain ⟨⟨sp0, sp1, n, e₁⟩, hpop, hother⟩ := d.afterSource_frame h₁
  obtain ⟨⟨p, f, n', e₂⟩, hpsr, hfsr⟩ := hu
  obtain ⟨⟨m, sp0', sp1', f', fd, regs, n'', e₃⟩, hregs, hfd, hfsr', hpush, hsel, hmem, -⟩ :=
    writeAt_spec ht
  have hsp₀ : u.sp0 = s₁.sp0 := by rw [e₂]
  have hsp₁ : u.sp1 = s₁.sp1 := by rw [e₂]
  have hsp : u.sp = s₁.sp := by simp only [State.sp, hS, hsp₀, hsp₁]
  have hsystem : s.sameSystem t := by
    simp only [State.sameSystem, e₃, e₂, e₁, and_self]
  refine ⟨fun r hr => ?_, fun r hr => ?_, ?_, fun hf => ?_, fun htos => ?_, ?_, hsystem, fun pa hpa => ?_⟩
  · rw [hregs r hr, State.reg, State.reg, e₂, e₁]
  · rw [hfd r hr, e₂, e₁]
  · have ht : t.psr = u.psr := by rw [e₃]
    have hs : s₁.psr = s.psr := by rw [e₁]
    rw [xor_and_mask, ht, hpsr, hs]
    exact BitVec.xor_self
  · have hl : ∀ r, l ≠ .freg r := d.locate_ne_freg hl (hfloat hf)
    rw [hfsr' hl, hfsr hf, e₁]
  · obtain ⟨h0, h1⟩ := hpush (d.locate_ne_push hl htos)
    obtain ⟨h0', h1'⟩ := hpop htos
    exact ⟨h0.trans (hsp₀.trans h0'), h1.trans (hsp₁.trans h1')⟩
  · have hS' : u.flagS = s.flagS := by rw [hS]; simp only [State.flagS, e₁]
    rw [hS', hsp₀, hsp₁] at hsel
    split at hsel
    · next h => rw [if_pos h] at hother ⊢; exact hsel.trans hother
    · next h => rw [if_neg h] at hother ⊢; exact hsel.trans hother
  · have hx : u.xlate = s₁.xlate := by rw [e₂]
    rw [hmem pa (by rwa [stores_congr hx hU hsp]), e₂, e₁]

end

end Sys2Proof.Machine
end

section
/-! The frame of an instruction with one destination (O16): the shapes of instructions, and every
instruction that `destination` lists. -/

namespace Sys2Proof.Machine

open Dest (regular_of_file regular_of_float)

/-! ## Shapes -/

/-- From `s` to `t`, wherever the destination is found, its frame holds. -/
def Dest.Keeps (d : Dest) (s t : State) : Prop :=
  ∀ s₁ l, d.afterSource s = .ok s₁ → d.locate s s₁ = .ok l → d.frame s s₁ t l

/-- Where a body answers, the frame of its destination holds. -/
def Framed (d : Dest) (s : State) (x : Except Stop State) : Prop := Ensures (d.Keeps s) x

/-- Where the overflow of a result does not trap, the state is that of the delivery. -/
theorem eq_of_ovfTrap {b : Bool} {s t : State} (h : ovfTrap b s = .ok t) : t = s := by
  unfold ovfTrap at h
  split at h
  · cases h
  · cases h; rfl

/-- ALL THAT DELIVERING A RESULT CAN DO: it is written and PC passes the instruction. -/
theorem deliver_spec {w len : Nat} {l : Loc} {r : Result w} {t : State} (h : deliver len l r = .ok t) :
    ∃ u, writeAt l r.value r.state = .ok u ∧ t = u.advance len := by
  obtain ⟨u, hu, h⟩ := bind_eq_ok h
  exact ⟨u, hu, eq_of_ovfTrap h⟩

/-- A result that is delivered to the destination, computed in the state after the source is read. -/
theorem deliver_framed {d : Dest} {s s₁ : State} {l : Loc} {w len : Nat} {r : Result w}
    (hreg : d.regular) (hw : d.width = w) (h₁ : d.afterSource s = .ok s₁)
    (hl : d.locate s s₁ = .ok l) (hr : Computes d.flags d.float s₁ r.state) :
    Framed d s (deliver len l r) :=
  ensures_iff.2 fun t ht s₁' l' h₁' hl' => by
    obtain rfl : s₁ = s₁' := Except.ok.inj (h₁.symm.trans h₁')
    obtain rfl : l = l' := Except.ok.inj (hl.symm.trans hl')
    obtain ⟨u, hu, rfl⟩ := deliver_spec ht
    have hframe : d.frame s s₁ u l := d.frame_of_write hreg hw h₁ hl hr hu
    exact hframe

/-- An operation computes a result from a state. -/
abbrev ComputesResult {w : Nat} (fl : BitVec 16) (float : Bool) (s : State)
    (x : Except Stop (Result w)) : Prop :=
  Ensures (fun r => Computes fl float s r.state) x

/-- A part of a body of which only the answer matters. -/
theorem Ensures.bind_eq {α β : Type} {Q : β → Prop} {x : Except Stop α} {f : α → Except Stop β}
    (hf : ∀ a, x = .ok a → Ensures Q (f a)) : Ensures Q (x >>= f) := by
  cases x with
  | ok a => exact hf a rfl
  | error e => trivial

section
variable {s : State} {fa fb : File} {wa wb len : Nat} {a b : Gen} {fl : BitVec 16} {float : Bool}

theorem store_framed {op : State → Result wb}
    (hreg : Dest.regular ⟨none, false, fb, wb, b, fl, float⟩)
    (hop : Computes fl float s (op s).state) :
    Framed ⟨none, false, fb, wb, b, fl, float⟩ s (store fb wb len b s op) :=
  .bind_eq fun _ hl => deliver_framed hreg rfl rfl hl hop

theorem fromAddr_framed {op : Word → State → Result wb}
    (hreg : Dest.regular ⟨none, false, .int, wb, b, fl, float⟩)
    (hop : ∀ ea, Computes fl float s (op ea s).state) :
    Framed ⟨none, false, .int, wb, b, fl, float⟩ s (fromAddr wb len a b s op) :=
  .any fun _ => .bind_eq fun _ hl => deliver_framed hreg rfl rfl hl (hop _)

theorem modify_framed {op : BitVec wb → State → Except Stop (Result wb)}
    (hreg : Dest.regular ⟨none, true, fb, wb, b, fl, float⟩)
    (hop : ∀ y t, ComputesResult fl float t (op y t)) :
    Framed ⟨none, true, fb, wb, b, fl, float⟩ s (modify fb wb len b s op) :=
  .bind_eq fun _ hl => .bind_eq fun _ hy => (hop _ _).bind fun _ hr =>
    deliver_framed hreg rfl rfl hl ((readAt_computes hy).trans hr)

/-- The state after the source of class read. -/
theorem Dest.afterSource_of_read {rmw : Bool} {p : BitVec wa × State} (h : readGen fa wa s.sp a s = .ok p) :
    Dest.afterSource ⟨some (fa, wa, a), rmw, fb, wb, b, fl, float⟩ s = .ok p.2 := by
  change (readGen fa wa s.sp a s).bind _ = _
  rw [h]
  rfl

theorem unary_framed {op : BitVec wa → State → Except Stop (Result wb)}
    (hreg : Dest.regular ⟨some (fa, wa, a), false, fb, wb, b, fl, float⟩)
    (hop : ∀ x t, ComputesResult fl float t (op x t)) :
    Framed ⟨some (fa, wa, a), false, fb, wb, b, fl, float⟩ s (unary fa fb wa wb len a b s op) :=
  .bind_eq fun _ hx => .bind_eq fun _ hl => (hop _ _).bind fun _ hr =>
    deliver_framed hreg rfl (Dest.afterSource_of_read hx) hl hr

theorem binary_framed {op : BitVec wa → BitVec wb → State → Except Stop (Result wb)}
    (hreg : Dest.regular ⟨some (fa, wa, a), true, fb, wb, b, fl, float⟩)
    (hop : ∀ x y t, ComputesResult fl float t (op x y t)) :
    Framed ⟨some (fa, wa, a), true, fb, wb, b, fl, float⟩ s (binary fa fb wa wb len a b s op) :=
  .bind_eq fun _ hx => .bind_eq fun _ hl => .bind_eq fun _ hy => (hop _ _ _).bind fun _ hr =>
    deliver_framed hreg rfl (Dest.afterSource_of_read hx) hl ((readAt_computes hy).trans hr)

end

/-! ## Integer, logical and packed decimal instructions -/

theorem arithResult_computes {float : Bool} {w : Nat} (r : Arith w) (s : State) :
    Computes 0x21 float s (arithResult r s).state :=
  ((Computes.refl s).setC _ rfl).setF _ rfl

theorem readLowHalf_computes {fl : BitVec 16} {float : Bool} {w : Nat} {l : Loc} {s t : State}
    {x : BitVec w} (h : readLowHalf w l s = .ok (x, t)) : Computes fl float s t := by
  unfold readLowHalf at h
  split at h
  · split at h <;> cases h
    exacts [.refl _, (Computes.refl s).draw w]
  · exact readAt_computes h

section
variable (s : State) (w len : Nat) (a b : Gen)

theorem logical_framed (f : BitVec w → BitVec w → BitVec w) :
    Framed ⟨some (.int, w, a), true, .int, w, b, 0, false⟩ s (logical w len a b s f) :=
  binary_framed (regular_of_file rfl nofun) fun _ _ t => .refl t

theorem meiI_framed : Framed ⟨some (.int, w, a), true, .pair, 2 * w, b, 0, false⟩ s (meiI w len a b s) :=
  .bind_eq fun _ hx => .bind_eq fun _ hl => .bind_eq fun _ hy =>
    deliver_framed (regular_of_file rfl nofun) rfl (Dest.afterSource_of_read hx) hl (readLowHalf_computes hy)

theorem signedDivision_framed (f : Int → Int → Int) (o : Bool) :
    Framed ⟨some (.int, w, a), true, .int, w, b, 0, false⟩ s (signedDivision w len a b s f o) :=
  binary_framed (regular_of_file rfl nofun) fun x y t => by split; exacts [trivial, .refl t]

theorem deiI_framed : Framed ⟨some (.int, w, a), true, .pair, 2 * w, b, 0, false⟩ s (deiI w len a b s) :=
  binary_framed (regular_of_file rfl nofun) fun x y t => by
    split
    · trivial
    · dsimp only; split; exacts [(Computes.refl t).draw (2 * w), .refl t]

theorem shift_framed (f : BitVec w → Nat → BitVec w × Bool) (g : BitVec w → Nat → BitVec w) :
    Framed ⟨some (.int, 8, a), true, .int, w, b, 0, false⟩ s (shift w len a b s f g) :=
  binary_framed (regular_of_file rfl nofun) fun c y t => by
    split
    · exact (Computes.refl t).draw w
    · split; exacts [.refl t, .refl t]

theorem packed_framed (f : Nat → Nat → Nat → Nat × Bool) :
    Framed ⟨some (.int, w, a), true, .int, w, b, 0x21, false⟩ s (packed w len a b s f) :=
  binary_framed (regular_of_file rfl nofun) fun x y t => by
    dsimp only
    split
    · exact ((Computes.refl t).setC _ rfl).setF _ rfl
    · exact ((((Computes.refl t).draw w).draw 1).setC _ rfl).setF _ rfl

/-- ACBi writes its destination, then branches or goes on (R386). -/
theorem acbI_framed (q : BitVec 4) (d : Disp) :
    Framed ⟨none, true, .int, w, b, 0, false⟩ s (acbI w len q b d s) :=
  .bind_eq fun l hl => .bind_eq fun p hy => .bind_eq fun u hu =>
    ensures_iff.2 fun t ht s₁ l' h₁ hl' => by
      cases h₁
      obtain rfl : l = l' := Except.ok.inj (hl.symm.trans hl')
      have hframe := Dest.frame_of_write (d := ⟨none, true, .int, w, b, 0, false⟩)
        (regular_of_file rfl nofun) rfl rfl hl (readAt_computes hy) hu
      obtain rfl := eq_of_ovfTrap ht
      split; exacts [hframe, hframe]

/-! ## Bit and bit-field instructions -/

theorem ffsI_framed : Framed ⟨some (.int, w, a), true, .int, 8, b, 0x20, false⟩ s (ffsI w len a b s) :=
  binary_framed (regular_of_file rfl nofun) fun x y t => by
    dsimp only
    split
    · exact (((Computes.refl t).draw 8).draw 1).setF _ rfl
    · split; exacts [(Computes.refl t).setF _ rfl, (Computes.refl t).setF _ rfl]

theorem deliverField_framed (d : Word) (k n : Int) :
    Framed ⟨none, false, .int, w, b, 0, false⟩ s (deliverField w len s.sp b s d k n) := by
  refine .bind_eq fun l hl => ?_
  split
  · exact deliver_framed (regular_of_file rfl nofun) rfl rfl hl (.refl s)
  · exact deliver_framed (regular_of_file rfl nofun) rfl rfl hl ((Computes.refl s).draw w)

theorem extField_framed (off n : Int) :
    Framed ⟨none, false, .int, w, b, 0, false⟩ s (extField w len off n a b s) := by
  refine .any fun base => ?_
  cases base with
  | reg r => exact deliverField_framed s w len b _ _ _
  | mem ea => exact .any fun d => deliverField_framed s w len b _ _ _

/-! ## Storing registers -/

theorem smrI_framed (r : MmuReg) : Framed ⟨none, false, .int, 32, b, 0, false⟩ s (smrI len r b s) :=
  .any fun _ => store_framed (regular_of_file rfl nofun) (by
    cases r with
    | ivar0 | ivar1 => exact (Computes.refl s).draw 32
    | _ => exact .refl s)

/-! ## Floating-point instructions -/

theorem fpBinary_framed (f : Word → BitVec w → BitVec w → Except Stop (BitVec w × Word)) :
    Framed ⟨some (.float, w, a), true, .float, w, b, 0, true⟩ s (fpBinary w len a b s f) :=
  .any fun _ => binary_framed (regular_of_float rfl) fun _ _ t => .any fun _ => .any fun _ =>
    (Computes.refl t).setFsr _

theorem fpUnary_framed {fb : File} {wa wb : Nat} {f : BitVec wa → State → Except Stop (Result wb)}
    (hf : ∀ x t, ComputesResult 0 true t (f x t)) :
    Framed ⟨some (.float, wa, a), false, fb, wb, b, 0, true⟩ s (fpUnary fb wa wb len a b s f) :=
  .any fun _ => unary_framed (regular_of_float rfl) fun x t => .any fun _ => hf x t

theorem logbFp_framed :
    Framed ⟨some (.float, w, a), false, .float, w, b, 0, true⟩ s (logbFp w len a b s) :=
  fpUnary_framed s len a b fun x t => by
    split
    · exact ((Computes.refl t).draw w).setFsr _
    · exact (Computes.refl t).setFsr _

end

end Sys2Proof.Machine
end

section
/-! Every instruction that `destination` lists keeps the frame of its destination (O16). -/

namespace Sys2Proof.Machine

open Dest (regular_of_file regular_of_float)

/-- ALL THAT AN INSTRUCTION WITH ONE DESTINATION CHANGES, where it ends without a trap. -/
theorem exec_framed {i : Instr} {d : Dest} (hd : destination i = some d) (s : State) :
    OnCompletion (d.Keeps s) (exec i s) := by
  have ok {d : Dest} {x : Except Stop State} (hx : Framed d s x) :
      OnCompletion (d.Keeps s) (conclude s x) := conclude_onCompletion hx
  cases i with
  | addqb | addqw | addqd =>
    cases hd
    exact ok (modify_framed (regular_of_file rfl nofun) fun _ _ => arithResult_computes _ _)
  | sprb | sprw | sprd | sfsr =>
    cases hd
    exact ok (.any fun _ => store_framed (regular_of_file rfl nofun) (.refl s))
  | seqb | sneb | scsb | sccb | shib | slsb | sgtb | sleb | sfsb | sfcb | slob | shsb | sltb
  | sgeb | seqw | snew | scsw | sccw | shiw | slsw | sgtw | slew | sfsw | sfcw | slow | shsw
  | sltw | sgew | seqd | sned | scsd | sccd | shid | slsd | sgtd | sled | sfsd | sfcd | slod
  | shsd | sltd | sged | movqb | movqw | movqd =>
    cases hd
    exact ok (store_framed (regular_of_file rfl nofun) (.refl s))
  | acbb | acbw | acbd => cases hd; exact ok (acbI_framed ..)
  | addb | addw | addd | subb | subw | subd | addcb | addcw | addcd | subcb | subcw | subcd =>
    cases hd
    exact ok (binary_framed (regular_of_file rfl nofun) fun _ _ _ => arithResult_computes _ _)
  | bicb | bicw | bicd | orb | orw | ord | andb | andw | andd | xorb | xorw | xord =>
    cases hd
    exact ok (logical_framed ..)
  | mulb | mulw | muld =>
    cases hd
    exact ok (binary_framed (regular_of_file rfl nofun) fun _ _ t => .refl t)
  | movb | movw | movd | movxbw | movxbd | movxwd | movzbw | movzbd | movzwd | comb | comw | comd
  | notb | notw | notd =>
    cases hd
    exact ok (unary_framed (regular_of_file rfl nofun) fun _ t => .refl t)
  | negb | negw | negd =>
    cases hd
    exact ok (unary_framed (regular_of_file rfl nofun) fun _ _ => arithResult_computes _ _)
  | absb | absw | absd =>
    cases hd
    exact ok (unary_framed (regular_of_file rfl nofun) fun _ t => (Computes.refl t).setF _ rfl)
  | rotb | rotw | rotd | ashb | ashw | ashd | lshb | lshw | lshd =>
    cases hd
    exact ok (shift_framed ..)
  | subpb | subpw | subpd | addpb | addpw | addpd => cases hd; exact ok (packed_framed ..)
  | meib | meiw | meid => cases hd; exact ok (meiI_framed ..)
  | deib | deiw | deid => cases hd; exact ok (deiI_framed ..)
  | quob | quow | quod | remb | remw | remd | modb | modw | modd | divb | divw | divd =>
    cases hd
    exact ok (signedDivision_framed ..)
  | addr | cvtp => cases hd; exact ok (fromAddr_framed (regular_of_file rfl nofun) fun _ => .refl s)
  | extsb | extsw | extsd | extb | extw | extd => cases hd; exact ok (extField_framed ..)
  | ffsb | ffsw | ffsd => cases hd; exact ok (ffsI_framed ..)
  | smr => cases hd; exact ok (smrI_framed ..)
  | movbf | movwf | movdf | movbl | movwl | movdl =>
    cases hd
    exact ok (.any fun _ => unary_framed (regular_of_float rfl) fun _ t => .any fun _ =>
      (Computes.refl t).setFsr _)
  | movf | movl =>
    cases hd
    exact ok (.any fun _ => unary_framed (regular_of_float rfl) fun _ t => (Computes.refl t).setFsr _)
  | movlf | movfl | roundfb | roundfw | roundfd | roundlb | roundlw | roundld | truncfb | truncfw
  | truncfd | trunclb | trunclw | truncld | floorfb | floorfw | floorfd | floorlb | floorlw
  | floorld =>
    cases hd
    exact ok (fpUnary_framed _ _ _ _ fun _ t => .any fun _ => (Computes.refl t).setFsr _)
  | negf | negl | absf | absl =>
    cases hd
    exact ok (fpUnary_framed _ _ _ _ fun _ t => (Computes.refl t).setFsr _)
  | addf | addl | subf | subl | mulf | mull | divf | divl | scalbf | scalbl =>
    cases hd
    exact ok (fpBinary_framed ..)
  | logbf | logbl => cases hd; exact ok (logbFp_framed ..)
  | _ => cases hd

end Sys2Proof.Machine

namespace Sys2Proof.Proofs

open Sys2Proof.Machine

/-- Settles O16: each instruction that has a destination is one of the shapes of operands, and every
shape writes its result by `Dest.frame_of_write`. -/
theorem destinationFrame : Obligations.DestinationFrame := by
  unfold Obligations.DestinationFrame
  exact fun i d s t s₁ l hd h hb h₁ hl => exec_framed hd s t h (by simp [hb]) s₁ l h₁ hl

end Sys2Proof.Proofs
end

section
/-! What the integer operations compute (R200 to R218), said in integers: values, C and F, and when a
result lies outside the signed range. -/

namespace Sys2Proof.Machine

/-! ## Signed values of w bits -/

theorem not_fitsSigned (w : Nat) (n : Int) : (!fitsSigned w n) = outOfRange w n := by
  simp only [fitsSigned, outOfRange, Bool.not_and, ← decide_not, Int.not_le, Int.not_lt]

theorem ofInt_sub (w : Nat) (m n : Int) :
    BitVec.ofInt w (m - n) = BitVec.ofInt w m - BitVec.ofInt w n := by
  rw [Int.sub_eq_add_neg, BitVec.ofInt_add, BitVec.ofInt_neg, BitVec.sub_eq_add_neg]

/-- Of the signed values of w bits only the most negative one has a negation outside the range. -/
theorem outOfRange_neg_toInt {w : Nat} (x : BitVec w) :
    outOfRange w (-x.toInt) = decide (x.toInt = -2 ^ (w - 1)) := by
  have hlo := x.le_toInt
  have hhi := x.toInt_lt
  simp only [outOfRange, ← Bool.decide_or, decide_eq_decide]
  generalize (2 : Int) ^ (w - 1) = m at hlo hhi ⊢
  omega

theorem ofNat_two_pow (w n : Nat) : BitVec.ofNat w (2 ^ n) = BitVec.twoPow w n :=
  BitVec.eq_of_toNat_eq (by rw [BitVec.toNat_ofNat, BitVec.toNat_twoPow])

theorem minSigned_eq_intMin (w : Nat) : minSigned w = BitVec.intMin w := ofNat_two_pow w (w - 1)

theorem eq_minSigned_iff {w : Nat} (hw : 0 < w) (x : BitVec w) :
    x = minSigned w ↔ x.toInt = -2 ^ (w - 1) := by
  rw [← BitVec.toInt_inj, minSigned_eq_intMin, BitVec.toInt_intMin_of_pos hw]

theorem beq_minSigned {w : Nat} (hw : 0 < w) (x : BitVec w) :
    (x == minSigned w) = decide (x.toInt = -2 ^ (w - 1)) := by
  rw [beq_eq_decide, decide_eq_decide, eq_minSigned_iff hw]

/-- The negation of the most negative value is that value itself, modulo 2^w. -/
theorem ofInt_neg_of_min {w : Nat} (hw : 0 < w) {x : BitVec w} (h : x.toInt = -2 ^ (w - 1)) :
    BitVec.ofInt w (-x.toInt) = x := by
  rw [BitVec.ofInt_neg, BitVec.ofInt_toInt, (eq_minSigned_iff hw x).2 h, minSigned_eq_intMin,
    BitVec.neg_intMin]

/-- A quick value has the signed value of its four bits (R141). -/
theorem toInt_quickValue {w : Nat} (hw : 4 ≤ w) (q : BitVec 4) : (quickValue w q).toInt = q.toInt :=
  BitVec.toInt_signExtend_of_le hw

/-! ## Flags that a result leaves -/

theorem flagV_setFlag (s : State) {i : Nat} (hi : (0xFFEF : BitVec 16).getLsbD i = true) (b : Bool) :
    (s.setFlag i b).flagV = s.flagV :=
  psr_bit_of_flags (putBit_and_not s.psr 0xFFEF b hi) (by decide) (by decide)

@[simp] theorem flagV_setC (s : State) (b : Bool) : (s.setC b).flagV = s.flagV :=
  flagV_setFlag s (by decide) b

@[simp] theorem flagV_setF (s : State) (b : Bool) : (s.setF b).flagV = s.flagV :=
  flagV_setFlag s (by decide) b

theorem flagV_of_psr {s t : State} (h : t.psr = s.psr) : t.flagV = s.flagV := by
  rw [State.flagV, State.flagV, h]

/-! ## Sums and differences -/

/-- A sum with its carry and overflow, as R201 gives them. -/
theorem arithResult_addC {w : Nat} (x y : BitVec w) (c : Bool) (s : State) :
    arithResult (addC y x c) s =
      ⟨BitVec.ofNat w (x.toNat + y.toNat + c.toNat),
        (s.setC (decide (2 ^ w ≤ x.toNat + y.toNat + c.toNat))).setF
          (outOfRange w (x.toInt + y.toInt + c.toNat)),
        outOfRange w (x.toInt + y.toInt + c.toNat)⟩ := by
  have hv : y + x + BitVec.ofNat w c.toNat = BitVec.ofNat w (x.toNat + y.toNat + c.toNat) := by
    simp only [BitVec.ofNat_add, BitVec.ofNat_toNat, BitVec.setWidth_eq, BitVec.add_comm x]
  simp only [arithResult, addC, not_fitsSigned, hv, Nat.add_comm y.toNat, Int.add_comm y.toInt]

/-- A difference with its borrow and overflow, as R201 gives them. -/
theorem arithResult_subB {w : Nat} (x y : BitVec w) (c : Bool) (s : State) :
    arithResult (subB y x c) s =
      ⟨BitVec.ofInt w ((y.toNat : Int) - x.toNat - c.toNat),
        (s.setC (decide (y.toNat < x.toNat + c.toNat))).setF
          (outOfRange w (y.toInt - x.toInt - c.toNat)),
        outOfRange w (y.toInt - x.toInt - c.toNat)⟩ := by
  have hv : y - x - BitVec.ofNat w c.toNat = BitVec.ofInt w ((y.toNat : Int) - x.toNat - c.toNat) := by
    simp only [ofInt_sub, BitVec.ofInt_natCast, BitVec.ofNat_toNat, BitVec.setWidth_eq]
  simp only [arithResult, subB, not_fitsSigned, hv]

theorem sumResult_eq {w : Nat} (x y : BitVec w) (c : Bool) (s : State) :
    sumResult x y c s = unlessTrapped s (arithResult (addC y x c) s).ovf
      ((arithResult (addC y x c) s).value, (arithResult (addC y x c) s).state) := by
  rw [arithResult_addC, sumResult]

theorem differenceResult_eq {w : Nat} (x y : BitVec w) (c : Bool) (s : State) :
    differenceResult x y c s = unlessTrapped s (arithResult (subB y x c) s).ovf
      ((arithResult (subB y x c) s).value, (arithResult (subB y x c) s).state) := by
  have hc : decide ((y.toNat : Int) - x.toNat - c.toNat < 0) = decide (y.toNat < x.toNat + c.toNat) :=
    decide_eq_decide.2 (by omega)
  rw [arithResult_subB, differenceResult, hc]

@[simp] theorem arithResult_flagV {w : Nat} (r : Arith w) (s : State) :
    (arithResult r s).state.flagV = s.flagV := by simp [arithResult]

/-! ## Magnitudes -/

/-- The magnitude of a signed value, as ABSi computes it (R211). -/
theorem abs_value {w : Nat} (x : BitVec w) :
    (if x.toInt < 0 then 0 - x else x) = BitVec.ofInt w x.toInt.natAbs := by
  split
  · next h =>
    rw [Int.ofNat_natAbs_of_nonpos (Int.le_of_lt h), BitVec.ofInt_neg, BitVec.ofInt_toInt]
    exact BitVec.zero_sub x
  · next h => rw [Int.natAbs_of_nonneg (Int.not_lt.1 h), BitVec.ofInt_toInt]

/-! ## Products -/

theorem mul_value_unsigned {w : Nat} (x y : BitVec w) : x * y = BitVec.ofNat w (x.toNat * y.toNat) := by
  rw [BitVec.ofNat_mul, BitVec.ofNat_toNat, BitVec.ofNat_toNat, BitVec.setWidth_eq, BitVec.setWidth_eq]

theorem mul_value_signed {w : Nat} (x y : BitVec w) : x * y = BitVec.ofInt w (x.toInt * y.toInt) := by
  rw [BitVec.ofInt_mul, BitVec.ofInt_toInt, BitVec.ofInt_toInt]

/-- A left shift is the product with a power of two (R308). -/
theorem shiftLeft_value {w : Nat} (y : BitVec w) (n : Nat) :
    y <<< n = BitVec.ofInt w (y.toInt * 2 ^ n) := by
  have h2 : BitVec.ofInt w (2 ^ n) = BitVec.twoPow w n := by
    rw [← ofNat_two_pow, ← BitVec.ofInt_natCast]
    norm_cast
  rw [BitVec.shiftLeft_eq_mul_twoPow, BitVec.ofInt_mul, BitVec.ofInt_toInt, h2]

/-! ## Quotients -/

/-- The condition on which a signed division overflows (R214, R216). -/
theorem division_overflow {w : Nat} (hw : 0 < w) (x y : BitVec w) (o : Bool) :
    (o && (y == minSigned w) && decide (x.toInt = -1)) =
      (o && decide (y.toInt = -2 ^ (w - 1) ∧ x.toInt = -1)) := by
  rw [beq_minSigned hw, Bool.and_assoc, Bool.decide_and]

theorem eq_zero_iff_toInt {w : Nat} (x : BitVec w) : x = 0 ↔ x.toInt = 0 := by
  rw [← BitVec.toInt_inj]
  simp

theorem eq_zero_iff_toNat {w : Nat} (x : BitVec w) : x = 0 ↔ x.toNat = 0 := by
  rw [← BitVec.toNat_inj]
  simp

end Sys2Proof.Machine
end

section
/-! When an integer instruction completes (R205 to R228): its shape completes where its result is not
trapped on, and the result is the one that the rules give. -/

namespace Sys2Proof.Machine

/-- What `exec` makes of an instruction, with the length that its layout gives. -/
theorem exec_length {i : Instr} {s : State} (f : Nat → Except Stop State)
    (h : exec i s = conclude s
      (f (lenOf (layout i).basic ((layout i).operands.map (·.2)) (layout i).tail))) :
    exec i s = conclude s (f i.length) := by
  rw [length_eq]
  exact h

/-- An instruction is encoded as its layout says (R122). -/
theorem encodedAs_of_layout {i : Instr} {n word : Nat} {ops : List (Attr × Gen)} {tail : List Tail}
    {gs : List Gen} {implied : List Byte} (h : layout i = ⟨n, word, ops, tail⟩)
    (hg : ops.map (·.2) = gs) (ht : tail.flatMap Tail.bytes = implied) :
    encodedAs i n word gs implied := by
  subst hg ht
  simp only [encodedAs, encode, h, Layout.bytes, List.flatMap_map]

/-! ## Results that are delivered -/

/-- A result is delivered unless it overflows with the trap enabled. -/
theorem answers_of_unlessTrapped {w : Nat} {s s₃ : State} {r : Result w} {v : BitVec w}
    (hV : r.state.flagV = s.flagV) (hx : r.state.xlate = s.xlate)
    (h : unlessTrapped s r.ovf (r.value, r.state) = some (v, s₃)) : Answers (.ok r) s v s₃ := by
  unfold unlessTrapped at h
  split at h
  · cases h
  · next hn =>
    cases h
    exact ⟨r, rfl, rfl, rfl, by rw [hV]; exact Bool.not_eq_true _ ▸ hn, hx⟩

theorem answers_of_plainResult {w : Nat} {s s₃ : State} {u v : BitVec w}
    (h : plainResult u s = some (v, s₃)) : Answers (.ok { value := u, state := s }) s v s₃ := by
  cases h
  exact ⟨_, rfl, rfl, rfl, Bool.and_false _, rfl⟩

theorem answers_of_sumResult {w : Nat} {s s₃ : State} {x y v : BitVec w} {c : Bool}
    (h : sumResult x y c s = some (v, s₃)) : Answers (.ok (arithResult (addC y x c) s)) s v s₃ :=
  answers_of_unlessTrapped (arithResult_flagV _ s) rfl (sumResult_eq x y c s ▸ h)

theorem answers_of_differenceResult {w : Nat} {s s₃ : State} {x y v : BitVec w} {c : Bool}
    (h : differenceResult x y c s = some (v, s₃)) :
    Answers (.ok (arithResult (subB y x c) s)) s v s₃ :=
  answers_of_unlessTrapped (arithResult_flagV _ s) rfl (differenceResult_eq x y c s ▸ h)

/-! ## Instructions with a source and a destination -/

section
variable {i : Instr} {s : State} {w : Nat} {a b : Gen} {ta tb : Attr}
  (hs : s.accessible) (hi : i.wellFormed = true)
  (hl : (layout i).operands = [(ta, a), (tb, b)]) (htb : tb.immSize = none)
include hs hi hl htb

theorem binary_completes {fa fb : File} {wa wb : Nat}
    {op : BitVec wa → BitVec wb → State → Except Stop (Result wb)}
    {out : BitVec wa → BitVec wb → State → Option (BitVec wb × State)}
    (he : exec i s = conclude s (binary fa fb wa wb i.length a b s op))
    (hop : ∀ x y t v u, out x y t = some (v, u) → Answers (op x y t) t v u) :
    CompletesRmw i fa fb wa wb a b s out :=
  have ⟨ha, hb⟩ := wellFormed_two hi hl
  completesRmw_of hs ha hb htb he fun x y t v u _ => hop x y t v u

theorem unary_completes {fa fb : File} {wa wb : Nat} {op : BitVec wa → State → Except Stop (Result wb)}
    {out : BitVec wa → State → Option (BitVec wb × State)}
    (he : exec i s = conclude s (unary fa fb wa wb i.length a b s op))
    (hop : ∀ x t v u, out x t = some (v, u) → Answers (op x t) t v u) :
    CompletesWrite i fa fb wa wb a b s out :=
  have ⟨ha, hb⟩ := wellFormed_two hi hl
  completesWrite_of hs ha hb htb he hop

theorem addI_completes (he : exec i s = conclude s (addI w i.length a b s)) :
    CompletesRmw i .int .int w w a b s fun x y s => sumResult x y false s :=
  binary_completes hs hi hl htb he fun _ _ _ _ _ => answers_of_sumResult

theorem addCarry_completes (he : exec i s = conclude s (addCarry w i.length a b s)) :
    CompletesRmw i .int .int w w a b s fun x y s => sumResult x y s.flagC s :=
  binary_completes hs hi hl htb he fun _ _ _ _ _ => answers_of_sumResult

theorem subI_completes (he : exec i s = conclude s (subI w i.length a b s)) :
    CompletesRmw i .int .int w w a b s fun x y s => differenceResult x y false s :=
  binary_completes hs hi hl htb he fun _ _ _ _ _ => answers_of_differenceResult

theorem subCarry_completes (he : exec i s = conclude s (subCarry w i.length a b s)) :
    CompletesRmw i .int .int w w a b s fun x y s => differenceResult x y s.flagC s :=
  binary_completes hs hi hl htb he fun _ _ _ _ _ => answers_of_differenceResult

theorem negI_completes (he : exec i s = conclude s (negI w i.length a b s)) :
    CompletesWrite i .int .int w w a b s fun x s => differenceResult x 0 false s :=
  unary_completes hs hi hl htb he fun _ _ _ _ => answers_of_differenceResult

theorem absI_completes (hw : 0 < w) (he : exec i s = conclude s (absI w i.length a b s)) :
    CompletesWrite i .int .int w w a b s fun x s =>
      unlessTrapped s (decide (x.toInt = -(2 : Int) ^ (w - 1)))
        (BitVec.ofInt w x.toInt.natAbs, s.setF (decide (x.toInt = -(2 : Int) ^ (w - 1)))) := by
  refine unary_completes hs hi hl htb he fun x t v u h => ?_
  rw [← beq_minSigned hw, ← abs_value] at h
  exact answers_of_unlessTrapped (r := ⟨_, _, x == minSigned w⟩) (flagV_setF t _) rfl h

theorem mulI_completes (he : exec i s = conclude s (mulI w i.length a b s)) :
    CompletesRmw i .int .int w w a b s fun x y s =>
      unlessTrapped s (outOfRange w (x.toInt * y.toInt)) (BitVec.ofNat w (x.toNat * y.toNat), s) := by
  refine binary_completes hs hi hl htb he fun x y t v u h => ?_
  rw [← not_fitsSigned, ← mul_value_unsigned] at h
  exact answers_of_unlessTrapped (r := ⟨_, t, _⟩) rfl rfl h

/-- MEIi reads only the low half of its destination, which is the low half of the whole operand
(`readLowHalf_of_readAt`). -/
theorem meiI_completes (hw : w % 8 = 0) (he : exec i s = conclude s (meiI w i.length a b s)) :
    CompletesRmw i .int .pair w (2 * w) a b s fun x y s =>
      plainResult (BitVec.ofNat (2 * w) (x.toNat * (y.toNat % 2 ^ w))) s := by
  obtain ⟨ha, hb⟩ := wellFormed_two hi hl
  obtain ⟨x, s₁, hx⟩ := readGen_ok hs .int w s.sp ha
  have hs₁ := accessible_congr (readGen_xlate hx) hs
  obtain ⟨l, hloc⟩ := rmwLoc_ok hs₁ .pair s.sp htb hb
  obtain ⟨y, s₂, hy⟩ := readAt_ok hs₁ (2 * w) l
  have hs₂ := accessible_congr (readAt_xlate hy) hs₁
  refine ⟨x, s₁, l, y, s₂, hx, hloc, hy, fun v s₃ ho => ?_⟩
  cases ho
  obtain ⟨t, ht⟩ := writeAt_ok hs₂ l (BitVec.ofNat (2 * w) (x.toNat * (y.toNat % 2 ^ w)))
  refine ⟨t, ht, ?_⟩
  have hpair : (∃ r, l = .pair r) ∨ ∃ a k, l = .mem a k := by
    obtain ⟨r, rfl⟩ | ⟨a, rfl⟩ := rmwLoc_spec hloc
    exacts [.inl ⟨r, rfl⟩, .inr ⟨a, .rmw, rfl⟩]
  have hlow := readLowHalf_of_readAt hw hpair hy
  have hd : deliver i.length l
      { value := BitVec.ofNat (2 * w) (x.toNat * (y.setWidth w).toNat), state := s₂ } =
        .ok (t.advance i.length) :=
    deliver_ok (by simpa only [BitVec.toNat_setWidth] using ht) (Bool.and_false _)
  rw [he]
  simp only [meiI, bind, Except.bind, hx, hloc, hlow, hd, conclude]

/-- DIVi, MODi, QUOi and REMi with a divisor that is not zero. -/
theorem signedDivision_completes (hw : 0 < w) {f : Int → Int → Int} {o : Bool}
    (he : exec i s = conclude s (signedDivision w i.length a b s f o)) :
    CompletesRmw i .int .int w w a b s fun x y s => divisionResult x y f o s := by
  refine binary_completes hs hi hl htb he fun x y t v u h => ?_
  unfold divisionResult at h
  split at h
  · cases h
  · next hx =>
    rw [if_neg (mt (eq_zero_iff_toInt x).1 hx)]
    rw [← division_overflow hw] at h
    exact answers_of_unlessTrapped (r := ⟨_, t, _⟩) rfl rfl h

theorem deiI_completes (he : exec i s = conclude s (deiI w i.length a b s)) :
    CompletesRmw i .int .pair w (2 * w) a b s fun x y s =>
      if x.toNat = 0 then none
      else if y.toNat / x.toNat < 2 ^ w then
        plainResult (BitVec.ofNat (2 * w) (y.toNat / x.toNat * 2 ^ w + y.toNat % x.toNat)) s
      else unlessTrapped s true (s.draw (2 * w)) := by
  refine binary_completes hs hi hl htb he fun x y t v u h => ?_
  by_cases hx : x.toNat = 0
  · rw [if_pos hx] at h
    cases h
  · rw [if_neg hx] at h
    rw [if_neg (mt (eq_zero_iff_toNat x).1 hx)]
    by_cases hq : y.toNat / x.toNat < 2 ^ w
    · rw [if_pos hq] at h
      simp only [if_neg (Nat.not_le.2 hq)]
      exact answers_of_plainResult h
    · rw [if_neg hq] at h
      simp only [if_pos (Nat.not_lt.1 hq)]
      exact answers_of_unlessTrapped (r := ⟨_, (t.draw (2 * w)).2, true⟩) rfl rfl h

theorem movI_completes (he : exec i s = conclude s (movI w i.length a b s)) :
    CompletesWrite i .int .int w w a b s fun x s => plainResult x s :=
  unary_completes hs hi hl htb he fun _ _ _ _ => answers_of_plainResult

theorem movX_completes {wa wb : Nat} (he : exec i s = conclude s (movX wa wb i.length a b s)) :
    CompletesWrite i .int .int wa wb a b s fun x s => plainResult (BitVec.ofInt wb x.toInt) s :=
  unary_completes hs hi hl htb he fun _ _ _ _ => answers_of_plainResult

theorem movZ_completes {wa wb : Nat} (he : exec i s = conclude s (movZ wa wb i.length a b s)) :
    CompletesWrite i .int .int wa wb a b s fun x s => plainResult (BitVec.ofNat wb x.toNat) s := by
  refine unary_completes hs hi hl htb he fun x t v u h => ?_
  rw [BitVec.ofNat_toNat] at h
  exact answers_of_plainResult h

omit htb in
theorem cmpI_completes (he : exec i s = conclude s (cmpI w i.length a b s)) :
    CompletesCompare i .int w a b s fun x y s =>
      some (((s.setFlag 6 (decide (x = y))).setFlag 7 (decide (y.toInt < x.toInt))).setFlag 2
        (decide (y.toNat < x.toNat))) := by
  obtain ⟨ha, hb⟩ := wellFormed_two hi hl
  refine completesCompare_of hs ha hb he fun x y t u h => ?_
  cases h
  rw [State.compareFlags, beq_eq_decide]
  rfl

end

/-! ## Instructions with a quick value -/

section
variable {i : Instr} {s : State} {w : Nat} {b : Gen} {tb : Attr} {q : BitVec 4}
  (hs : s.accessible) (hi : i.wellFormed = true) (hl : (layout i).operands = [(tb, b)])
include hs hi hl

theorem addQ_completes (htb : tb.immSize = none)
    (he : exec i s = conclude s (addQ w i.length q b s)) :
    CompletesModify i .int w b s fun y s => sumResult (q.signExtend w) y false s :=
  completesModify_of hs (wellFormed_one hi hl) htb he fun _ _ _ _ => answers_of_sumResult

theorem movQ_completes (htb : tb.immSize = none)
    (he : exec i s = conclude s (movQ w i.length q b s)) :
    CompletesStore i w b s (BitVec.ofInt w q.toInt) s :=
  completesStore_of hs (wellFormed_one hi hl) htb he ⟨rfl, rfl, rfl, rfl⟩

theorem cmpQ_completes (he : exec i s = conclude s (cmpQ w i.length q b s)) :
    CompletesRead i w b s fun y s =>
      ((s.setFlag 6 (decide (BitVec.ofInt w q.toInt = y))).setFlag 7
        (decide (y.toInt < (BitVec.ofInt w q.toInt).toInt))).setFlag 2
          (decide (y.toNat < (BitVec.ofInt w q.toInt).toNat)) := by
  refine completesRead_of hs (wellFormed_one hi hl) he fun y t => ?_
  rw [State.compareFlags, beq_eq_decide]
  rfl

end

end Sys2Proof.Machine

namespace Sys2Proof.Proofs

open Sys2Proof.Machine

/-- Settles O18: each instruction's shape completes (`binary_completes`, `completesModify_of`) with the
sum or difference of `addC` and `subB`. -/
theorem additionsAndSubtractions : Obligations.AdditionsAndSubtractions := by
  unfold Obligations.AdditionsAndSubtractions
  intro s q a b hs
  exact ⟨fun h => addI_completes hs h rfl rfl (exec_length (addI 8 · a b s) rfl),
    fun h => addI_completes hs h rfl rfl (exec_length (addI 16 · a b s) rfl),
    fun h => addI_completes hs h rfl rfl (exec_length (addI 32 · a b s) rfl),
    fun h => addCarry_completes hs h rfl rfl (exec_length (addCarry 8 · a b s) rfl),
    fun h => addCarry_completes hs h rfl rfl (exec_length (addCarry 16 · a b s) rfl),
    fun h => addCarry_completes hs h rfl rfl (exec_length (addCarry 32 · a b s) rfl),
    fun h => subI_completes hs h rfl rfl (exec_length (subI 8 · a b s) rfl),
    fun h => subI_completes hs h rfl rfl (exec_length (subI 16 · a b s) rfl),
    fun h => subI_completes hs h rfl rfl (exec_length (subI 32 · a b s) rfl),
    fun h => subCarry_completes hs h rfl rfl (exec_length (subCarry 8 · a b s) rfl),
    fun h => subCarry_completes hs h rfl rfl (exec_length (subCarry 16 · a b s) rfl),
    fun h => subCarry_completes hs h rfl rfl (exec_length (subCarry 32 · a b s) rfl),
    fun h => addQ_completes hs h rfl rfl (exec_length (addQ 8 · q b s) rfl),
    fun h => addQ_completes hs h rfl rfl (exec_length (addQ 16 · q b s) rfl),
    fun h => addQ_completes hs h rfl rfl (exec_length (addQ 32 · q b s) rfl)⟩

/-- Settles O19: NEG as a difference from zero, ABS and MUL as in integers, MEI by the low half that it
reads. -/
theorem negationAbsoluteValueAndProduct : Obligations.NegationAbsoluteValueAndProduct := by
  unfold Obligations.NegationAbsoluteValueAndProduct
  intro s a b hs
  exact ⟨fun h => negI_completes hs h rfl rfl (exec_length (negI 8 · a b s) rfl),
    fun h => negI_completes hs h rfl rfl (exec_length (negI 16 · a b s) rfl),
    fun h => negI_completes hs h rfl rfl (exec_length (negI 32 · a b s) rfl),
    fun h => absI_completes hs h rfl rfl (by decide) (exec_length (absI 8 · a b s) rfl),
    fun h => absI_completes hs h rfl rfl (by decide) (exec_length (absI 16 · a b s) rfl),
    fun h => absI_completes hs h rfl rfl (by decide) (exec_length (absI 32 · a b s) rfl),
    fun h => mulI_completes hs h rfl rfl (exec_length (mulI 8 · a b s) rfl),
    fun h => mulI_completes hs h rfl rfl (exec_length (mulI 16 · a b s) rfl),
    fun h => mulI_completes hs h rfl rfl (exec_length (mulI 32 · a b s) rfl),
    fun h => meiI_completes (w := 8) hs h rfl rfl rfl (exec_length (meiI 8 · a b s) rfl),
    fun h => meiI_completes (w := 16) hs h rfl rfl rfl (exec_length (meiI 16 · a b s) rfl),
    fun h => meiI_completes (w := 32) hs h rfl rfl rfl (exec_length (meiI 32 · a b s) rfl)⟩

/-- Settles O20: the four signed divisions are one shape (`signedDivision_completes`). -/
theorem divisions : Obligations.Divisions := by
  unfold Obligations.Divisions
  intro s a b hs
  exact ⟨fun h => signedDivision_completes hs h rfl rfl (by decide) (exec_length (divI 8 · a b s) rfl),
    fun h => signedDivision_completes hs h rfl rfl (by decide) (exec_length (divI 16 · a b s) rfl),
    fun h => signedDivision_completes hs h rfl rfl (by decide) (exec_length (divI 32 · a b s) rfl),
    fun h => signedDivision_completes hs h rfl rfl (by decide) (exec_length (modI 8 · a b s) rfl),
    fun h => signedDivision_completes hs h rfl rfl (by decide) (exec_length (modI 16 · a b s) rfl),
    fun h => signedDivision_completes hs h rfl rfl (by decide) (exec_length (modI 32 · a b s) rfl),
    fun h => signedDivision_completes hs h rfl rfl (by decide) (exec_length (quoI 8 · a b s) rfl),
    fun h => signedDivision_completes hs h rfl rfl (by decide) (exec_length (quoI 16 · a b s) rfl),
    fun h => signedDivision_completes hs h rfl rfl (by decide) (exec_length (quoI 32 · a b s) rfl),
    fun h => signedDivision_completes hs h rfl rfl (by decide) (exec_length (remI 8 · a b s) rfl),
    fun h => signedDivision_completes hs h rfl rfl (by decide) (exec_length (remI 16 · a b s) rfl),
    fun h => signedDivision_completes hs h rfl rfl (by decide) (exec_length (remI 32 · a b s) rfl),
    fun h => deiI_completes (w := 8) hs h rfl rfl (exec_length (deiI 8 · a b s) rfl),
    fun h => deiI_completes (w := 16) hs h rfl rfl (exec_length (deiI 16 · a b s) rfl),
    fun h => deiI_completes (w := 32) hs h rfl rfl (exec_length (deiI 32 · a b s) rfl)⟩

/-- Settles O21: the encodings are read off the layouts. -/
theorem moves : Obligations.Moves := by
  unfold Obligations.Moves
  intro s q a b hs
  exact ⟨encodedAs_of_layout rfl rfl rfl, encodedAs_of_layout rfl rfl rfl,
    encodedAs_of_layout rfl rfl rfl, encodedAs_of_layout rfl rfl rfl,
    encodedAs_of_layout rfl rfl rfl, encodedAs_of_layout rfl rfl rfl,
    encodedAs_of_layout rfl rfl rfl, encodedAs_of_layout rfl rfl rfl,
    encodedAs_of_layout rfl rfl rfl, encodedAs_of_layout rfl rfl rfl,
    encodedAs_of_layout rfl rfl rfl, encodedAs_of_layout rfl rfl rfl,
    fun h => movI_completes hs h rfl rfl (exec_length (movI 8 · a b s) rfl),
    fun h => movI_completes hs h rfl rfl (exec_length (movI 16 · a b s) rfl),
    fun h => movI_completes hs h rfl rfl (exec_length (movI 32 · a b s) rfl),
    fun h => movQ_completes hs h rfl rfl (exec_length (movQ 8 · q b s) rfl),
    fun h => movQ_completes hs h rfl rfl (exec_length (movQ 16 · q b s) rfl),
    fun h => movQ_completes hs h rfl rfl (exec_length (movQ 32 · q b s) rfl),
    fun h => movX_completes hs h rfl rfl (exec_length (movX 8 16 · a b s) rfl),
    fun h => movX_completes hs h rfl rfl (exec_length (movX 8 32 · a b s) rfl),
    fun h => movX_completes hs h rfl rfl (exec_length (movX 16 32 · a b s) rfl),
    fun h => movZ_completes hs h rfl rfl (exec_length (movZ 8 16 · a b s) rfl),
    fun h => movZ_completes hs h rfl rfl (exec_length (movZ 8 32 · a b s) rfl),
    fun h => movZ_completes hs h rfl rfl (exec_length (movZ 16 32 · a b s) rfl)⟩

/-- Settles O22: the encodings are read off the layouts. -/
theorem comparisons : Obligations.Comparisons := by
  unfold Obligations.Comparisons
  intro s q a b hs
  exact ⟨encodedAs_of_layout rfl rfl rfl, encodedAs_of_layout rfl rfl rfl,
    encodedAs_of_layout rfl rfl rfl, encodedAs_of_layout rfl rfl rfl,
    encodedAs_of_layout rfl rfl rfl, encodedAs_of_layout rfl rfl rfl,
    fun h => cmpI_completes hs h rfl (exec_length (cmpI 8 · a b s) rfl),
    fun h => cmpI_completes hs h rfl (exec_length (cmpI 16 · a b s) rfl),
    fun h => cmpI_completes hs h rfl (exec_length (cmpI 32 · a b s) rfl),
    fun h => cmpQ_completes hs h rfl (exec_length (cmpQ 8 · q b s) rfl),
    fun h => cmpQ_completes hs h rfl (exec_length (cmpQ 16 · q b s) rfl),
    fun h => cmpQ_completes hs h rfl (exec_length (cmpQ 32 · q b s) rfl)⟩

end Sys2Proof.Proofs
end

section
/-! The traps of integer instructions (R202, R203): Trap(DVZ) on a divisor that is zero, and Trap(OVF)
after the result has been delivered. -/

namespace Sys2Proof.Machine

/-! ## Outcomes that are traps -/

theorem conclude_dvz (s : State) : conclude s (.error (.trap .dvz)) = trapped s 6 := rfl

theorem overflowsTo_of {i : Instr} {s u : State} {x : Except Stop State} (he : exec i s = conclude s x)
    (hx : x = .error (.overflow u)) : overflowsTo i s u := by
  rw [overflowsTo, he, hx]
  rfl

/-! ## Division by zero -/

section
variable {i : Instr} {s s₁ s₂ : State} {w : Nat} {a b : Gen} {l : Loc}

/-- An operation that stops after both operands are read. -/
theorem binary_error {fa fb : File} {wa wb len : Nat} {x : BitVec wa} {y : BitVec wb} {e : Stop}
    {op : BitVec wa → BitVec wb → State → Except Stop (Result wb)}
    (hx : readGen fa wa s.sp a s = .ok (x, s₁)) (hl : rmwLoc fb s.sp b s₁ = .ok l)
    (hy : readAt wb l s₁ = .ok (y, s₂)) (hop : op x y s₂ = .error e) :
    binary fa fb wa wb len a b s op = .error e := by
  simp only [binary, bind, Except.bind, hx, hl, hy, hop]

/-- DIVi, MODi, QUOi and REMi with a zero source (R202). -/
theorem signedDivision_dvz {f : Int → Int → Int} {o : Bool}
    (he : exec i s = conclude s (signedDivision w i.length a b s f o)) (x : BitVec w) (s₁ : State)
    (l : Loc) (y : BitVec w) (s₂ : State) (hx : readGen .int w s.sp a s = .ok (x, s₁))
    (hl : rmwLoc .int s.sp b s₁ = .ok l) (hy : readAt w l s₁ = .ok (y, s₂)) (h0 : x = 0) :
    exec i s = trapped s 6 := by
  rw [he, signedDivision, binary_error hx hl hy (if_pos h0), conclude_dvz]

theorem deiI_dvz (he : exec i s = conclude s (deiI w i.length a b s)) (x : BitVec w) (s₁ : State)
    (l : Loc) (y : BitVec (2 * w)) (s₂ : State) (hx : readGen .int w s.sp a s = .ok (x, s₁))
    (hl : rmwLoc .pair s.sp b s₁ = .ok l) (hy : readAt (2 * w) l s₁ = .ok (y, s₂)) (h0 : x = 0) :
    exec i s = trapped s 6 := by
  rw [he, deiI, binary_error hx hl hy (if_pos h0), conclude_dvz]

end

/-! ## Overflow -/

/-- An operation answers a value and a state that are delivered, and overflows; V stays. -/
def Overflowing {w : Nat} (op : Except Stop (Result w)) (s : State) (v : BitVec w) (u : State) : Prop :=
  op = .ok ⟨v, u, true⟩ ∧ u.flagV = s.flagV

/-- Where a statement's `whereOverflow` gives a result, the operation's is that result. -/
theorem overflowing_of {w : Nat} {r : Result w} {s u : State} {ovf : Bool} {p : BitVec w × State}
    {v : BitVec w} (hr : ovf = true → r = ⟨p.1, p.2, true⟩) (hV : p.2.flagV = s.flagV)
    (h : whereOverflow ovf p = some (v, u)) : Overflowing (.ok r) s v u := by
  cases ovf with
  | false => cases h
  | true =>
    cases h
    exact ⟨by rw [hr rfl], hV⟩

/-- A result that overflows is written, PC passes the instruction, and Trap(OVF) follows. -/
theorem deliver_overflow {w len : Nat} {l : Loc} {v : BitVec w} {u t : State}
    (ht : writeAt l v u = .ok t) (hV : u.flagV = true) :
    deliver len l ⟨v, u, true⟩ = .error (.overflow (t.advance len)) := by
  have hp : (t.advance len).flagV = true := (flagV_of_psr (writeAt_psr ht)).trans hV
  change (writeAt l v u).bind _ = _
  rw [ht]
  change ovfTrap true (t.advance len) = _
  rw [ovfTrap, hp]
  rfl

section
variable {i : Instr} {s : State} {w : Nat} {a b : Gen}

theorem binary_overflows {fb : File} {wa wb : Nat}
    {op : BitVec wa → BitVec wb → State → Except Stop (Result wb)}
    {out : BitVec wa → BitVec wb → State → Option (BitVec wb × State)}
    (he : exec i s = conclude s (binary .int fb wa wb i.length a b s op))
    (hop : ∀ x y t v u, out x y t = some (v, u) → Overflowing (op x y t) t v u) :
    OverflowsRmw i fb wa wb a b s out := by
  intro x s₁ l y s₂ v s₃ t hx hl hy hV ho ht
  obtain ⟨hr, hV₃⟩ := hop x y s₂ v s₃ ho
  refine overflowsTo_of he ?_
  simp only [binary, bind, Except.bind, hx, hl, hy, hr, deliver_overflow ht (hV₃.trans hV)]

theorem modify_overflows {op : BitVec w → State → Except Stop (Result w)}
    {out : BitVec w → State → Option (BitVec w × State)}
    (he : exec i s = conclude s (modify .int w i.length b s op))
    (hop : ∀ y t v u, out y t = some (v, u) → Overflowing (op y t) t v u) :
    OverflowsModify i w b s out := by
  intro l y s₂ v s₃ t hl hy hV ho ht
  obtain ⟨hr, hV₃⟩ := hop y s₂ v s₃ ho
  refine overflowsTo_of he ?_
  simp only [modify, bind, Except.bind, hl, hy, hr, deliver_overflow ht (hV₃.trans hV)]

theorem unary_overflows {op : BitVec w → State → Except Stop (Result w)}
    {out : BitVec w → State → Option (BitVec w × State)}
    (he : exec i s = conclude s (unary .int .int w w i.length a b s op))
    (hop : ∀ x t v u, out x t = some (v, u) → Overflowing (op x t) t v u) :
    OverflowsWrite i w a b s out := by
  intro x s₁ l v s₃ t hx hl hV ho ht
  obtain ⟨hr, hV₃⟩ := hop x s₁ v s₃ ho
  refine overflowsTo_of he ?_
  simp only [unary, bind, Except.bind, hx, hl, hr, deliver_overflow ht (hV₃.trans hV)]

/-! ### Sums and differences -/

theorem addI_overflows (he : exec i s = conclude s (addI w i.length a b s)) :
    OverflowsRmw i .int w w a b s fun x y s =>
      whereOverflow (outOfRange w (y.toInt + x.toInt))
        (y + x, (s.setC (decide (2 ^ w ≤ x.toNat + y.toNat))).setF true) := by
  refine binary_overflows he fun x y t v u => overflowing_of (fun ho => ?_) (by simp)
  simp only [arithResult, addC, not_fitsSigned, Bool.toNat_false, Nat.cast_zero, Int.add_zero, ho,
    Nat.add_zero, BitVec.add_zero, Nat.add_comm y.toNat]

theorem addCarry_overflows (he : exec i s = conclude s (addCarry w i.length a b s)) :
    OverflowsRmw i .int w w a b s fun x y s =>
      whereOverflow (outOfRange w (x.toInt + y.toInt + s.flagC.toNat))
        (BitVec.ofNat w (x.toNat + y.toNat + s.flagC.toNat),
          (s.setC (decide (2 ^ w ≤ x.toNat + y.toNat + s.flagC.toNat))).setF true) := by
  refine binary_overflows he fun x y t v u => overflowing_of (fun ho => ?_) (by simp)
  rw [arithResult_addC, ho]

theorem addQ_overflows (hw : 4 ≤ w) {q : BitVec 4} (he : exec i s = conclude s (addQ w i.length q b s)) :
    OverflowsModify i w b s fun y s =>
      whereOverflow (outOfRange w (y.toInt + q.toInt))
        (BitVec.ofInt w (y.toInt + q.toInt),
          (s.setC (decide (2 ^ w ≤ y.toNat + (q.signExtend w).toNat))).setF true) := by
  refine modify_overflows he fun y t v u => overflowing_of (fun ho => ?_) (by simp)
  have hv : BitVec.ofInt w (y.toInt + q.toInt) = y + quickValue w q := by
    rw [BitVec.ofInt_add, BitVec.ofInt_toInt]
    rfl
  simp only [arithResult, addC, not_fitsSigned, Bool.toNat_false, Nat.cast_zero, Int.add_zero,
    toInt_quickValue hw, ho, hv, Nat.add_zero, BitVec.add_zero]
  rfl

theorem subI_overflows (he : exec i s = conclude s (subI w i.length a b s)) :
    OverflowsRmw i .int w w a b s fun x y s =>
      whereOverflow (outOfRange w (y.toInt - x.toInt))
        (y - x, (s.setC (decide (y.toNat < x.toNat))).setF true) := by
  refine binary_overflows he fun x y t v u => overflowing_of (fun ho => ?_) (by simp)
  simp only [arithResult, subB, not_fitsSigned, Bool.toNat_false, Nat.cast_zero, Int.sub_zero, ho,
    Nat.add_zero, BitVec.sub_zero]

theorem subCarry_overflows (he : exec i s = conclude s (subCarry w i.length a b s)) :
    OverflowsRmw i .int w w a b s fun x y s =>
      whereOverflow (outOfRange w (y.toInt - x.toInt - s.flagC.toNat))
        (BitVec.ofInt w ((y.toNat : Int) - x.toNat - s.flagC.toNat),
          (s.setC (decide (y.toNat < x.toNat + s.flagC.toNat))).setF true) := by
  refine binary_overflows he fun x y t v u => overflowing_of (fun ho => ?_) (by simp)
  rw [arithResult_subB, ho]

/-- ADDi as O58 puts it: the trap's entry, from the state after the delivery. -/
theorem addI_overflow_entry (he : exec i s = conclude s (addI w i.length a b s)) (x : BitVec w) (s₁ : State) (l : Loc)
    (y : BitVec w) (s₂ t : State) (hx : readGen .int w s.sp a s = .ok (x, s₁))
    (hl : rmwLoc .int s.sp b s₁ = .ok l) (hy : readAt w l s₁ = .ok (y, s₂)) (hV : s₂.flagV = true)
    (ho : outOfRange w (y.toInt + x.toInt) = true)
    (ht : writeAt l (y + x) ((s₂.setC (decide (2 ^ w ≤ x.toNat + y.toNat))).setF true) = .ok t) :
    exec i s = takeException (t.advance i.length) 13 (t.pc + BitVec.ofNat 32 i.length) false t.psr :=
  addI_overflows he x s₁ l y s₂ _ _ t hx hl hy hV (if_pos ho) ht

/-- SUBi as O58 puts it: the trap's entry, from the state after the delivery. -/
theorem subI_overflow_entry (he : exec i s = conclude s (subI w i.length a b s)) (x : BitVec w) (s₁ : State) (l : Loc)
    (y : BitVec w) (s₂ t : State) (hx : readGen .int w s.sp a s = .ok (x, s₁))
    (hl : rmwLoc .int s.sp b s₁ = .ok l) (hy : readAt w l s₁ = .ok (y, s₂)) (hV : s₂.flagV = true)
    (ho : outOfRange w (y.toInt - x.toInt) = true)
    (ht : writeAt l (y - x) ((s₂.setC (decide (y.toNat < x.toNat))).setF true) = .ok t) :
    exec i s = takeException (t.advance i.length) 13 (t.pc + BitVec.ofNat 32 i.length) false t.psr :=
  subI_overflows he x s₁ l y s₂ _ _ t hx hl hy hV (if_pos ho) ht

/-! ### Negations and magnitudes -/

/-- The most negative value is its own negation, and its subtraction from zero borrows (R210). -/
theorem arithResult_neg_min {x : BitVec w} (hw : 0 < w) (hx : x.toInt = -2 ^ (w - 1)) (t : State) :
    arithResult (subB 0 x false) t = ⟨x, (t.setC true).setF true, true⟩ := by
  have hneg : -x = x := by
    rw [← BitVec.ofInt_toInt (x := x), ← BitVec.ofInt_neg, ofInt_neg_of_min hw hx, BitVec.ofInt_toInt]
  have hpos : 0 < x.toNat := Nat.pos_of_ne_zero fun h0 => by
    have := (eq_zero_iff_toInt x).1 ((eq_zero_iff_toNat x).2 h0)
    have := Int.pow_pos (n := 2) (m := w - 1) (by decide)
    omega
  have hov : outOfRange w (-x.toInt) = true := by rw [outOfRange_neg_toInt, decide_eq_true hx]
  simp [arithResult, subB, not_fitsSigned, hneg, hpos, hov]

theorem negI_overflows (hw : 0 < w) (he : exec i s = conclude s (negI w i.length a b s)) :
    OverflowsWrite i w a b s fun x s =>
      whereOverflow (decide (x.toInt = -2 ^ (w - 1))) (x, (s.setC true).setF true) :=
  unary_overflows he fun _ t _ _ =>
    overflowing_of (fun ho => arithResult_neg_min hw (of_decide_eq_true ho) t) (by simp)

theorem absI_overflows (hw : 0 < w) (he : exec i s = conclude s (absI w i.length a b s)) :
    OverflowsWrite i w a b s fun x s =>
      whereOverflow (decide (x.toInt = -2 ^ (w - 1))) (x, s.setF true) := by
  refine unary_overflows he fun x t v u => overflowing_of (fun ho => ?_) (by simp)
  have hx := of_decide_eq_true ho
  have hneg : x.toInt < 0 := by
    rw [hx]
    simp
  have hv : BitVec.ofInt w x.toInt.natAbs = x := by
    rw [Int.ofNat_natAbs_of_nonpos (Int.le_of_lt hneg), ofInt_neg_of_min hw hx]
  rw [abs_value, hv, beq_minSigned hw, ho]

/-! ### Products, quotients and shifts -/

theorem mulI_overflows (he : exec i s = conclude s (mulI w i.length a b s)) :
    OverflowsRmw i .int w w a b s fun x y s =>
      whereOverflow (outOfRange w (x.toInt * y.toInt)) (BitVec.ofInt w (x.toInt * y.toInt), s) := by
  refine binary_overflows he fun x y t v u => overflowing_of (fun ho => ?_) rfl
  rw [not_fitsSigned, mul_value_signed, ho]

/-- DIVi and QUOi of the most negative value by -1, whose quotient is that value modulo 2^w (D14). -/
theorem signedDivision_overflows (hw : 0 < w) {f : Int → Int → Int} (hf : ∀ n, f n (-1) = -n)
    (he : exec i s = conclude s (signedDivision w i.length a b s f true)) :
    OverflowsRmw i .int w w a b s fun x y s =>
      whereOverflow (decide (y.toInt = -2 ^ (w - 1) ∧ x.toInt = -1)) (y, s) := by
  refine binary_overflows he fun x y t v u h => ?_
  have hx : ¬ x = 0 := fun h0 => by simp [whereOverflow, h0] at h
  rw [if_neg hx]
  refine overflowing_of (p := (y, t)) (fun ho => ?_) rfl h
  obtain ⟨hy, hx⟩ := of_decide_eq_true ho
  rw [division_overflow hw, ho, hx, hf, ofInt_neg_of_min hw hy]
  rfl

theorem fdiv_neg_one (n : Int) : n.fdiv (-1) = -n := by
  rw [Int.fdiv_neg (by decide), if_pos (one_dvd n), Int.fdiv_one]

theorem tdiv_neg_one (n : Int) : n.tdiv (-1) = -n := by rw [Int.tdiv_neg, Int.tdiv_one]

theorem deiI_overflows (he : exec i s = conclude s (deiI w i.length a b s)) :
    OverflowsRmw i .pair w (2 * w) a b s fun x y s =>
      whereOverflow (decide (x.toNat ≠ 0 ∧ 2 ^ w ≤ y.toNat / x.toNat)) (s.draw (2 * w)) := by
  refine binary_overflows he fun x y t v u h => ?_
  by_cases hc : x.toNat ≠ 0 ∧ 2 ^ w ≤ y.toNat / x.toNat
  · obtain ⟨hx, hq⟩ := hc
    simp only [if_neg (mt (eq_zero_iff_toNat x).1 hx), if_pos hq]
    exact overflowing_of (fun _ => rfl) rfl h
  · rw [decide_eq_false hc] at h
    cases h

/-- A shift left by a count below the length overflows where a significant bit is lost (R308). -/
theorem ashI_overflows (he : exec i s = conclude s (ashI w i.length a b s)) :
    OverflowsRmw i .int 8 w a b s fun c y s =>
      whereOverflow (decide (0 ≤ c.toInt ∧ c.toInt < w) && outOfRange w (y.toInt * 2 ^ c.toInt.toNat))
        (BitVec.ofInt w (y.toInt * 2 ^ c.toInt.toNat), s) := by
  unfold ashI shift at he
  refine binary_overflows he fun c y t v u h => ?_
  by_cases hc : 0 ≤ c.toInt ∧ c.toInt < w
  · obtain ⟨h0, hw⟩ := hc
    have habs : c.toInt.natAbs = c.toInt.toNat := by omega
    rw [if_neg (by omega), if_pos h0, habs]
    refine overflowing_of (p := (_, t)) (fun ho => ?_) rfl h
    rw [Bool.and_eq_true] at ho
    simp only [not_fitsSigned, ho.2, shiftLeft_value]
  · rw [decide_eq_false hc, Bool.false_and] at h
    cases h

/-! ### CHECKi and ACBi -/

theorem checkI_overflows {r : Reg} (he : exec i s = conclude s (checkI w i.length r a b s)) (ea : Word)
    (x : BitVec w) (s₁ : State) (up lo : BitVec w) (ha : genAddr s.sp s a = .ok ea)
    (hx : readGen .int w s.sp b s = .ok (x, s₁)) (hup : s₁.read w ea = .ok up)
    (hlo : s₁.read w (ea + BitVec.ofNat 32 (w / 8)) = .ok lo)
    (hout : x.toInt < lo.toInt ∨ up.toInt < x.toInt) (hV : s₁.flagV = true) :
    overflowsTo i s ((((s₁.setF true).draw 32).2.setReg r ((s₁.setF true).draw 32).1).advance
      i.length) := by
  have ho : (decide (up.toInt < x.toInt) || decide (x.toInt < lo.toInt)) = true := by
    simpa [or_comm] using hout
  have hov (u : State) (hu : u.flagV = true) : ovfTrap true u = .error (.overflow u) := by
    simp [ovfTrap, hu]
  refine overflowsTo_of he ?_
  simp only [checkI, bind, Except.bind, ha, hx, hup, hlo, ho, if_true]
  exact hov _ ((flagV_setF s₁ true).trans hV)

/-- A quick value added to a value of eight bits or more and out of range is not zero modulo 2^w, so
that ACBi branches (R386). -/
theorem add_quick_ne_zero (hw : 8 ≤ w) (y : BitVec w) (q : BitVec 4)
    (ho : outOfRange w (y.toInt + q.toInt) = true) : y + quickValue w q ≠ 0 := by
  intro h0
  have hdvd : ((2 ^ w : Nat) : Int) ∣ y.toInt + q.toInt := by
    rw [Int.dvd_iff_bmod_eq_zero, ← BitVec.toInt_ofInt, BitVec.ofInt_add, BitVec.ofInt_toInt]
    exact (eq_zero_iff_toInt _).1 h0
  have hpow : ((2 ^ w : Nat) : Int) = 2 * 2 ^ (w - 1) := by
    rw [Nat.cast_pow, ← pow_succ', Nat.sub_add_cancel (by omega)]
    rfl
  have h128 : (2 : Int) ^ 7 ≤ 2 ^ (w - 1) := pow_le_pow_right₀ (by decide) (by omega)
  have hylo := y.le_toInt
  have hyhi := y.toInt_lt
  have hqlo := q.le_toInt
  have hqhi := q.toInt_lt
  simp only [outOfRange, Bool.or_eq_true, decide_eq_true_eq] at ho
  rw [hpow] at hdvd
  generalize (2 : Int) ^ (w - 1) = m at *
  have hne : y.toInt + q.toInt ≠ 0 := by omega
  have hle := Int.le_of_dvd (Int.natAbs_pos.2 hne |> Int.ofNat_lt.2) (Int.dvd_natAbs.2 hdvd)
  omega

theorem acbI_overflows (hw : 8 ≤ w) {q : BitVec 4} {d : Disp}
    (he : exec i s = conclude s (acbI w i.length q b d s)) (l : Loc) (y : BitVec w) (s₁ t : State)
    (hl : rmwLoc .int s.sp b s = .ok l) (hy : readAt w l s = .ok (y, s₁))
    (ht : writeAt l (y + BitVec.ofInt w q.toInt) s₁ = .ok t) (hV : s.flagV = true)
    (ho : outOfRange w (y.toInt + q.toInt) = true) :
    overflowsTo i s (t.jump (s.pc + dispValue d)) := by
  have hval : (addC y (quickValue w q) false).value = y + quickValue w q := BitVec.add_zero _
  have hovf : (addC y (quickValue w q) false).ovf = true := by
    simp only [addC, not_fitsSigned, toInt_quickValue (show 4 ≤ w by omega), Bool.toNat_false,
      Nat.cast_zero, Int.add_zero, ho]
  have hVt : t.flagV = true := by
    rw [flagV_of_psr (writeAt_psr ht), flagV_of_psr (readAt_psr hy), hV]
  have hpc : t.pc = s.pc := by
    obtain ⟨⟨_, _, _, _, _, _, _, rfl⟩, -⟩ := writeAt_spec ht
    obtain rfl | rfl := readAt_spec hy <;> rfl
  refine overflowsTo_of he ?_
  have hwrite : writeAt l (y + quickValue w q) s₁ = .ok t := ht
  have hjump : (t.jump (s.pc + dispValue d)).flagV = true := hVt
  simp only [acbI, bind, Except.bind, hl, hy, hval, hovf, hwrite, if_neg (add_quick_ne_zero hw y q ho),
    hpc, ovfTrap, hjump, Bool.and_self, if_true]

end

end Sys2Proof.Machine

namespace Sys2Proof.Proofs

open Sys2Proof.Machine

/-- Settles O58: the division stops after its operands are read, and ADDi and SUBi stop after they have
delivered (`binary_overflows`). -/
theorem arithmeticTraps : Obligations.ArithmeticTraps := by
  unfold Obligations.ArithmeticTraps
  intro s a b
  exact ⟨signedDivision_dvz (exec_length (divI 8 · a b s) rfl),
    signedDivision_dvz (exec_length (divI 16 · a b s) rfl),
    signedDivision_dvz (exec_length (divI 32 · a b s) rfl),
    signedDivision_dvz (exec_length (modI 8 · a b s) rfl),
    signedDivision_dvz (exec_length (modI 16 · a b s) rfl),
    signedDivision_dvz (exec_length (modI 32 · a b s) rfl),
    signedDivision_dvz (exec_length (quoI 8 · a b s) rfl),
    signedDivision_dvz (exec_length (quoI 16 · a b s) rfl),
    signedDivision_dvz (exec_length (quoI 32 · a b s) rfl),
    signedDivision_dvz (exec_length (remI 8 · a b s) rfl),
    signedDivision_dvz (exec_length (remI 16 · a b s) rfl),
    signedDivision_dvz (exec_length (remI 32 · a b s) rfl),
    deiI_dvz (w := 8) (exec_length (deiI 8 · a b s) rfl),
    deiI_dvz (w := 16) (exec_length (deiI 16 · a b s) rfl),
    deiI_dvz (w := 32) (exec_length (deiI 32 · a b s) rfl),
    addI_overflow_entry (exec_length (addI 8 · a b s) rfl),
    addI_overflow_entry (exec_length (addI 16 · a b s) rfl),
    addI_overflow_entry (exec_length (addI 32 · a b s) rfl),
    subI_overflow_entry (exec_length (subI 8 · a b s) rfl),
    subI_overflow_entry (exec_length (subI 16 · a b s) rfl),
    subI_overflow_entry (exec_length (subI 32 · a b s) rfl)⟩

end Sys2Proof.Proofs
end

section
/-! Trap(FPU) (R253, R257, R258, R278): a reserved operand, or a delivery that fails, takes the trap from
the state in which the instruction began, with FSR alone changed. -/

namespace Sys2Proof.Machine

theorem needFpu_of_cfgF {s : State} (hf : s.cfgF = true) : needFpu s = .ok () := by
  rw [needFpu, hf]
  rfl

theorem conclude_fpu (s : State) (f : Word) : conclude s (.error (.fpu f)) =
    takeException { s with fsr := f } 3 s.pc false (s.psr &&& 0xFBFF) := rfl

/-- Reading an operand leaves the floating-point registers and FSR (R258). -/
theorem readGen_float {f : File} {w : Nat} {spi : Word} {g : Gen} {s t : State} {x : BitVec w}
    (h : readGen f w spi g s = .ok (x, t)) : t.fd = s.fd ∧ t.fsr = s.fsr := by
  obtain rfl | ⟨-, rfl⟩ | ⟨-, -, -, -, rfl⟩ := readGen_spec h <;> simp

theorem readAt_fsr {w : Nat} {l : Loc} {s t : State} {x : BitVec w} (h : readAt w l s = .ok (x, t)) :
    t.fsr = s.fsr := by
  obtain rfl | rfl := readAt_spec h <;> rfl

theorem freg_of_fd {s t : State} (h : t.fd = s.fd) (w : Nat) (r : Reg) : t.freg w r = s.freg w r := by
  simp only [State.freg, State.freg32, h]

/-! ## Where an operation fails -/

/-- A check of reserved operands and then an operation, where they fail (R253, R260). -/
theorem checked_fails {α β : Type} {s : State} {bad : Bool} {r : Except Stop α} {k : Except Stop β}
    {g : Word} (hk : ∀ e, r = .error e → k = .error e) (h : floatFailure s.fsr bad r = some g) :
    (checkReserved s bad >>= fun _ => k) = .error (.fpu g) := by
  cases bad with
  | true =>
    cases h
    rfl
  | false =>
    change k = _
    cases r with
    | ok v => cases h
    | error e =>
      cases e with
      | fpu f =>
        cases h
        exact hk _ rfl
      | _ => cases h

/-- An operation fails where its first part does. -/
theorem bind_fails {α β : Type} {r : Except Stop α} {k : α → Except Stop β} (e : Stop)
    (h : r = .error e) : (r >>= k) = .error e := by
  rw [h]
  rfl

/-- An operation that cannot stop, where only reserved operands fail. -/
theorem never_fails {α β : Type} {v : α} {k : Except Stop β} (e : Stop)
    (h : (.ok v : Except Stop α) = .error e) : k = .error e := nomatch h

/-! ## Shapes -/

section
variable {i : Instr} {s : State} {w : Nat} {a b : Gen}

/-- With the unit enabled, a body that stops with Trap(FPU) is a trap that changes FSR alone. -/
theorem exec_fpu {x : Except Stop State} {g : Word} (hf : s.cfgF = true)
    (he : exec i s = conclude s (needFpu s >>= fun _ => x)) (hx : x = .error (.fpu g)) :
    exec i s = takeException { s with fsr := g } 3 s.pc false (s.psr &&& 0xFBFF) := by
  rw [he, needFpu_of_cfgF hf, hx]
  exact conclude_fpu s g

theorem fpBinary_traps {f : Word → BitVec w → BitVec w → Except Stop (BitVec w × Word)}
    {fails : BitVec w → BitVec w → Option Word} (hf : s.cfgF = true)
    (he : exec i s = conclude s (fpBinary w i.length a b s f))
    (hop : ∀ x y g, fails x y = some g →
      floatFailure s.fsr (fpReserved x || fpReserved y) (f s.fsr x y) = some g) :
    FloatTrapsRmw i w a b s fails := by
  intro x s₁ l y s₂ g hx hl hy hg
  have hc := hop x y g hg
  rw [← (readGen_float hx).2, ← readAt_fsr hy] at hc
  exact exec_fpu hf he (binary_error hx hl hy (checked_fails bind_fails hc))

/-- An operation that stops after both sources are read. -/
theorem sources_error {fa fb : File} {wa wb len : Nat} {s₁ s₂ : State} {x : BitVec wa} {y : BitVec wb}
    {e : Stop} {op : BitVec wa → BitVec wb → State → Except Stop State}
    (hx : readGen fa wa s.sp a s = .ok (x, s₁)) (hy : readGen fb wb s.sp b s₁ = .ok (y, s₂))
    (hop : op x y s₂ = .error e) : sources fa fb wa wb len a b s op = .error e := by
  simp only [sources, bind, Except.bind, hx, hy, hop]

/-- DOTf and POLYf, whose third operand is F0 (R265, R266). -/
theorem fpAccumulate_traps {f : Word → BitVec w → BitVec w → BitVec w → Except Stop (BitVec w × Word)}
    (hf : s.cfgF = true) (he : exec i s = conclude s (fpAccumulate w i.length a b s f)) :
    FloatTrapsCompare i w a b s fun x y =>
      floatFailure s.fsr (fpReserved x || fpReserved y || fpReserved (s.freg w 0))
        (f s.fsr x y (s.freg w 0)) := by
  intro x s₁ y s₂ g hx hy hg
  obtain ⟨hfd₁, hfsr₁⟩ := readGen_float hx
  obtain ⟨hfd₂, hfsr₂⟩ := readGen_float hy
  simp only [← freg_of_fd (hfd₂.trans hfd₁), ← hfsr₂.trans hfsr₁] at hg
  exact exec_fpu hf he (sources_error hx hy (checked_fails bind_fails hg))

theorem cmpFp_traps (hf : s.cfgF = true) (he : exec i s = conclude s (cmpFp w i.length a b s)) :
    FloatTrapsCompare i w a b s fun x y =>
      floatFailure s.fsr (fpReserved x || fpReserved y) (.ok ()) := by
  intro x s₁ y s₂ g hx hy hg
  simp only [← (readGen_float hx).2, ← (readGen_float hy).2] at hg
  exact exec_fpu hf he (sources_error hx hy (checked_fails never_fails hg))

/-- An operation that stops after its source is read. -/
theorem unary_error {fa fb : File} {wa wb len : Nat} {s₁ : State} {l : Loc} {x : BitVec wa} {e : Stop}
    {op : BitVec wa → State → Except Stop (Result wb)} (hx : readGen fa wa s.sp a s = .ok (x, s₁))
    (hl : writeLoc fb s.sp b s₁ = .ok l) (hop : op x s₁ = .error e) :
    unary fa fb wa wb len a b s op = .error e := by
  simp only [unary, bind, Except.bind, hx, hl, hop]

theorem fpUnary_traps {fb : File} {wb : Nat} {f : BitVec w → State → Except Stop (Result wb)}
    {α : Type} {r : BitVec w → Except Stop α} (hf : s.cfgF = true)
    (he : exec i s = conclude s (fpUnary fb w wb i.length a b s f))
    (hop : ∀ x t, t.fsr = s.fsr → ∀ e, r x = .error e → f x t = .error e) :
    FloatTrapsWrite i .float fb w a b s fun x => floatFailure s.fsr (fpReserved x) (r x) := by
  intro x s₁ l g hx hl hg
  have hfsr := (readGen_float hx).2
  rw [← hfsr] at hg
  exact exec_fpu hf he (unary_error hx hl (checked_fails (hop x s₁ hfsr) hg))

/-- MOVif, whose source is an integer and never reserved (R277). -/
theorem movIF_traps {wf : Nat} (hf : s.cfgF = true)
    (he : exec i s = conclude s (movIF w wf i.length a b s)) :
    FloatTrapsWrite i .int .float w a b s fun x =>
      floatFailure s.fsr false (fpDeliver wf s.fsr (exactOf x.toInt 0) false) := by
  intro x s₁ l g hx hl hg
  simp only [← (readGen_float hx).2] at hg
  exact exec_fpu hf he (unary_error hx hl (checked_fails bind_fails hg))

/-! ## Operations -/

/-- NEGf, ABSf and LOGBf, which fail only on a reserved operand (R267, R268, R271). -/
theorem fpUnary_traps_reserved {fb : File} {wb : Nat} {f : BitVec w → State → Except Stop (Result wb)}
    (hf : s.cfgF = true) (he : exec i s = conclude s (fpUnary fb w wb i.length a b s f)) :
    FloatTrapsWrite i .float fb w a b s fun x => floatFailure s.fsr (fpReserved x) (.ok ()) :=
  fpUnary_traps (r := fun _ => .ok ()) hf he fun _ _ _ => never_fails

/-- MOVLF and MOVFL (R273, R274). -/
theorem convertFp_traps {wb : Nat} (hf : s.cfgF = true)
    (he : exec i s = conclude s (convertFp w wb i.length a b s)) :
    FloatTrapsWrite i .float .float w a b s fun x =>
      floatFailure s.fsr (fpReserved x) (fpDeliver wb s.fsr (fpValue x) (fpSign x)) :=
  fpUnary_traps hf he fun _ _ ht => ht ▸ bind_fails

/-- ROUNDfi, TRUNCfi and FLOORfi (R278 to R280). -/
theorem fpInteger_traps {wi : Nat} {m : ToInt} (hf : s.cfgF = true)
    (he : exec i s = conclude s (fpInteger m w wi i.length a b s)) :
    FloatTrapsWrite i .float .int w a b s fun x =>
      floatFailure s.fsr (fpReserved x) (fpToInt wi s.fsr (fpValue x) m) :=
  fpUnary_traps hf he fun _ _ ht => ht ▸ bind_fails

/-- ADDf, SUBf and MULf, which fail on a reserved operand or where their delivery does (R261 to R263). -/
theorem fpBinary_traps_delivery {f : Word → BitVec w → BitVec w → Except Stop (BitVec w × Word)}
    (hf : s.cfgF = true) (he : exec i s = conclude s (fpBinary w i.length a b s f)) :
    FloatTrapsRmw i w a b s fun x y =>
      floatFailure s.fsr (fpReserved x || fpReserved y) (f s.fsr x y) :=
  fpBinary_traps hf he fun _ _ _ h => h

/-- DIVf of operands neither of which is zero (R264). -/
theorem divFp_traps (hf : s.cfgF = true) (he : exec i s = conclude s (divFp w i.length a b s)) :
    FloatTrapsRmw i w a b s fun x y =>
      if fpIsZero x || fpIsZero y then none
      else floatFailure s.fsr (fpReserved x || fpReserved y)
        (fpDeliver w s.fsr ((fpValue y).div (fracBits w + 1) (fpValue x)) false) := by
  refine fpBinary_traps hf he fun x y g h => ?_
  split at h
  · cases h
  · next hz =>
    rw [Bool.or_eq_true, not_or] at hz
    rw [if_neg hz.1, if_neg hz.2]
    exact h

/-- SCALBf of a destination that is not zero (R272). -/
theorem scalbFp_traps (hf : s.cfgF = true) (he : exec i s = conclude s (scalbFp w i.length a b s)) :
    FloatTrapsRmw i w a b s fun x y =>
      if fpIsZero y then none
      else floatFailure s.fsr (fpReserved x || fpReserved y) (fpDeliver w s.fsr
        { fpValue y with exp := (fpValue y).exp + (fpValue x).toInteger .trunc } false) := by
  refine fpBinary_traps hf he fun x y g h => ?_
  split at h
  · cases h
  · next hz =>
    rw [if_neg hz]
    exact h

end

end Sys2Proof.Machine

namespace Sys2Proof.Proofs

open Sys2Proof.Machine

/-- Settles O13: an integer instruction that overflows delivers and then stops (`binary_overflows` and
its like), a floating-point one stops before it delivers (`fpBinary_traps` and its like). -/
theorem overflowAndFloatTraps : Obligations.OverflowAndFloatTraps := by
  unfold Obligations.OverflowAndFloatTraps
  intro s q r a b d
  refine ⟨addCarry_overflows (exec_length (addCarry 8 · a b s) rfl),
    addQ_overflows (by decide) (exec_length (addQ 8 · q b s) rfl),
    subCarry_overflows (exec_length (subCarry 8 · a b s) rfl),
    negI_overflows (by decide) (exec_length (negI 8 · a b s) rfl),
    absI_overflows (by decide) (exec_length (absI 8 · a b s) rfl),
    mulI_overflows (exec_length (mulI 8 · a b s) rfl),
    signedDivision_overflows (by decide) fdiv_neg_one (exec_length (divI 8 · a b s) rfl),
    signedDivision_overflows (by decide) tdiv_neg_one (exec_length (quoI 8 · a b s) rfl),
    deiI_overflows (w := 8) (exec_length (deiI 8 · a b s) rfl),
    ashI_overflows (exec_length (ashI 8 · a b s) rfl),
    checkI_overflows (exec_length (checkI 8 · r a b s) rfl),
    acbI_overflows (by decide) (exec_length (acbI 8 · q b d s) rfl),
    addCarry_overflows (exec_length (addCarry 16 · a b s) rfl),
    addQ_overflows (by decide) (exec_length (addQ 16 · q b s) rfl),
    subCarry_overflows (exec_length (subCarry 16 · a b s) rfl),
    negI_overflows (by decide) (exec_length (negI 16 · a b s) rfl),
    absI_overflows (by decide) (exec_length (absI 16 · a b s) rfl),
    mulI_overflows (exec_length (mulI 16 · a b s) rfl),
    signedDivision_overflows (by decide) fdiv_neg_one (exec_length (divI 16 · a b s) rfl),
    signedDivision_overflows (by decide) tdiv_neg_one (exec_length (quoI 16 · a b s) rfl),
    deiI_overflows (w := 16) (exec_length (deiI 16 · a b s) rfl),
    ashI_overflows (exec_length (ashI 16 · a b s) rfl),
    checkI_overflows (exec_length (checkI 16 · r a b s) rfl),
    acbI_overflows (by decide) (exec_length (acbI 16 · q b d s) rfl),
    addCarry_overflows (exec_length (addCarry 32 · a b s) rfl),
    addQ_overflows (by decide) (exec_length (addQ 32 · q b s) rfl),
    subCarry_overflows (exec_length (subCarry 32 · a b s) rfl),
    negI_overflows (by decide) (exec_length (negI 32 · a b s) rfl),
    absI_overflows (by decide) (exec_length (absI 32 · a b s) rfl),
    mulI_overflows (exec_length (mulI 32 · a b s) rfl),
    signedDivision_overflows (by decide) fdiv_neg_one (exec_length (divI 32 · a b s) rfl),
    signedDivision_overflows (by decide) tdiv_neg_one (exec_length (quoI 32 · a b s) rfl),
    deiI_overflows (w := 32) (exec_length (deiI 32 · a b s) rfl),
    ashI_overflows (exec_length (ashI 32 · a b s) rfl),
    checkI_overflows (exec_length (checkI 32 · r a b s) rfl),
    acbI_overflows (by decide) (exec_length (acbI 32 · q b d s) rfl),
    fun hf => ⟨fpBinary_traps_delivery hf (exec_length (addFp 32 · a b s) rfl),
      fpBinary_traps_delivery hf (exec_length (subFp 32 · a b s) rfl),
      fpBinary_traps_delivery hf (exec_length (mulFp 32 · a b s) rfl),
      divFp_traps hf (exec_length (divFp 32 · a b s) rfl),
      scalbFp_traps hf (exec_length (scalbFp 32 · a b s) rfl),
      cmpFp_traps hf (exec_length (cmpFp 32 · a b s) rfl),
      fpAccumulate_traps hf (exec_length (dotFp 32 · a b s) rfl),
      fpAccumulate_traps hf (exec_length (polyFp 32 · a b s) rfl),
      fpUnary_traps_reserved hf (exec_length (negFp 32 · a b s) rfl),
      fpUnary_traps_reserved hf (exec_length (absFp 32 · a b s) rfl),
      fpUnary_traps_reserved hf (exec_length (logbFp 32 · a b s) rfl),
      fpBinary_traps_delivery hf (exec_length (addFp 64 · a b s) rfl),
      fpBinary_traps_delivery hf (exec_length (subFp 64 · a b s) rfl),
      fpBinary_traps_delivery hf (exec_length (mulFp 64 · a b s) rfl),
      divFp_traps hf (exec_length (divFp 64 · a b s) rfl),
      scalbFp_traps hf (exec_length (scalbFp 64 · a b s) rfl),
      cmpFp_traps hf (exec_length (cmpFp 64 · a b s) rfl),
      fpAccumulate_traps hf (exec_length (dotFp 64 · a b s) rfl),
      fpAccumulate_traps hf (exec_length (polyFp 64 · a b s) rfl),
      fpUnary_traps_reserved hf (exec_length (negFp 64 · a b s) rfl),
      fpUnary_traps_reserved hf (exec_length (absFp 64 · a b s) rfl),
      fpUnary_traps_reserved hf (exec_length (logbFp 64 · a b s) rfl),
      movIF_traps hf (exec_length (movIF 32 32 · a b s) rfl),
      convertFp_traps hf (exec_length (movLF · a b s) rfl),
      convertFp_traps hf (exec_length (movFL · a b s) rfl),
      fpInteger_traps hf (exec_length (roundFp 32 8 · a b s) rfl),
      fpInteger_traps hf (exec_length (roundFp 32 16 · a b s) rfl),
      fpInteger_traps hf (exec_length (roundFp 32 32 · a b s) rfl),
      fpInteger_traps hf (exec_length (roundFp 64 8 · a b s) rfl),
      fpInteger_traps hf (exec_length (roundFp 64 16 · a b s) rfl),
      fpInteger_traps hf (exec_length (roundFp 64 32 · a b s) rfl),
      fpInteger_traps hf (exec_length (truncFp 32 8 · a b s) rfl),
      fpInteger_traps hf (exec_length (truncFp 32 16 · a b s) rfl),
      fpInteger_traps hf (exec_length (truncFp 32 32 · a b s) rfl),
      fpInteger_traps hf (exec_length (truncFp 64 8 · a b s) rfl),
      fpInteger_traps hf (exec_length (truncFp 64 16 · a b s) rfl),
      fpInteger_traps hf (exec_length (truncFp 64 32 · a b s) rfl),
      fpInteger_traps hf (exec_length (floorFp 32 8 · a b s) rfl),
      fpInteger_traps hf (exec_length (floorFp 32 16 · a b s) rfl),
      fpInteger_traps hf (exec_length (floorFp 32 32 · a b s) rfl),
      fpInteger_traps hf (exec_length (floorFp 64 8 · a b s) rfl),
      fpInteger_traps hf (exec_length (floorFp 64 16 · a b s) rfl),
      fpInteger_traps hf (exec_length (floorFp 64 32 · a b s) rfl)⟩⟩

end Sys2Proof.Proofs
end

section
/-! What ADDPi and SUBPi compute (R240 to R244): the digits of a packed number, and when the two
instructions complete. -/

namespace Sys2Proof.Machine

/-! ## The digits of a packed number -/

theorem bcdLegal_succ (k n : Nat) :
    bcdLegal (k + 1) n = true ↔ n % 16 < 10 ∧ bcdLegal k (n / 16) = true := by
  simp only [bcdLegal, Bool.and_eq_true, decide_eq_true_eq]

/-- The digit d0 of a packing (R240). -/
theorem bcdPack_succ_mod (k n : Nat) : bcdPack (k + 1) n % 16 = n % 10 := by
  rw [bcdPack]
  omega

/-- The digits above d0. -/
theorem bcdPack_succ_div (k n : Nat) : bcdPack (k + 1) n / 16 = bcdPack k (n / 10) := by
  rw [bcdPack]
  omega

theorem bcdLegal_bcdPack (k n : Nat) : bcdLegal k (bcdPack k n) = true := by
  induction k generalizing n with
  | zero => rfl
  | succ k ih =>
    rw [bcdLegal_succ, bcdPack_succ_mod, bcdPack_succ_div]
    exact ⟨Nat.mod_lt n (by decide), ih (n / 10)⟩

theorem bcdValue_bcdPack (k n : Nat) : bcdValue k (bcdPack k n) = n % 10 ^ k := by
  induction k generalizing n with
  | zero => exact (Nat.mod_one n).symm
  | succ k ih =>
    rw [bcdValue, bcdPack_succ_mod, bcdPack_succ_div, ih, Nat.pow_succ', Nat.mod_mul]

theorem bcdPack_lt (k n : Nat) : bcdPack k n < 16 ^ k := by
  induction k generalizing n with
  | zero => exact Nat.one_pos
  | succ k ih =>
    have := ih (n / 10)
    rw [bcdPack, Nat.pow_succ']
    omega

theorem bcdValue_lt {k n : Nat} (h : bcdLegal k n = true) : bcdValue k n < 10 ^ k := by
  induction k generalizing n with
  | zero => exact Nat.one_pos
  | succ k ih =>
    obtain ⟨hlow, hhigh⟩ := (bcdLegal_succ k n).1 h
    have := ih hhigh
    rw [bcdValue, Nat.pow_succ']
    omega

/-- A packing keeps its number modulo 10^k only, so congruent numbers have one packing. -/
theorem bcdPack_mod (k n : Nat) : bcdPack k (n % 10 ^ k) = bcdPack k n := by
  induction k generalizing n with
  | zero => rfl
  | succ k ih =>
    rw [bcdPack, bcdPack, Nat.pow_succ', Nat.mod_mul_right_mod, Nat.mod_mul_right_div_self, ih]

/-! ## When ADDPi and SUBPi complete -/

section
variable {i : Instr} {s : State} {w : Nat} {a b : Gen} {ta tb : Attr}
  (hs : s.accessible) (hi : i.wellFormed = true)
  (hl : (layout i).operands = [(ta, a), (tb, b)]) (htb : tb.immSize = none)
include hs hi hl htb

/-- A packed decimal operation completes with the packing of `n` and the carry `c`, where it gives that
number modulo 10^k and that carry on the values of k legal digits. -/
theorem packed_completes {f : Nat → Nat → Nat → Nat × Bool} {n : Nat → Nat → Nat → Int}
    {c : Nat → Nat → Nat → Bool} (he : exec i s = conclude s (packed w i.length a b s f))
    (hn : ∀ x y d, x < 10 ^ (w / 4) → d ≤ 1 →
      ((f x y d).1 : Int) % 10 ^ (w / 4) = n x y d % 10 ^ (w / 4))
    (hc : ∀ x y d, (f x y d).2 = c x y d) :
    CompletesRmw i .int .int w w a b s fun x y s =>
      decimalResult x y (n (bcdValue (w / 4) x.toNat) (bcdValue (w / 4) y.toNat) s.flagC.toNat)
        (c (bcdValue (w / 4) x.toNat) (bcdValue (w / 4) y.toNat) s.flagC.toNat) s := by
  refine binary_completes hs hi hl htb he fun x y t v u h => ?_
  by_cases hd : bcdLegal (w / 4) x.toNat = true ∧ bcdLegal (w / 4) y.toNat = true
  · have ⟨hx, hy⟩ := hd
    have hnum := hn _ (bcdValue (w / 4) y.toNat) _ (bcdValue_lt hx) (Bool.toNat_le t.flagC)
    have hnat (m : Nat) : ((m : Int) % 10 ^ (w / 4)).toNat = m % 10 ^ (w / 4) := by
      exact_mod_cast Int.toNat_natCast (m % 10 ^ (w / 4))
    simp only [decimalResult, if_pos hd, ← hnum, hnat, bcdPack_mod, ← hc] at h
    cases h
    simp only [hx, hy, Bool.and_self, if_true]
    exact ⟨_, rfl, rfl, rfl, Bool.and_false _, rfl⟩
  · simp only [decimalResult, if_neg hd] at h
    cases h
    rw [← Bool.and_eq_true] at hd
    simp only [if_neg hd]
    exact ⟨_, rfl, rfl, rfl, Bool.and_false _, rfl⟩

theorem addP_completes (he : exec i s = conclude s (addP w i.length a b s)) :
    CompletesRmw i .int .int w w a b s fun x y s =>
      let n := bcdValue (w / 4) x.toNat + bcdValue (w / 4) y.toNat + s.flagC.toNat
      decimalResult x y n (decide (10 ^ (w / 4) ≤ n)) s :=
  packed_completes hs hi hl htb (n := fun x y d => (x + y + d : Nat)) he (fun _ _ _ _ _ => rfl)
    fun _ _ _ => rfl

/-- SUBPi adds 10^k before it subtracts, so that the difference is a natural number (R242). -/
theorem subP_completes (he : exec i s = conclude s (subP w i.length a b s)) :
    CompletesRmw i .int .int w w a b s fun x y s =>
      let n : Int := (bcdValue (w / 4) y.toNat : Int) - bcdValue (w / 4) x.toNat - s.flagC.toNat
      decimalResult x y n (decide (n < 0)) s := by
  refine packed_completes hs hi hl htb (n := fun x y d => (y : Int) - x - d)
    (c := fun x y d => decide ((y : Int) - x - d < 0)) he (fun x y d hx hd => ?_) fun x y d => ?_
  · have hsub : ((y + 10 ^ (w / 4) - x - d : Nat) : Int) =
        (y : Int) - x - d + (10 ^ (w / 4) : Nat) := by omega
    rw [hsub, Nat.cast_pow]
    exact Int.add_emod_right ..
  · exact decide_eq_decide.2 (by omega)

end

end Sys2Proof.Machine

namespace Sys2Proof.Proofs

open Sys2Proof.Machine

/-- Settles O23: the digits of a packing by induction on their number, and the two instructions as one
shape (`packed_completes`). -/
theorem packedDecimal : Obligations.PackedDecimal := by
  unfold Obligations.PackedDecimal
  refine ⟨fun k n => ⟨bcdLegal_bcdPack k n, bcdValue_bcdPack k n, bcdPack_lt k n⟩, fun s a b hs => ?_⟩
  exact ⟨fun h => addP_completes hs h rfl rfl (exec_length (addP 8 · a b s) rfl),
    fun h => addP_completes hs h rfl rfl (exec_length (addP 16 · a b s) rfl),
    fun h => addP_completes hs h rfl rfl (exec_length (addP 32 · a b s) rfl),
    fun h => subP_completes hs h rfl rfl (exec_length (subP 8 · a b s) rfl),
    fun h => subP_completes hs h rfl rfl (exec_length (subP 16 · a b s) rfl),
    fun h => subP_completes hs h rfl rfl (exec_length (subP 32 · a b s) rfl)⟩

end Sys2Proof.Proofs
end

section
/-! When a floating-point instruction completes (R250 to R280): with the unit enabled its shape completes
where no operand is reserved and the delivery of R257 gives a result. -/

namespace Sys2Proof.Machine

/-! ## Results that are delivered -/

/-- With the unit enabled, a floating-point instruction is what follows its first action (R259). -/
theorem exec_of_cfgF {i : Instr} {s : State} {x : Except Stop State} (hf : s.cfgF = true)
    (he : exec i s = conclude s (needFpu s >>= fun _ => x)) : exec i s = conclude s x := by
  rw [he, needFpu_of_cfgF hf]
  rfl

/-- The check of reserved operands and then a delivery, where they give a result (R253, R257). An
operation that cannot fail, and one that checks no operand, are cases of it. -/
theorem answers_of_floatResult {w : Nat} {bad : Bool} {r : Except Stop (BitVec w × Word)}
    {s s₃ : State} {v : BitVec w} (h : floatResult bad r s = some (v, s₃)) :
    Answers (checkReserved s bad >>= fun _ => r >>= fun p => .ok (fpResult p s)) s v s₃ := by
  cases bad with
  | true => cases h
  | false =>
    cases r with
    | error e => cases h
    | ok p =>
      cases h
      exact ⟨fpResult p s, rfl, rfl, rfl, Bool.and_false _, rfl⟩

/-- A zero is no reserved operand (R252, R253). -/
theorem fpReserved_of_fpIsZero {w : Nat} {x : BitVec w} (h : fpIsZero x = true) :
    fpReserved x = false := by
  obtain ⟨he, hf⟩ := (fpIsZero_iff x).1 h
  have hw : 0 ≠ 2 ^ expBits w - 1 := by
    unfold expBits
    split <;> decide
  rw [fpReserved_eq, he, hf, decide_eq_false hw]
  rfl

/-! ## Instructions with a source and a destination -/

section
variable {i : Instr} {s : State} {w : Nat} {a b : Gen} {ta tb : Attr}
  (hs : s.accessible) (hf : s.cfgF = true) (hi : i.wellFormed = true)
  (hl : (layout i).operands = [(ta, a), (tb, b)]) (htb : tb.immSize = none)
include hs hf hi hl htb

/-- A two-operand operation completes with `out`, where every result of `out` is the operation's. -/
theorem fpBinary_completes_of {f : Word → BitVec w → BitVec w → Except Stop (BitVec w × Word)}
    {out : BitVec w → BitVec w → State → Option (BitVec w × State)}
    (he : exec i s = conclude s (fpBinary w i.length a b s f))
    (hop : ∀ x y t p, out x y t = some p →
      floatResult (fpReserved x || fpReserved y) (f t.fsr x y) t = some p) :
    CompletesRmw i .float .float w w a b s out :=
  binary_completes hs hi hl htb (exec_of_cfgF hf he) fun x y t _ _ h =>
    answers_of_floatResult (hop x y t _ h)

/-- ADDf, SUBf, MULf and SCALBf (R261 to R263, R272). -/
theorem fpBinary_completes {f : Word → BitVec w → BitVec w → Except Stop (BitVec w × Word)}
    (he : exec i s = conclude s (fpBinary w i.length a b s f)) :
    CompletesRmw i .float .float w w a b s fun x y s =>
      floatResult (fpReserved x || fpReserved y) (f s.fsr x y) s :=
  fpBinary_completes_of hs hf hi hl htb he fun _ _ _ _ h => h

/-- DIVf of a divisor that is not zero (R264). -/
theorem divFp_completes (he : exec i s = conclude s (divFp w i.length a b s)) :
    CompletesRmw i .float .float w w a b s fun x y s =>
      if fpIsZero x then none
      else if fpIsZero y then
        floatResult (fpReserved x) (.ok (fpZero w (fpSign x ^^ fpSign y), fsrSetTT s.fsr 0)) s
      else floatResult (fpReserved x || fpReserved y)
        (fpDeliver w s.fsr ((fpValue y).div (fracBits w + 1) (fpValue x)) false) s := by
  refine fpBinary_completes_of hs hf hi hl htb he fun x y t p h => ?_
  split at h
  · cases h
  · next hx =>
    rw [if_neg hx]
    split at h
    · next hy =>
      rw [if_pos hy, fpReserved_of_fpIsZero hy, Bool.or_false]
      exact h
    · next hy =>
      rw [if_neg hy]
      exact h

/-- A one-operand operation completes with `out`, where every result of `out` is what the check of a
reserved source and the operation answer. -/
theorem fpUnary_completes_of {fb : File} {wb : Nat} {f : BitVec w → State → Except Stop (Result wb)}
    {out : BitVec w → State → Option (BitVec wb × State)}
    (he : exec i s = conclude s (fpUnary fb w wb i.length a b s f))
    (hop : ∀ x t v u, out x t = some (v, u) →
      Answers (checkReserved t (fpReserved x) >>= fun _ => f x t) t v u) :
    CompletesWrite i .float fb w wb a b s out :=
  unary_completes hs hi hl htb (exec_of_cfgF hf he) hop

/-- NEGf; `z` is the S bit alone (R267). -/
theorem negFp_completes {z : BitVec w} (hz : fpZero w true = z)
    (he : exec i s = conclude s (negFp w i.length a b s)) :
    CompletesWrite i .float .float w w a b s fun x s =>
      floatResult (fpReserved x) (.ok (x ^^^ z, fsrSetTT s.fsr 0)) s := by
  subst hz
  exact fpUnary_completes_of hs hf hi hl htb he fun _ _ _ _ => answers_of_floatResult

/-- ABSf; `z` is the S bit alone (R268). -/
theorem absFp_completes {z : BitVec w} (hz : fpZero w true = z)
    (he : exec i s = conclude s (absFp w i.length a b s)) :
    CompletesWrite i .float .float w w a b s fun x s =>
      floatResult (fpReserved x) (.ok (x &&& ~~~z, fsrSetTT s.fsr 0)) s := by
  subst hz
  exact fpUnary_completes_of hs hf hi hl htb he fun _ _ _ _ => answers_of_floatResult

/-- MOVf, which checks no operand (R270). -/
theorem movFp_completes (he : exec i s = conclude s (movFp w i.length a b s)) :
    CompletesWrite i .float .float w w a b s fun x s =>
      floatResult false (.ok (x, fsrSetTT s.fsr 0)) s :=
  unary_completes hs hi hl htb (exec_of_cfgF hf he) fun _ _ _ _ => answers_of_floatResult

/-- LOGBf: a free value for a zero, which is never reserved, and else the unbiased exponent, whose
magnitude is zero where the E field is the bias (R271, U13). -/
theorem logbFp_completes (he : exec i s = conclude s (logbFp w i.length a b s)) :
    CompletesWrite i .float .float w w a b s fun x s =>
      if fpIsZero x then some ((s.draw w).1, { (s.draw w).2 with fsr := fsrSetTT s.fsr 0 })
      else if fpExp x = fpBias w then floatResult (fpReserved x) (.ok (0, fsrSetTT s.fsr 0)) s
      else floatResult (fpReserved x)
        (.ok (fpEncode w (exactOf ((fpExp x : Int) - fpBias w) 0), fsrSetTT s.fsr 0)) s := by
  refine fpUnary_completes_of hs hf hi hl htb he fun x t v u h => ?_
  have hmant : (exactOf ((fpExp x : Int) - fpBias w) 0).mant = 0 ↔ fpExp x = fpBias w := by
    simp only [exactOf]
    omega
  split at h
  · next hx =>
    rw [fpReserved_of_fpIsZero hx, if_pos hx]
    cases h
    exact ⟨_, rfl, rfl, rfl, Bool.and_false _, rfl⟩
  · next hx =>
    simp only [if_neg hx, hmant]
    split at h
    · next hb =>
      rw [if_pos hb]
      exact answers_of_floatResult h
    · next hb =>
      rw [if_neg hb]
      exact answers_of_floatResult h

/-- MOVLF and MOVFL (R273, R274). -/
theorem convertFp_completes {wb : Nat} (he : exec i s = conclude s (convertFp w wb i.length a b s)) :
    CompletesWrite i .float .float w wb a b s fun x s =>
      floatResult (fpReserved x) (fpDeliver wb s.fsr (fpValue x) (fpSign x)) s :=
  fpUnary_completes_of hs hf hi hl htb he fun _ _ _ _ => answers_of_floatResult

/-- MOVif, whose source is an integer and never reserved (R277). -/
theorem movIF_completes {wf : Nat} (he : exec i s = conclude s (movIF w wf i.length a b s)) :
    CompletesWrite i .int .float w wf a b s fun x s =>
      floatResult false (fpDeliver wf s.fsr (exactOf x.toInt 0) false) s :=
  unary_completes hs hi hl htb (exec_of_cfgF hf he) fun _ _ _ _ => answers_of_floatResult

/-- ROUNDfi, TRUNCfi and FLOORfi (R278 to R280). -/
theorem fpInteger_completes {wi : Nat} {m : ToInt}
    (he : exec i s = conclude s (fpInteger m w wi i.length a b s)) :
    CompletesWrite i .float .int w wi a b s fun x s =>
      floatResult (fpReserved x) (fpToInt wi s.fsr (fpValue x) m) s :=
  fpUnary_completes_of hs hf hi hl htb he fun _ _ _ _ => answers_of_floatResult

end

/-! ## Instructions with two sources -/

section
variable {i : Instr} {s : State} {w : Nat} {a b : Gen} {ta tb : Attr}
  (hs : s.accessible) (hf : s.cfgF = true) (hi : i.wellFormed = true)
  (hl : (layout i).operands = [(ta, a), (tb, b)])
include hs hf hi hl

/-- CMPf (R269). -/
theorem cmpFp_completes (he : exec i s = conclude s (cmpFp w i.length a b s)) :
    CompletesCompare i .float w a b s fun x y s =>
      if fpReserved x || fpReserved y then none
      else some (State.setZNL { s with fsr := fsrSetTT s.fsr 0 } ((fpValue x).eq (fpValue y))
        ((fpValue y).lt (fpValue x)) false) := by
  obtain ⟨ha, hb⟩ := wellFormed_two hi hl
  refine completesCompare_of hs ha hb (exec_of_cfgF hf he) fun x y t u h => ?_
  generalize (fpReserved x || fpReserved y) = bad at h ⊢
  cases bad with
  | true => cases h
  | false =>
    cases h
    rfl

/-- DOTf and POLYf, whose third operand is F0 (R265, R266). -/
theorem fpAccumulate_completes {f : Word → BitVec w → BitVec w → BitVec w → Except Stop (BitVec w × Word)}
    (he : exec i s = conclude s (fpAccumulate w i.length a b s f)) :
    CompletesCompare i .float w a b s fun x y s =>
      accumulated s (fpReserved x || fpReserved y || fpReserved (s.freg w 0))
        (f s.fsr x y (s.freg w 0)) := by
  obtain ⟨ha, hb⟩ := wellFormed_two hi hl
  refine completesCompare_of hs ha hb (exec_of_cfgF hf he) fun x y t u h => ?_
  dsimp only at h ⊢
  generalize (fpReserved x || fpReserved y || fpReserved (t.freg w 0)) = bad at h ⊢
  cases bad with
  | true => cases h
  | false =>
    generalize f t.fsr x y (t.freg w 0) = r at h ⊢
    cases r with
    | error e => cases h
    | ok p =>
      cases h
      rfl

end

/-! ## FSR, and the formats that the unit rejects -/

section
variable {s : State} {g : Gen} (hs : s.accessible) (hf : s.cfgF = true)
include hs hf

/-- LFSR (R275). -/
theorem lfsr_completes (hi : (Instr.lfsr g).wellFormed = true) :
    CompletesRead (.lfsr g) 32 g s fun x s => { s with fsr := x &&& fsrMask } :=
  have he := exec_length (i := .lfsr g) (s := s) (lfsrI · g s) rfl
  completesRead_of hs (wellFormed_one hi rfl) (exec_of_cfgF hf he) fun _ _ => rfl

/-- SFSR (R276). -/
theorem sfsr_completes (hi : (Instr.sfsr g).wellFormed = true) :
    CompletesStore (.sfsr g) 32 g s (s.fsr &&& fsrMask) s :=
  have he := exec_length (i := .sfsr g) (s := s) (sfsrI · g s) rfl
  completesStore_of hs (wellFormed_one hi rfl) rfl (exec_of_cfgF hf he) ⟨rfl, rfl, rfl, rfl⟩

end

/-- The two formats of R183 take Trap(FPU) with TT = 100. -/
theorem illegalFp_traps {i : Instr} {s : State} (hf : s.cfgF = true)
    (he : exec i s = conclude s (illegalFp s)) :
    exec i s = trapped { s with fsr := (s.fsr &&& 0xFFFFFFF8) ||| 4 } 3 := exec_fpu hf he rfl

/-- Exception entry always answers a next state, EntryFault where an access is refused (R510, R513). -/
theorem takeException_next (s : State) (v : Nat) (ret : Word) (clearI : Bool) (image : BitVec 16) :
    ∃ t, takeException s v ret clearI image = .next t := by
  obtain ⟨t, -, h⟩ | h := takeException_spec s v ret clearI image
  exacts [⟨t, h⟩, ⟨_, h⟩]

/-! ## Trap(FPU) -/

section
variable {i : Instr} {s : State} {w : Nat} {a b : Gen}
  (hf : s.cfgF = true)
include hf

/-- A reserved operand of a two-operand operation (R253). -/
theorem fpBinary_reserved {f : Word → BitVec w → BitVec w → Except Stop (BitVec w × Word)}
    (he : exec i s = conclude s (fpBinary w i.length a b s f)) (x : BitVec w) (s₁ : State) (l : Loc)
    (y : BitVec w) (s₂ : State) (hx : readGen .float w s.sp a s = .ok (x, s₁))
    (hl : rmwLoc .float s.sp b s₁ = .ok l) (hy : readAt w l s₁ = .ok (y, s₂))
    (hr : (fpReserved x || fpReserved y) = true) :
    exec i s = trapped { s with fsr := (s.fsr &&& 0xFFFFFFF8) ||| 5 } 3 :=
  fpBinary_traps_delivery hf he x s₁ l y s₂ _ hx hl hy (if_pos hr)

/-- A division by a zero; of a zero it is an Invalid Operation (R264). -/
theorem divFp_zero_divisor (he : exec i s = conclude s (divFp w i.length a b s)) (x : BitVec w)
    (s₁ : State) (l : Loc) (y : BitVec w) (s₂ : State) (hx : readGen .float w s.sp a s = .ok (x, s₁))
    (hl : rmwLoc .float s.sp b s₁ = .ok l) (hy : readAt w l s₁ = .ok (y, s₂))
    (hr : fpReserved y = false) (hz : fpIsZero x = true) :
    exec i s = trapped { s with fsr := (s.fsr &&& 0xFFFFFFF8) ||| (if fpIsZero y then 5 else 3) } 3 := by
  refine fpBinary_traps_delivery hf he x s₁ l y s₂ _ hx hl hy ?_
  simp only [fpReserved_of_fpIsZero hz, hr, hz, if_true, floatFailure, Bool.or_self]
  cases fpIsZero y <;> rfl

end

end Sys2Proof.Machine

namespace Sys2Proof.Proofs

open Sys2Proof.Machine

/-- Settles O48: each instruction's shape completes with what its delivery gives
(`fpBinary_completes`, `divFp_completes`). -/
theorem floatArithmetic : Obligations.FloatArithmetic := by
  unfold Obligations.FloatArithmetic
  intro s a b hs hf
  exact ⟨fun h => fpBinary_completes hs hf h rfl rfl (exec_length (addFp 32 · a b s) rfl),
    fun h => fpBinary_completes hs hf h rfl rfl (exec_length (addFp 64 · a b s) rfl),
    fun h => fpBinary_completes hs hf h rfl rfl (exec_length (subFp 32 · a b s) rfl),
    fun h => fpBinary_completes hs hf h rfl rfl (exec_length (subFp 64 · a b s) rfl),
    fun h => fpBinary_completes hs hf h rfl rfl (exec_length (mulFp 32 · a b s) rfl),
    fun h => fpBinary_completes hs hf h rfl rfl (exec_length (mulFp 64 · a b s) rfl),
    fun h => divFp_completes hs hf h rfl rfl (exec_length (divFp 32 · a b s) rfl),
    fun h => divFp_completes hs hf h rfl rfl (exec_length (divFp 64 · a b s) rfl),
    fun h => fpBinary_completes hs hf h rfl rfl (exec_length (scalbFp 32 · a b s) rfl),
    fun h => fpBinary_completes hs hf h rfl rfl (exec_length (scalbFp 64 · a b s) rfl)⟩

/-- Settles O49: a source that is not reserved gives a result that cannot fail
(`fpUnary_completes_of`). -/
theorem floatSignMoveAndLog : Obligations.FloatSignMoveAndLog := by
  unfold Obligations.FloatSignMoveAndLog
  intro s a b hs hf
  exact ⟨fun h => negFp_completes hs hf h rfl rfl rfl (exec_length (negFp 32 · a b s) rfl),
    fun h => negFp_completes hs hf h rfl rfl rfl (exec_length (negFp 64 · a b s) rfl),
    fun h => absFp_completes hs hf h rfl rfl rfl (exec_length (absFp 32 · a b s) rfl),
    fun h => absFp_completes hs hf h rfl rfl rfl (exec_length (absFp 64 · a b s) rfl),
    fun h => movFp_completes hs hf h rfl rfl (exec_length (movFp 32 · a b s) rfl),
    fun h => movFp_completes hs hf h rfl rfl (exec_length (movFp 64 · a b s) rfl),
    fun h => logbFp_completes hs hf h rfl rfl (exec_length (logbFp 32 · a b s) rfl),
    fun h => logbFp_completes hs hf h rfl rfl (exec_length (logbFp 64 · a b s) rfl)⟩

/-- Settles O50: the two sources are read, and then the operation answers as the statement says. -/
theorem floatCompareDotAndPoly : Obligations.FloatCompareDotAndPoly := by
  unfold Obligations.FloatCompareDotAndPoly
  intro s a b hs hf
  exact ⟨fun h => cmpFp_completes hs hf h rfl (exec_length (cmpFp 32 · a b s) rfl),
    fun h => cmpFp_completes hs hf h rfl (exec_length (cmpFp 64 · a b s) rfl),
    fun h => fpAccumulate_completes hs hf h rfl (exec_length (dotFp 32 · a b s) rfl),
    fun h => fpAccumulate_completes hs hf h rfl (exec_length (dotFp 64 · a b s) rfl),
    fun h => fpAccumulate_completes hs hf h rfl (exec_length (polyFp 32 · a b s) rfl),
    fun h => fpAccumulate_completes hs hf h rfl (exec_length (polyFp 64 · a b s) rfl)⟩

/-- Settles O51: the conversions are three shapes, from an integer, between the formats and to an
integer. -/
theorem floatConversions : Obligations.FloatConversions := by
  unfold Obligations.FloatConversions
  intro s a b hs hf
  exact ⟨fun h => movIF_completes hs hf h rfl rfl (exec_length (movIF 8 32 · a b s) rfl),
    fun h => movIF_completes hs hf h rfl rfl (exec_length (movIF 8 64 · a b s) rfl),
    fun h => movIF_completes hs hf h rfl rfl (exec_length (movIF 16 32 · a b s) rfl),
    fun h => movIF_completes hs hf h rfl rfl (exec_length (movIF 16 64 · a b s) rfl),
    fun h => movIF_completes hs hf h rfl rfl (exec_length (movIF 32 32 · a b s) rfl),
    fun h => movIF_completes hs hf h rfl rfl (exec_length (movIF 32 64 · a b s) rfl),
    fun h => convertFp_completes hs hf h rfl rfl (exec_length (movLF · a b s) rfl),
    fun h => convertFp_completes hs hf h rfl rfl (exec_length (movFL · a b s) rfl),
    fun h => fpInteger_completes hs hf h rfl rfl (exec_length (roundFp 32 8 · a b s) rfl),
    fun h => fpInteger_completes hs hf h rfl rfl (exec_length (roundFp 32 16 · a b s) rfl),
    fun h => fpInteger_completes hs hf h rfl rfl (exec_length (roundFp 32 32 · a b s) rfl),
    fun h => fpInteger_completes hs hf h rfl rfl (exec_length (roundFp 64 8 · a b s) rfl),
    fun h => fpInteger_completes hs hf h rfl rfl (exec_length (roundFp 64 16 · a b s) rfl),
    fun h => fpInteger_completes hs hf h rfl rfl (exec_length (roundFp 64 32 · a b s) rfl),
    fun h => fpInteger_completes hs hf h rfl rfl (exec_length (truncFp 32 8 · a b s) rfl),
    fun h => fpInteger_completes hs hf h rfl rfl (exec_length (truncFp 32 16 · a b s) rfl),
    fun h => fpInteger_completes hs hf h rfl rfl (exec_length (truncFp 32 32 · a b s) rfl),
    fun h => fpInteger_completes hs hf h rfl rfl (exec_length (truncFp 64 8 · a b s) rfl),
    fun h => fpInteger_completes hs hf h rfl rfl (exec_length (truncFp 64 16 · a b s) rfl),
    fun h => fpInteger_completes hs hf h rfl rfl (exec_length (truncFp 64 32 · a b s) rfl),
    fun h => fpInteger_completes hs hf h rfl rfl (exec_length (floorFp 32 8 · a b s) rfl),
    fun h => fpInteger_completes hs hf h rfl rfl (exec_length (floorFp 32 16 · a b s) rfl),
    fun h => fpInteger_completes hs hf h rfl rfl (exec_length (floorFp 32 32 · a b s) rfl),
    fun h => fpInteger_completes hs hf h rfl rfl (exec_length (floorFp 64 8 · a b s) rfl),
    fun h => fpInteger_completes hs hf h rfl rfl (exec_length (floorFp 64 16 · a b s) rfl),
    fun h => fpInteger_completes hs hf h rfl rfl (exec_length (floorFp 64 32 · a b s) rfl)⟩

/-- Settles O53. -/
theorem floatStatusRegister : Obligations.FloatStatusRegister := by
  unfold Obligations.FloatStatusRegister
  intro s g c1 c2 lo hs hf
  have h0011 := illegalFp_traps (i := .illegalFp0011 c1 c2 lo) hf rfl
  have h1001 := illegalFp_traps (i := .illegalFp1001 c1 c2 lo) hf rfl
  refine ⟨lfsr_completes hs hf, sfsr_completes hs hf, h0011, h1001, ?_, ?_⟩
  · rw [h0011]
    exact takeException_next ..
  · rw [h1001]
    exact takeException_next ..

/-- Settles O59: the operands are read, and then the check of reserved operands or the division stops
(`fpBinary_traps_delivery`). -/
theorem floatTraps : Obligations.FloatTraps := by
  unfold Obligations.FloatTraps
  intro s a b hf
  exact ⟨fpBinary_reserved hf (exec_length (addFp 32 · a b s) rfl),
    fpBinary_reserved hf (exec_length (addFp 64 · a b s) rfl),
    fpBinary_reserved hf (exec_length (subFp 32 · a b s) rfl),
    fpBinary_reserved hf (exec_length (subFp 64 · a b s) rfl),
    fpBinary_reserved hf (exec_length (mulFp 32 · a b s) rfl),
    fpBinary_reserved hf (exec_length (mulFp 64 · a b s) rfl),
    fpBinary_reserved hf (exec_length (divFp 32 · a b s) rfl),
    fpBinary_reserved hf (exec_length (divFp 64 · a b s) rfl),
    fpBinary_reserved hf (exec_length (scalbFp 32 · a b s) rfl),
    fpBinary_reserved hf (exec_length (scalbFp 64 · a b s) rfl),
    divFp_zero_divisor hf (exec_length (divFp 32 · a b s) rfl),
    divFp_zero_divisor hf (exec_length (divFp 64 · a b s) rfl)⟩

end Sys2Proof.Proofs
end

section
/-! When a logical, shift or Boolean instruction completes (R300 to R311): no flag changes, and only
ASHi can trap. -/

namespace Sys2Proof.Machine

/-! ## Shifts as products and quotients -/

/-- An arithmetic right shift is the quotient by a power of two, rounded down (R308). -/
theorem sshiftRight_value {w : Nat} (y : BitVec w) (n : Nat) :
    y.sshiftRight n = BitVec.ofInt w (y.toInt / 2 ^ n) := by
  rw [BitVec.sshiftRight, Int.shiftRight_eq_div_pow, Nat.cast_pow, Nat.cast_ofNat]

/-- A logical left shift is the product of the unsigned value with a power of two (R309). -/
theorem shiftLeft_value_unsigned {w : Nat} (y : BitVec w) (n : Nat) :
    y <<< n = BitVec.ofNat w (y.toNat * 2 ^ n) := by
  rw [BitVec.shiftLeft_eq_mul_twoPow, BitVec.ofNat_mul, BitVec.ofNat_toNat, BitVec.setWidth_eq,
    ofNat_two_pow]

/-- A logical right shift is the quotient of the unsigned value by a power of two (R309). -/
theorem ushiftRight_value {w : Nat} (y : BitVec w) (n : Nat) :
    y >>> n = BitVec.ofNat w (y.toNat / 2 ^ n) := by
  rw [← Nat.shiftRight_eq_div_pow, ← BitVec.toNat_ushiftRight, BitVec.ofNat_toNat,
    BitVec.setWidth_eq]

/-! ## Instructions with a source and a destination -/

section
variable {i : Instr} {s : State} {w : Nat} {a b : Gen} {ta tb : Attr}
  (hs : s.accessible) (hi : i.wellFormed = true)
  (hl : (layout i).operands = [(ta, a), (tb, b)]) (htb : tb.immSize = none)
include hs hi hl htb

/-- ANDi, ORi, BICi and XORi (R302 to R305). -/
theorem logical_completes {f : BitVec w → BitVec w → BitVec w}
    (he : exec i s = conclude s (logical w i.length a b s f)) :
    CompletesRmw i .int .int w w a b s fun x y s => plainResult (f x y) s :=
  binary_completes hs hi hl htb he fun _ _ _ _ _ => answers_of_plainResult

theorem comI_completes (he : exec i s = conclude s (comI w i.length a b s)) :
    CompletesWrite i .int .int w w a b s fun x s => plainResult (~~~x) s :=
  unary_completes hs hi hl htb he fun _ _ _ _ => answers_of_plainResult

theorem notI_completes (he : exec i s = conclude s (notI w i.length a b s)) :
    CompletesWrite i .int .int w w a b s fun x s => plainResult (x ^^^ 1) s :=
  unary_completes hs hi hl htb he fun _ _ _ _ => answers_of_plainResult

/-- A shift completes as the rules say of its count, where the values that it computes for a count below
the length are those of the rules (R301). -/
theorem shift_completes {f : BitVec w → Nat → BitVec w × Bool}
    {g left right : BitVec w → Nat → BitVec w} {ovf : BitVec w → Nat → Bool}
    (he : exec i s = conclude s (shift w i.length a b s f g))
    (hf : ∀ y n, n < w → f y n = (left y n, ovf y n)) (hg : ∀ y n, n < w → g y n = right y n) :
    CompletesRmw i .int .int 8 w a b s fun c y s => shiftResult c y left right (ovf y) s := by
  refine binary_completes hs hi hl htb he fun c y t v u h => ?_
  unfold shiftResult at h
  by_cases hw : w ≤ c.toInt.natAbs
  · rw [if_pos (by omega)] at h
    rw [if_pos hw]
    cases h
    exact ⟨_, rfl, rfl, rfl, Bool.and_false _, rfl⟩
  · rw [if_neg (by omega)] at h
    rw [if_neg hw]
    by_cases h0 : 0 ≤ c.toInt
    · have hn : c.toInt.natAbs = c.toInt.toNat := by omega
      rw [if_pos h0] at h
      rw [if_pos h0, hn, hf y _ (by omega)]
      exact answers_of_unlessTrapped (r := ⟨_, t, _⟩) rfl rfl h
    · have hn : c.toInt.natAbs = (-c.toInt).toNat := by omega
      rw [if_neg h0] at h
      rw [if_neg h0, hn, hg y _ (by omega)]
      exact answers_of_plainResult h

theorem ashI_completes (he : exec i s = conclude s (ashI w i.length a b s)) :
    CompletesRmw i .int .int 8 w a b s fun c y s =>
      shiftResult c y (fun y n => BitVec.ofInt w (y.toInt * 2 ^ n))
        (fun y n => BitVec.ofInt w (y.toInt / 2 ^ n)) (fun n => outOfRange w (y.toInt * 2 ^ n)) s :=
  shift_completes (ovf := fun y n => outOfRange w (y.toInt * 2 ^ n)) hs hi hl htb he
    (fun y n _ => Prod.ext (shiftLeft_value y n) (not_fitsSigned w _))
    fun y n _ => sshiftRight_value y n

theorem lshI_completes (he : exec i s = conclude s (lshI w i.length a b s)) :
    CompletesRmw i .int .int 8 w a b s fun c y s =>
      shiftResult c y (fun y n => BitVec.ofNat w (y.toNat * 2 ^ n))
        (fun y n => BitVec.ofNat w (y.toNat / 2 ^ n)) (fun _ => false) s :=
  shift_completes (ovf := fun _ _ => false) hs hi hl htb he
    (fun y n _ => Prod.ext (shiftLeft_value_unsigned y n) rfl) fun y n _ => ushiftRight_value y n

/-- A count below the length rotates by that many places (R310). -/
theorem rotI_completes (he : exec i s = conclude s (rotI w i.length a b s)) :
    CompletesRmw i .int .int 8 w a b s fun c y s =>
      shiftResult c y (fun y n => y <<< n ||| y >>> (w - n)) (fun y n => y >>> n ||| y <<< (w - n))
        (fun _ => false) s :=
  shift_completes (ovf := fun _ _ => false) hs hi hl htb he
    (fun _ _ hn => Prod.ext (BitVec.rotateLeft_eq_rotateLeftAux_of_lt hn) rfl)
    fun _ _ hn => BitVec.rotateRight_eq_rotateRightAux_of_lt hn

end

/-! ## Save condition -/

/-- Scondi stores what its condition gives (R311). -/
theorem scond_completes {i : Instr} {s : State} {w : Nat} {b : Gen} {tb : Attr} (c : Cond)
    (hs : s.accessible) (hi : i.wellFormed = true) (hl : (layout i).operands = [(tb, b)])
    (htb : tb.immSize = none) (he : exec i s = conclude s (scond w i.length c b s)) :
    CompletesStore i w b s (if s.condTrue c then 1 else 0) s :=
  completesStore_of hs (wellFormed_one hi hl) htb he ⟨rfl, rfl, rfl, rfl⟩

end Sys2Proof.Machine

namespace Sys2Proof.Proofs

open Sys2Proof.Machine

/-- Settles O24: the four operations on two operands are one shape (`logical_completes`), and COM and NOT
are another. -/
theorem bitwiseLogic : Obligations.BitwiseLogic := by
  unfold Obligations.BitwiseLogic
  intro s a b hs
  exact ⟨encodedAs_of_layout rfl rfl rfl, encodedAs_of_layout rfl rfl rfl,
    encodedAs_of_layout rfl rfl rfl, encodedAs_of_layout rfl rfl rfl,
    encodedAs_of_layout rfl rfl rfl, encodedAs_of_layout rfl rfl rfl,
    encodedAs_of_layout rfl rfl rfl, encodedAs_of_layout rfl rfl rfl,
    encodedAs_of_layout rfl rfl rfl, encodedAs_of_layout rfl rfl rfl,
    encodedAs_of_layout rfl rfl rfl, encodedAs_of_layout rfl rfl rfl,
    encodedAs_of_layout rfl rfl rfl, encodedAs_of_layout rfl rfl rfl,
    encodedAs_of_layout rfl rfl rfl, encodedAs_of_layout rfl rfl rfl,
    encodedAs_of_layout rfl rfl rfl, encodedAs_of_layout rfl rfl rfl,
    fun h => logical_completes hs h rfl rfl (exec_length (andI 8 · a b s) rfl),
    fun h => logical_completes hs h rfl rfl (exec_length (andI 16 · a b s) rfl),
    fun h => logical_completes hs h rfl rfl (exec_length (andI 32 · a b s) rfl),
    fun h => logical_completes hs h rfl rfl (exec_length (orI 8 · a b s) rfl),
    fun h => logical_completes hs h rfl rfl (exec_length (orI 16 · a b s) rfl),
    fun h => logical_completes hs h rfl rfl (exec_length (orI 32 · a b s) rfl),
    fun h => logical_completes hs h rfl rfl (exec_length (bicI 8 · a b s) rfl),
    fun h => logical_completes hs h rfl rfl (exec_length (bicI 16 · a b s) rfl),
    fun h => logical_completes hs h rfl rfl (exec_length (bicI 32 · a b s) rfl),
    fun h => logical_completes hs h rfl rfl (exec_length (xorI 8 · a b s) rfl),
    fun h => logical_completes hs h rfl rfl (exec_length (xorI 16 · a b s) rfl),
    fun h => logical_completes hs h rfl rfl (exec_length (xorI 32 · a b s) rfl),
    fun h => comI_completes hs h rfl rfl (exec_length (comI 8 · a b s) rfl),
    fun h => comI_completes hs h rfl rfl (exec_length (comI 16 · a b s) rfl),
    fun h => comI_completes hs h rfl rfl (exec_length (comI 32 · a b s) rfl),
    fun h => notI_completes hs h rfl rfl (exec_length (notI 8 · a b s) rfl),
    fun h => notI_completes hs h rfl rfl (exec_length (notI 16 · a b s) rfl),
    fun h => notI_completes hs h rfl rfl (exec_length (notI 32 · a b s) rfl)⟩

/-- Settles O25: the three shifts are one shape (`shift_completes`), in which the count's magnitude decides
between a free value, a left shift and a right shift. -/
theorem shifts : Obligations.Shifts := by
  unfold Obligations.Shifts
  intro s a b hs
  exact ⟨fun h => ashI_completes hs h rfl rfl (exec_length (ashI 8 · a b s) rfl),
    fun h => ashI_completes hs h rfl rfl (exec_length (ashI 16 · a b s) rfl),
    fun h => ashI_completes hs h rfl rfl (exec_length (ashI 32 · a b s) rfl),
    fun h => lshI_completes hs h rfl rfl (exec_length (lshI 8 · a b s) rfl),
    fun h => lshI_completes hs h rfl rfl (exec_length (lshI 16 · a b s) rfl),
    fun h => lshI_completes hs h rfl rfl (exec_length (lshI 32 · a b s) rfl),
    fun h => rotI_completes hs h rfl rfl (exec_length (rotI 8 · a b s) rfl),
    fun h => rotI_completes hs h rfl rfl (exec_length (rotI 16 · a b s) rfl),
    fun h => rotI_completes hs h rfl rfl (exec_length (rotI 32 · a b s) rfl)⟩

/-- Settles O26: the 42 instructions are one shape (`scond_completes`), and the table of conditions is
`State.condTrue`. -/
theorem saveCondition : Obligations.SaveCondition := by
  unfold Obligations.SaveCondition
  intro s b hs
  exact ⟨encodedAs_of_layout rfl rfl rfl, encodedAs_of_layout rfl rfl rfl,
    encodedAs_of_layout rfl rfl rfl, encodedAs_of_layout rfl rfl rfl,
    encodedAs_of_layout rfl rfl rfl, encodedAs_of_layout rfl rfl rfl,
    encodedAs_of_layout rfl rfl rfl, encodedAs_of_layout rfl rfl rfl,
    encodedAs_of_layout rfl rfl rfl, encodedAs_of_layout rfl rfl rfl,
    encodedAs_of_layout rfl rfl rfl, encodedAs_of_layout rfl rfl rfl,
    encodedAs_of_layout rfl rfl rfl, encodedAs_of_layout rfl rfl rfl,
    encodedAs_of_layout rfl rfl rfl, encodedAs_of_layout rfl rfl rfl,
    encodedAs_of_layout rfl rfl rfl, encodedAs_of_layout rfl rfl rfl,
    encodedAs_of_layout rfl rfl rfl, encodedAs_of_layout rfl rfl rfl,
    encodedAs_of_layout rfl rfl rfl, encodedAs_of_layout rfl rfl rfl,
    encodedAs_of_layout rfl rfl rfl, encodedAs_of_layout rfl rfl rfl,
    encodedAs_of_layout rfl rfl rfl, encodedAs_of_layout rfl rfl rfl,
    encodedAs_of_layout rfl rfl rfl, encodedAs_of_layout rfl rfl rfl,
    encodedAs_of_layout rfl rfl rfl, encodedAs_of_layout rfl rfl rfl,
    encodedAs_of_layout rfl rfl rfl, encodedAs_of_layout rfl rfl rfl,
    encodedAs_of_layout rfl rfl rfl, encodedAs_of_layout rfl rfl rfl,
    encodedAs_of_layout rfl rfl rfl, encodedAs_of_layout rfl rfl rfl,
    encodedAs_of_layout rfl rfl rfl, encodedAs_of_layout rfl rfl rfl,
    encodedAs_of_layout rfl rfl rfl, encodedAs_of_layout rfl rfl rfl,
    encodedAs_of_layout rfl rfl rfl, encodedAs_of_layout rfl rfl rfl,
    fun h => scond_completes .eq hs h rfl rfl (exec_length (scond 8 · .eq b s) rfl),
    fun h => scond_completes .eq hs h rfl rfl (exec_length (scond 16 · .eq b s) rfl),
    fun h => scond_completes .eq hs h rfl rfl (exec_length (scond 32 · .eq b s) rfl),
    fun h => scond_completes .ne hs h rfl rfl (exec_length (scond 8 · .ne b s) rfl),
    fun h => scond_completes .ne hs h rfl rfl (exec_length (scond 16 · .ne b s) rfl),
    fun h => scond_completes .ne hs h rfl rfl (exec_length (scond 32 · .ne b s) rfl),
    fun h => scond_completes .cs hs h rfl rfl (exec_length (scond 8 · .cs b s) rfl),
    fun h => scond_completes .cs hs h rfl rfl (exec_length (scond 16 · .cs b s) rfl),
    fun h => scond_completes .cs hs h rfl rfl (exec_length (scond 32 · .cs b s) rfl),
    fun h => scond_completes .cc hs h rfl rfl (exec_length (scond 8 · .cc b s) rfl),
    fun h => scond_completes .cc hs h rfl rfl (exec_length (scond 16 · .cc b s) rfl),
    fun h => scond_completes .cc hs h rfl rfl (exec_length (scond 32 · .cc b s) rfl),
    fun h => scond_completes .hi hs h rfl rfl (exec_length (scond 8 · .hi b s) rfl),
    fun h => scond_completes .hi hs h rfl rfl (exec_length (scond 16 · .hi b s) rfl),
    fun h => scond_completes .hi hs h rfl rfl (exec_length (scond 32 · .hi b s) rfl),
    fun h => scond_completes .ls hs h rfl rfl (exec_length (scond 8 · .ls b s) rfl),
    fun h => scond_completes .ls hs h rfl rfl (exec_length (scond 16 · .ls b s) rfl),
    fun h => scond_completes .ls hs h rfl rfl (exec_length (scond 32 · .ls b s) rfl),
    fun h => scond_completes .gt hs h rfl rfl (exec_length (scond 8 · .gt b s) rfl),
    fun h => scond_completes .gt hs h rfl rfl (exec_length (scond 16 · .gt b s) rfl),
    fun h => scond_completes .gt hs h rfl rfl (exec_length (scond 32 · .gt b s) rfl),
    fun h => scond_completes .le hs h rfl rfl (exec_length (scond 8 · .le b s) rfl),
    fun h => scond_completes .le hs h rfl rfl (exec_length (scond 16 · .le b s) rfl),
    fun h => scond_completes .le hs h rfl rfl (exec_length (scond 32 · .le b s) rfl),
    fun h => scond_completes .fs hs h rfl rfl (exec_length (scond 8 · .fs b s) rfl),
    fun h => scond_completes .fs hs h rfl rfl (exec_length (scond 16 · .fs b s) rfl),
    fun h => scond_completes .fs hs h rfl rfl (exec_length (scond 32 · .fs b s) rfl),
    fun h => scond_completes .fc hs h rfl rfl (exec_length (scond 8 · .fc b s) rfl),
    fun h => scond_completes .fc hs h rfl rfl (exec_length (scond 16 · .fc b s) rfl),
    fun h => scond_completes .fc hs h rfl rfl (exec_length (scond 32 · .fc b s) rfl),
    fun h => scond_completes .lo hs h rfl rfl (exec_length (scond 8 · .lo b s) rfl),
    fun h => scond_completes .lo hs h rfl rfl (exec_length (scond 16 · .lo b s) rfl),
    fun h => scond_completes .lo hs h rfl rfl (exec_length (scond 32 · .lo b s) rfl),
    fun h => scond_completes .hs hs h rfl rfl (exec_length (scond 8 · .hs b s) rfl),
    fun h => scond_completes .hs hs h rfl rfl (exec_length (scond 16 · .hs b s) rfl),
    fun h => scond_completes .hs hs h rfl rfl (exec_length (scond 32 · .hs b s) rfl),
    fun h => scond_completes .lt hs h rfl rfl (exec_length (scond 8 · .lt b s) rfl),
    fun h => scond_completes .lt hs h rfl rfl (exec_length (scond 16 · .lt b s) rfl),
    fun h => scond_completes .lt hs h rfl rfl (exec_length (scond 32 · .lt b s) rfl),
    fun h => scond_completes .ge hs h rfl rfl (exec_length (scond 8 · .ge b s) rfl),
    fun h => scond_completes .ge hs h rfl rfl (exec_length (scond 16 · .ge b s) rfl),
    fun h => scond_completes .ge hs h rfl rfl (exec_length (scond 32 · .ge b s) rfl)⟩

end Sys2Proof.Proofs
end

section
/-! Bits of a word, and fields of a double-word (R320 to R335): what replacing a bit or a field makes of
each bit, the value of a field, and the first set bit. -/

namespace Sys2Proof.Machine

/-! ## One bit -/

/-- R321: the byte that holds a bit, by the quotient rounded down. -/
theorem bitByte_eq (ea : Word) (off : Int) : bitByte ea off = ea + BitVec.ofInt 32 (off / 8) := by
  rw [bitByte, Int.fdiv_eq_ediv_of_nonneg _ (by decide)]

theorem fmod_eight (off : Int) : off.fmod 8 = off % 8 := Int.fmod_eq_emod_of_nonneg _ (by decide)

/-- R321: the number of a bit in its byte. -/
theorem bitIndex_eq (off : Int) : bitIndex off = (off % 8).toNat := by rw [bitIndex, fmod_eight]

theorem getLsbD_putBit {n j : Nat} (x : BitVec n) (i : Nat) (b : Bool) (hj : j < n) :
    (putBit x i b).getLsbD j = if j = i then b else x.getLsbD j := by
  have hbit : (1#n <<< i).getLsbD j = decide (j = i) := by
    simp only [BitVec.getLsbD_shiftLeft, BitVec.getLsbD_one]
    grind
  cases b
  · rw [putBit, if_neg (by decide), BitVec.getLsbD_and, BitVec.getLsbD_not, hbit]
    by_cases h : j = i <;> simp [h, hj]
  · rw [putBit, if_pos rfl, BitVec.getLsbD_or, hbit]
    by_cases h : j = i <;> simp [h]

/-! ## Fields -/

theorem fieldFits_iff (k n : Int) : fieldFits k n = true ↔ fieldDefined k n := by
  simp only [fieldFits, fieldDefined, Bool.and_eq_true, decide_eq_true_eq, and_assoc]

theorem getLsbD_lowMask (n j : Nat) : (lowMask n).getLsbD j = (decide (j < 32) && decide (j < n)) := by
  rw [lowMask, BitVec.getLsbD_ofNat, Nat.testBit_two_pow_sub_one]

theorem lowMask_toNat {n : Nat} (hn : n ≤ 32) : (lowMask n).toNat = 2 ^ n - 1 := by
  have hle : 2 ^ n ≤ 2 ^ 32 := Nat.pow_le_pow_right (by decide) hn
  rw [lowMask, BitVec.toNat_ofNat, Nat.mod_eq_of_lt (by have := Nat.two_pow_pos n; omega)]

/-- The value of a field, modulo 2^w where it is delivered to a destination of w bits (R333, R336). -/
theorem extractField_setWidth (d : Word) (k w : Nat) {n : Nat} (hn : n ≤ 32) :
    (extractField d k n).setWidth w = BitVec.ofNat w (d.toNat / 2 ^ k % 2 ^ n) := by
  rw [← BitVec.ofNat_toNat, extractField, BitVec.toNat_and, lowMask_toNat hn,
    Nat.and_two_pow_sub_one_eq_mod, BitVec.toNat_ushiftRight, Nat.shiftRight_eq_div_pow]

/-- A replaced field holds the low bits of the value, and the bits outside it are as they were (R338). -/
theorem getLsbD_insertField {j : Nat} (d v : Word) (k n : Nat) (hj : j < 32) :
    (insertField d k n v).getLsbD j =
      if k ≤ j ∧ j < k + n then v.getLsbD (j - k) else d.getLsbD j := by
  have hmask : (lowMask n <<< k).getLsbD j = decide (k ≤ j ∧ j < k + n) := by
    rw [BitVec.getLsbD_shiftLeft, getLsbD_lowMask]
    grind
  have hfield : ((v &&& lowMask n) <<< k).getLsbD j =
      (decide (k ≤ j ∧ j < k + n) && v.getLsbD (j - k)) := by
    rw [BitVec.getLsbD_shiftLeft, BitVec.getLsbD_and, getLsbD_lowMask]
    grind
  rw [insertField, BitVec.getLsbD_or, BitVec.getLsbD_and, BitVec.getLsbD_not, hmask, hfield]
  by_cases h : k ≤ j ∧ j < k + n <;> simp [h, hj]

/-! ## The first set bit -/

/-- The search for the first set bit finds the least number from `o` on. -/
theorem firstSet_eq_find {w : Nat} (x : BitVec w) (o n : Nat) :
    firstSet x o n = (List.range' o n).find? x.getLsbD := by
  induction n generalizing o with
  | zero => rfl
  | succ n ih =>
    rw [firstSet, List.range'_succ, List.find?_cons, ih]
    cases x.getLsbD o <;> rfl

/-- R328: the numbers below w that are not below `o` are those from `o` on. -/
theorem filter_range_head {w o : Nat} (p : Nat → Bool) (ho : o ≤ w) :
    ((List.range w).filter fun j => decide (o ≤ j) && p j).head? = (List.range' o (w - o)).find? p := by
  have hsplit : List.range w = List.range o ++ List.range' o (w - o) := by
    have happ := List.range'_append_1 (s := 0) (m := o) (n := w - o)
    rw [Nat.zero_add, Nat.add_sub_cancel' ho] at happ
    rw [List.range_eq_range', List.range_eq_range', happ]
  have hlow : (List.range o).find? (fun j => decide (o ≤ j) && p j) = none := by
    simp only [List.find?_eq_none, List.mem_range]
    intro j hj
    simp [Nat.not_le.2 hj]
  have hhigh : (List.range' o (w - o)).find? (fun j => decide (o ≤ j) && p j) =
      (List.range' o (w - o)).find? p := by
    refine List.find?_congr fun j hj => ?_
    simp [(List.mem_range'_1.1 hj).1]
  rw [List.head?_filter, hsplit, List.find?_append, hlow, hhigh]
  rfl

theorem firstSetResult_of_some {w j : Nat} {x : BitVec w} {y : BitVec 8} (s : State) (hy : y.toNat ≤ w)
    (h : firstSet x y.toNat (w - y.toNat) = some j) :
    firstSetResult x y s = (BitVec.ofNat 8 j, s.setF false) := by
  simp only [firstSetResult, filter_range_head _ hy, ← firstSet_eq_find, h]

theorem firstSetResult_of_none {w : Nat} {x : BitVec w} {y : BitVec 8} (s : State) (hy : y.toNat ≤ w)
    (h : firstSet x y.toNat (w - y.toNat) = none) : firstSetResult x y s = (0, s.setF true) := by
  simp only [firstSetResult, filter_range_head _ hy, ← firstSet_eq_find, h]

theorem firstSet_eq_some_iff {w o n j : Nat} {x : BitVec w} : firstSet x o n = some j ↔
    x.getLsbD j = true ∧ (o ≤ j ∧ j < o + n) ∧ ∀ k, o ≤ k → k < j → x.getLsbD k = false := by
  simp only [firstSet_eq_find, List.find?_range'_eq_some, List.mem_range'_1, Bool.not_eq_true']

theorem firstSet_eq_none_iff {w o n : Nat} {x : BitVec w} : firstSet x o n = none ↔
    ∀ j, o ≤ j → j < o + n → x.getLsbD j = false := by
  simp only [firstSet_eq_find, List.find?_range'_eq_none, Bool.not_eq_true']

end Sys2Proof.Machine
end

section
/-! When a bit or field instruction completes (R320 to R340, R421): the offset and the base are found, and
then the register, the byte or the double-word is what the rules make of it. -/

namespace Sys2Proof.Machine

/-! ## Bases -/

/-- A base that is no register lies at its address (R135, R136). -/
theorem bitBase_mem {s : State} {spi ea : Word} {b : Gen} (hb : ∀ r, b ≠ .plain (.reg r))
    (ha : genAddr spi s b = .ok ea) : bitBase spi s b = .ok (.mem ea) := by
  unfold bitBase
  split
  · next r => exact absurd rfl (hb r)
  · rw [ha]; rfl

/-! ## Bit instructions -/

/-- The register with one bit changed, if the instruction writes it. -/
def changeRegBit (change : Option (Bool → Bool)) (r : Reg) (s : State) (n : Nat) (old : Bool) : State :=
  match change with
  | none => s
  | some f => s.setReg r (putBit (s.reg r) n (f old))

/-- A free value in the register, if the instruction writes it (U15; log 33). -/
def freeReg (change : Option (Bool → Bool)) (r : Reg) (s : State) : State :=
  match change with
  | none => s
  | some _ => (s.draw 32).2.setReg r (s.draw 32).1

section
variable {w len : Nat} {a b : Gen} {s s₁ : State} {x : BitVec w}
  (hx : readGen .int w s.sp a s = .ok (x, s₁)) (change : Option (Bool → Bool))
include hx

theorem bitOp_reg (r : Reg) (h : 0 ≤ x.toInt ∧ x.toInt < 32) :
    bitOp w len a (.plain (.reg r)) s change =
      .ok (((changeRegBit change r s₁ x.toInt.toNat ((s₁.reg r).getLsbD x.toInt.toNat)).setF
        ((s₁.reg r).getLsbD x.toInt.toNat)).advance len) := by
  simp only [bitOp, bind, Except.bind, hx, bitBase, if_pos h]
  cases change <;> rfl

theorem bitOp_reg_outside (r : Reg) (h : ¬ (0 ≤ x.toInt ∧ x.toInt < 32)) :
    bitOp w len a (.plain (.reg r)) s change =
      .ok (((freeReg change r (s₁.draw 1).2).setF ((s₁.draw 1).1 == 1)).advance len) := by
  simp only [bitOp, bind, Except.bind, hx, bitBase, if_neg h]
  cases change <;> rfl

theorem bitOp_mem_read {ea : Word} {v : Byte} (hb : ∀ r, b ≠ .plain (.reg r))
    (ha : genAddr s.sp s₁ b = .ok ea) (hv : s₁.read 8 (bitByte ea x.toInt) = .ok v) :
    bitOp w len a b s none = .ok ((s₁.setF (v.getLsbD (bitIndex x.toInt))).advance len) := by
  simp only [bitOp, bind, Except.bind, hx, bitBase_mem hb ha, hv]

theorem bitOp_mem_write {ea : Word} {v : Byte} {t : State} {f : Bool → Bool}
    (hb : ∀ r, b ≠ .plain (.reg r)) (ha : genAddr s.sp s₁ b = .ok ea)
    (hv : s₁.read 8 (bitByte ea x.toInt) .rmw = .ok v)
    (ht : s₁.write (bitByte ea x.toInt)
      (putBit v (bitIndex x.toInt) (f (v.getLsbD (bitIndex x.toInt)))) .rmw = .ok t) :
    bitOp w len a b s (some f) = .ok ((t.setF (v.getLsbD (bitIndex x.toInt))).advance len) := by
  simp only [bitOp, bind, Except.bind, hx, bitBase_mem hb ha, hv, ht]

end

/-- Writing F leaves the other bits of PSR (R39). -/
theorem setF_psr_xor (s : State) (b : Bool) : ((s.setF b).psr ^^^ s.psr) &&& 0xFFDF = 0 := by
  have hm : (0xFFDF : BitVec 16) = ~~~0x20 := by decide
  rw [setF_psr, xor_and_mask, hm, putBit_and_not _ _ _ (by decide), BitVec.xor_self]
  rfl

theorem freeReg_spec (change : Option (Bool → Bool)) (r : Reg) (s : State) :
    ∃ v n, freeReg change r s = { s.setReg r v with freeCount := n } := by
  cases change with
  | none => exact ⟨s.reg r, s.freeCount, by simp [freeReg, State.setReg, State.reg]⟩
  | some f => exact ⟨_, _, rfl⟩

section
variable {i : Instr} {w : Nat} {a b : Gen} {s : State} (hs : s.accessible)
include hs

/-- A bit instruction on a register completes, with F the bit, or free where the register has no such
bit (R320, U15). -/
theorem bitInRegister_completes {ta : Attr} {r : Reg} (change : Option (Bool → Bool))
    (ha : a.wellFormed ta = true)
    (he : exec i s = conclude s (bitOp w i.length a (.plain (.reg r)) s change)) :
    BitInRegister i w a r s (changeRegBit change r) := by
  obtain ⟨x, s₁, hx⟩ := readGen_ok hs .int w s.sp ha
  refine ⟨x, s₁, hx, fun hin => ?_, fun hout => ?_⟩
  · rw [he, bitOp_reg hx change r hin]
    rfl
  · obtain ⟨v, n, hfree⟩ := freeReg_spec change r (s₁.draw 1).2
    refine ⟨(freeReg change r (s₁.draw 1).2).setF ((s₁.draw 1).1 == 1), ?_, ?_⟩
    · rw [he, bitOp_reg_outside hx change r (by omega)]
      rfl
    · rw [hfree]
      exact ⟨fun q hq => reg_setReg_other s₁ r q v hq, setF_psr_xor s₁ _, rfl, rfl, rfl, rfl, rfl,
        by simp [State.sameSystem]⟩

/-- A bit instruction in memory completes, for every signed offset (R321). -/
theorem bitInMemory_completes {ta tb : Attr} (change : Option (Bool → Bool)) (hi : i.wellFormed = true)
    (hl : (layout i).operands = [(ta, a), (tb, b)]) (htb : tb.immSize = none)
    (hb : ∀ r, b ≠ .plain (.reg r)) (he : exec i s = conclude s (bitOp w i.length a b s change)) :
    BitInMemory i w a b s change := by
  obtain ⟨hwa, hwb⟩ := wellFormed_two hi hl
  obtain ⟨x, s₁, hx⟩ := readGen_ok hs .int w s.sp hwa
  have hs₁ := accessible_congr (readGen_xlate hx) hs
  obtain ⟨ea, hea⟩ := genAddr_ok hs₁ s.sp htb hwb
  cases change with
  | none =>
    obtain ⟨v, hv⟩ := read_ok hs₁ 8 (bitByte ea x.toInt) .read s₁.flagU
    have hop := bitOp_mem_read (len := i.length) hx hb hea hv
    rw [bitByte_eq] at hv
    rw [bitIndex_eq] at hop
    exact ⟨x, s₁, ea, v, hx, hea, hv, by rw [he, hop]; rfl⟩
  | some f =>
    obtain ⟨v, hv⟩ := read_ok hs₁ 8 (bitByte ea x.toInt) .rmw s₁.flagU
    obtain ⟨t, ht⟩ := write_ok hs₁ (bitByte ea x.toInt)
      (putBit v (bitIndex x.toInt) (f (v.getLsbD (bitIndex x.toInt)))) .rmw s₁.flagU
    have hop := bitOp_mem_write (len := i.length) hx hb hea hv ht
    rw [bitByte_eq] at hv ht
    rw [bitIndex_eq] at hop ht
    exact ⟨x, s₁, ea, v, hx, hea, hv, _, t, fun j hj => getLsbD_putBit v _ _ hj, ht,
      by rw [he, hop]; rfl⟩

end

/-! ## Fields -/

/-- The double-word that holds a field is found and read, where every access is translated. -/
theorem fieldPlace_ok {s : State} (hs : s.accessible) {t : Attr} (ht : t.immSize = none) (k : Access)
    (spi : Word) {base : Gen} (h : base.wellFormed t = true) (off : Int) :
    ∃ d start at_, fieldPlace k spi s base off d start at_ := by
  by_cases hb : ∃ r, base = .plain (.reg r)
  · obtain ⟨r, rfl⟩ := hb
    exact ⟨_, _, _, .inl ⟨r, rfl, rfl, rfl, rfl⟩⟩
  · obtain ⟨ea, ha⟩ := genAddr_ok hs spi ht h
    obtain ⟨d, hd⟩ := read_ok hs 32 (ea + BitVec.ofInt 32 (off / 8)) k s.flagU
    exact ⟨_, _, _, .inr ⟨not_exists.1 hb, ea, ha, hd, rfl, rfl⟩⟩

/-! ### Extraction -/

theorem extField_of_place {w len : Nat} {off n start : Int} {a b : Gen} {s : State} {d : Word}
    {at_ : Option Word} (h : fieldPlace .read s.sp s a off d start at_) :
    extField w len off n a b s = deliverField w len s.sp b s d start n := by
  obtain ⟨r, rfl, rfl, rfl, -⟩ | ⟨hb, ea, ha, hd, rfl, -⟩ := h
  · rfl
  · rw [← bitByte_eq] at hd
    simp only [extField, bind, Except.bind, bitBase_mem hb ha, hd, fmod_eight]
    rfl

/-- What EXT delivers: the field's value, or a free value where the field is not defined. -/
theorem deliverField_ok {w len : Nat} {b : Gen} {s : State} {l : Loc} (hs : s.accessible)
    (hl : writeLoc .int s.sp b s = .ok l) (d : Word) (start n : Int) :
    (fieldDefined start n → ∃ t,
      writeAt l (BitVec.ofNat w (d.toNat / 2 ^ start.toNat % 2 ^ n.toNat)) s = .ok t ∧
      deliverField w len s.sp b s d start n = .ok (t.advance len)) ∧
    (¬ fieldDefined start n → ∃ t, writeAt l (s.draw w).1 (s.draw w).2 = .ok t ∧
      deliverField w len s.sp b s d start n = .ok (t.advance len)) := by
  refine ⟨fun hf => ?_, fun hf => ?_⟩
  · obtain ⟨t, ht⟩ := writeAt_ok hs l (BitVec.ofNat w (d.toNat / 2 ^ start.toNat % 2 ^ n.toNat))
    have ⟨_, _, hn, _⟩ := hf
    refine ⟨t, ht, ?_⟩
    rw [← extractField_setWidth d start.toNat w (by omega)] at ht
    simp only [deliverField, bind, Except.bind, hl, if_pos ((fieldFits_iff _ _).2 hf)]
    exact deliver_ok ht (Bool.and_false _)
  · obtain ⟨t, ht⟩ := writeAt_ok (s := (s.draw w).2) hs l (s.draw w).1
    refine ⟨t, ht, ?_⟩
    simp only [deliverField, bind, Except.bind, hl, if_neg (mt (fieldFits_iff _ _).1 hf)]
    exact deliver_ok ht (Bool.and_false _)

/-- EXTi and EXTSi complete (R336, R337). -/
theorem extField_completes {i : Instr} {s : State} {w : Nat} {a b : Gen} {ta tb : Attr} {off n : Int}
    (hs : s.accessible) (hi : i.wellFormed = true) (hl : (layout i).operands = [(ta, a), (tb, b)])
    (hta : ta.immSize = none) (htb : tb.immSize = none)
    (he : exec i s = conclude s (extField w i.length off n a b s)) :
    ExtractCompletes i w a b s off n := by
  obtain ⟨hwa, hwb⟩ := wellFormed_two hi hl
  obtain ⟨d, start, at_, hp⟩ := fieldPlace_ok hs hta .read s.sp hwa off
  obtain ⟨l, hloc⟩ := writeLoc_ok hs .int s.sp htb hwb
  obtain ⟨hin, hout⟩ := deliverField_ok (w := w) (len := i.length) hs hloc d start n
  rw [extField_of_place hp] at he
  refine ⟨d, start, at_, l, hp, hloc, fun hf => ?_, fun hf => ?_⟩
  · obtain ⟨t, ht, hd⟩ := hin hf
    exact ⟨t, ht, by rw [he, hd]; rfl⟩
  · obtain ⟨t, ht, hd⟩ := hout hf
    exact ⟨t, ht, by rw [he, hd]; rfl⟩

/-! ### Insertion -/

/-- The double-word that INS leaves and the state in which it is written: a free value is drawn where the
field is not defined (U17 to U19; log 35). -/
def insertedField {w : Nat} (x : BitVec w) (d : Word) (start n : Int) (s : State) : Word × State :=
  if fieldFits start n then (insertField d start.toNat n.toNat (x.setWidth 32), s) else s.draw 32

theorem insertedField_of_defined {w : Nat} {x : BitVec w} {d : Word} {start n : Int} {s : State}
    (hf : fieldDefined start n) : insertedField x d start n s =
      (insertField d start.toNat n.toNat (x.setWidth 32), s) :=
  if_pos ((fieldFits_iff _ _).2 hf)

theorem insertedField_of_not_defined {w : Nat} {x : BitVec w} {d : Word} {start n : Int} {s : State}
    (hf : ¬ fieldDefined start n) : insertedField x d start n s = s.draw 32 :=
  if_neg (mt (fieldFits_iff _ _).1 hf)

theorem insertedField_xlate {w : Nat} (x : BitVec w) (d : Word) (start n : Int) (s : State) :
    (insertedField x d start n s).2.xlate = s.xlate := by
  unfold insertedField
  split <;> rfl

section
variable {w len : Nat} {off n : Int} {a b : Gen} {s s₁ : State} {x : BitVec w}
  (hx : readGen .int w s.sp a s = .ok (x, s₁))
include hx

theorem insField_reg (r : Reg) : insField w len off n a (.plain (.reg r)) s =
    .ok (((insertedField x (s₁.reg r) off n s₁).2.setReg r
      (insertedField x (s₁.reg r) off n s₁).1).advance len) := by
  simp only [insField, insertedField, bind, Except.bind, hx, bitBase]
  split <;> rfl

theorem insField_mem {ea d v : Word} {s₂ t : State} (hb : ∀ r, b ≠ .plain (.reg r))
    (ha : genAddr s.sp s₁ b = .ok ea) (hd : s₁.read 32 (ea + BitVec.ofInt 32 (off / 8)) .rmw = .ok d)
    (hv : insertedField x d (off % 8) n s₁ = (v, s₂))
    (ht : s₂.write (ea + BitVec.ofInt 32 (off / 8)) v .rmw = .ok t) :
    insField w len off n a b s = .ok (t.advance len) := by
  simp only [insField, bind, Except.bind, hx, bitBase_mem hb ha, bitByte_eq, hd, fmod_eight,
    bitIndex_eq]
  by_cases hf : fieldFits (off % 8) n = true
  · rw [insertedField, if_pos hf] at hv
    cases hv
    simp only [if_pos hf, ht]
  · rw [insertedField, if_neg hf] at hv
    simp only [if_neg hf]
    rw [hv, ht]

end

/-- INSi and INSSi complete (R338, R339). -/
theorem insField_completes {i : Instr} {s : State} {w : Nat} {a b : Gen} {ta tb : Attr} {off n : Int}
    (hs : s.accessible) (hi : i.wellFormed = true) (hl : (layout i).operands = [(ta, a), (tb, b)])
    (htb : tb.immSize = none) (he : exec i s = conclude s (insField w i.length off n a b s)) :
    InsertCompletes i w a b s off n := by
  obtain ⟨hwa, hwb⟩ := wellFormed_two hi hl
  obtain ⟨x, s₁, hx⟩ := readGen_ok hs .int w s.sp hwa
  have hs₁ := accessible_congr (readGen_xlate hx) hs
  obtain ⟨d, start, at_, hp⟩ := fieldPlace_ok hs₁ htb .rmw s.sp hwb off
  refine ⟨x, s₁, d, start, at_, hx, hp, (insertedField x d start n s₁).1,
    (insertedField x d start n s₁).2, fun hf => ?_, insertedField_of_not_defined, ?_, ?_⟩
  · rw [insertedField_of_defined hf]
    refine ⟨rfl, fun j hj => ?_⟩
    have hlow : (x.setWidth 32).getLsbD (j - start.toNat) = x.getLsbD (j - start.toNat) := by
      rw [BitVec.getLsbD_setWidth, decide_eq_true (by omega), Bool.true_and]
    rw [getLsbD_insertField _ _ _ _ hj, hlow]
  · rintro r rfl
    obtain ⟨q, hq, rfl, rfl, -⟩ | ⟨hb, -⟩ := hp
    · cases hq
      rw [he, insField_reg hx]
      rfl
    · exact absurd rfl (hb r)
  · rintro p rfl
    obtain ⟨-, -, -, -, h⟩ | ⟨hb, ea, ha, hd, rfl, h⟩ := hp
    · cases h
    · cases h
      obtain ⟨t, ht⟩ := write_ok (accessible_congr (insertedField_xlate x d (off % 8) n s₁) hs₁)
        (ea + BitVec.ofInt 32 (off / 8)) (insertedField x d (off % 8) n s₁).1 .rmw
        (insertedField x d (off % 8) n s₁).2.flagU
      exact ⟨t, ht, by rw [he, insField_mem hx hb ha hd rfl ht]; rfl⟩

/-! ## FFS, CVTP and ADDR -/

theorem answers_of_no_overflow {w : Nat} {s s₃ : State} {r : Result w} {v : BitVec w}
    (ho : r.ovf = false) (hx : r.state.xlate = s.xlate) (h : some (r.value, r.state) = some (v, s₃)) :
    Answers (.ok r) s v s₃ := by
  cases h
  exact ⟨r, rfl, rfl, rfl, by rw [ho, Bool.and_false], hx⟩

section
variable {i : Instr} {s : State} {a b : Gen} {ta tb : Attr} (hs : s.accessible)
  (hi : i.wellFormed = true) (hl : (layout i).operands = [(ta, a), (tb, b)]) (htb : tb.immSize = none)
include hs hi hl htb

/-- FFSi completes; the offset operand and F are free where the offset is not less than the length (R328,
U16). -/
theorem ffsI_completes {w : Nat} (he : exec i s = conclude s (ffsI w i.length a b s)) :
    CompletesRmw i .int .int w 8 a b s fun x y s =>
      if w ≤ y.toNat then
        some ((s.draw 8).1, ((s.draw 8).2.draw 1).2.setF (((s.draw 8).2.draw 1).1 == 1))
      else some (firstSetResult x y s) := by
  refine binary_completes hs hi hl htb he fun x y t v u h => ?_
  by_cases hw : w ≤ y.toNat
  · rw [if_pos hw] at h
    rw [if_pos hw]
    exact answers_of_no_overflow rfl rfl h
  · have hle : y.toNat ≤ w := Nat.le_of_not_le hw
    rw [if_neg hw] at h
    rw [if_neg hw]
    cases hfirst : firstSet x y.toNat (w - y.toNat) with
    | none =>
      rw [firstSetResult_of_none t hle hfirst] at h
      exact answers_of_no_overflow rfl rfl h
    | some j =>
      rw [firstSetResult_of_some t hle hfirst] at h
      exact answers_of_no_overflow rfl rfl h

/-- A value that is computed from an effective address is stored; the address is not accessed (R134). -/
theorem fromAddr_completes (hta : ta.immSize = none) {v : Word → State → Word}
    (he : exec i s = conclude s
      (fromAddr 32 i.length a b s fun ea s => { value := v ea s, state := s })) :
    ∃ ea, genAddr s.sp s a = .ok ea ∧ CompletesStore i 32 b s (v ea s) s := by
  obtain ⟨hwa, hwb⟩ := wellFormed_two hi hl
  obtain ⟨ea, ha⟩ := genAddr_ok hs s.sp hta hwa
  refine ⟨ea, ha, completesStore_of (op := fun s => { value := v ea s, state := s }) hs hwb htb ?_
    ⟨rfl, rfl, rfl, rfl⟩⟩
  rw [he]
  simp only [fromAddr, store, bind, Except.bind, ha]

/-- CVTP stores the bit address 8 * EA(base) + offset modulo 2^32 (R329). -/
theorem cvtpI_completes (hta : ta.immSize = none) {r : Reg}
    (he : exec i s = conclude s (cvtpI i.length r a b s)) :
    ∃ ea, genAddr s.sp s a = .ok ea ∧
      CompletesStore i 32 b s (BitVec.ofNat 32 (8 * ea.toNat + (s.reg r).toNat)) s := by
  have hvalue (ea : Word) : 8 * ea + s.reg r = BitVec.ofNat 32 (8 * ea.toNat + (s.reg r).toNat) := by
    simp [BitVec.ofNat_add, BitVec.ofNat_mul]
  obtain ⟨ea, ha, hc⟩ := fromAddr_completes (v := fun ea s => 8 * ea + s.reg r) hs hi hl htb hta he
  exact ⟨ea, ha, hvalue ea ▸ hc⟩

end

end Sys2Proof.Machine

namespace Sys2Proof.Proofs

open Sys2Proof.Machine

/-- Settles O27: the 18 instructions are one shape (`bitInRegister_completes`) and differ in what they make
of the bit. -/
theorem bitsInRegisters : Obligations.BitsInRegisters := by
  unfold Obligations.BitsInRegisters
  intro s a r hs
  exact ⟨fun h => bitInRegister_completes hs none h
      (exec_length (tbitI 8 · a (.plain (.reg r)) s) rfl),
    fun h => bitInRegister_completes hs none h
      (exec_length (tbitI 16 · a (.plain (.reg r)) s) rfl),
    fun h => bitInRegister_completes hs none h
      (exec_length (tbitI 32 · a (.plain (.reg r)) s) rfl),
    fun h => bitInRegister_completes hs (some fun _ => true) h
      (exec_length (sbitI 8 · a (.plain (.reg r)) s) rfl),
    fun h => bitInRegister_completes hs (some fun _ => true) h
      (exec_length (sbitI 16 · a (.plain (.reg r)) s) rfl),
    fun h => bitInRegister_completes hs (some fun _ => true) h
      (exec_length (sbitI 32 · a (.plain (.reg r)) s) rfl),
    fun h => bitInRegister_completes hs (some fun _ => true) h
      (exec_length (sbitII 8 · a (.plain (.reg r)) s) rfl),
    fun h => bitInRegister_completes hs (some fun _ => true) h
      (exec_length (sbitII 16 · a (.plain (.reg r)) s) rfl),
    fun h => bitInRegister_completes hs (some fun _ => true) h
      (exec_length (sbitII 32 · a (.plain (.reg r)) s) rfl),
    fun h => bitInRegister_completes hs (some fun _ => false) h
      (exec_length (cbitI 8 · a (.plain (.reg r)) s) rfl),
    fun h => bitInRegister_completes hs (some fun _ => false) h
      (exec_length (cbitI 16 · a (.plain (.reg r)) s) rfl),
    fun h => bitInRegister_completes hs (some fun _ => false) h
      (exec_length (cbitI 32 · a (.plain (.reg r)) s) rfl),
    fun h => bitInRegister_completes hs (some fun _ => false) h
      (exec_length (cbitII 8 · a (.plain (.reg r)) s) rfl),
    fun h => bitInRegister_completes hs (some fun _ => false) h
      (exec_length (cbitII 16 · a (.plain (.reg r)) s) rfl),
    fun h => bitInRegister_completes hs (some fun _ => false) h
      (exec_length (cbitII 32 · a (.plain (.reg r)) s) rfl),
    fun h => bitInRegister_completes hs (some fun old => !old) h
      (exec_length (ibitI 8 · a (.plain (.reg r)) s) rfl),
    fun h => bitInRegister_completes hs (some fun old => !old) h
      (exec_length (ibitI 16 · a (.plain (.reg r)) s) rfl),
    fun h => bitInRegister_completes hs (some fun old => !old) h
      (exec_length (ibitI 32 · a (.plain (.reg r)) s) rfl)⟩

/-- Settles O28: the same shape with a base in memory (`bitInMemory_completes`). -/
theorem bitsInMemory : Obligations.BitsInMemory := by
  unfold Obligations.BitsInMemory
  intro s a b hs
  exact ⟨fun h hb => bitInMemory_completes hs none h rfl rfl hb
      (exec_length (tbitI 8 · a b s) rfl),
    fun h hb => bitInMemory_completes hs none h rfl rfl hb
      (exec_length (tbitI 16 · a b s) rfl),
    fun h hb => bitInMemory_completes hs none h rfl rfl hb
      (exec_length (tbitI 32 · a b s) rfl),
    fun h hb => bitInMemory_completes hs (some fun _ => true) h rfl rfl hb
      (exec_length (sbitI 8 · a b s) rfl),
    fun h hb => bitInMemory_completes hs (some fun _ => true) h rfl rfl hb
      (exec_length (sbitI 16 · a b s) rfl),
    fun h hb => bitInMemory_completes hs (some fun _ => true) h rfl rfl hb
      (exec_length (sbitI 32 · a b s) rfl),
    fun h hb => bitInMemory_completes hs (some fun _ => true) h rfl rfl hb
      (exec_length (sbitII 8 · a b s) rfl),
    fun h hb => bitInMemory_completes hs (some fun _ => true) h rfl rfl hb
      (exec_length (sbitII 16 · a b s) rfl),
    fun h hb => bitInMemory_completes hs (some fun _ => true) h rfl rfl hb
      (exec_length (sbitII 32 · a b s) rfl),
    fun h hb => bitInMemory_completes hs (some fun _ => false) h rfl rfl hb
      (exec_length (cbitI 8 · a b s) rfl),
    fun h hb => bitInMemory_completes hs (some fun _ => false) h rfl rfl hb
      (exec_length (cbitI 16 · a b s) rfl),
    fun h hb => bitInMemory_completes hs (some fun _ => false) h rfl rfl hb
      (exec_length (cbitI 32 · a b s) rfl),
    fun h hb => bitInMemory_completes hs (some fun _ => false) h rfl rfl hb
      (exec_length (cbitII 8 · a b s) rfl),
    fun h hb => bitInMemory_completes hs (some fun _ => false) h rfl rfl hb
      (exec_length (cbitII 16 · a b s) rfl),
    fun h hb => bitInMemory_completes hs (some fun _ => false) h rfl rfl hb
      (exec_length (cbitII 32 · a b s) rfl),
    fun h hb => bitInMemory_completes hs (some fun old => !old) h rfl rfl hb
      (exec_length (ibitI 8 · a b s) rfl),
    fun h hb => bitInMemory_completes hs (some fun old => !old) h rfl rfl hb
      (exec_length (ibitI 16 · a b s) rfl),
    fun h hb => bitInMemory_completes hs (some fun old => !old) h rfl rfl hb
      (exec_length (ibitI 32 · a b s) rfl)⟩

/-- Settles O29: EXT and EXTS differ in where the offset and the length stand (`extField_completes`). -/
theorem fieldExtraction : Obligations.FieldExtraction := by
  unfold Obligations.FieldExtraction
  intro s r a b d im hs
  exact ⟨fun h => extField_completes hs h rfl rfl rfl (exec_length (extI 8 · r a b d s) rfl),
    fun h => extField_completes hs h rfl rfl rfl (exec_length (extI 16 · r a b d s) rfl),
    fun h => extField_completes hs h rfl rfl rfl (exec_length (extI 32 · r a b d s) rfl),
    fun h => extField_completes hs h rfl rfl rfl (exec_length (extsI 8 · a b im s) rfl),
    fun h => extField_completes hs h rfl rfl rfl (exec_length (extsI 16 · a b im s) rfl),
    fun h => extField_completes hs h rfl rfl rfl (exec_length (extsI 32 · a b im s) rfl)⟩

/-- Settles O30: INS and INSS differ in where the offset and the length stand (`insField_completes`). -/
theorem fieldInsertion : Obligations.FieldInsertion := by
  unfold Obligations.FieldInsertion
  intro s r a b d im hs
  exact ⟨fun h => insField_completes hs h rfl rfl (exec_length (insI 8 · r a b d s) rfl),
    fun h => insField_completes hs h rfl rfl (exec_length (insI 16 · r a b d s) rfl),
    fun h => insField_completes hs h rfl rfl (exec_length (insI 32 · r a b d s) rfl),
    fun h => insField_completes hs h rfl rfl (exec_length (inssI 8 · a b im s) rfl),
    fun h => insField_completes hs h rfl rfl (exec_length (inssI 16 · a b im s) rfl),
    fun h => insField_completes hs h rfl rfl (exec_length (inssI 32 · a b im s) rfl)⟩

/-- Settles O31: FFS by the search that finds the least set bit (`firstSet_eq_some_iff`), CVTP and ADDR as
values of an effective address (`fromAddr_completes`). -/
theorem findFirstSetAndAddresses : Obligations.FindFirstSetAndAddresses := by
  unfold Obligations.FindFirstSetAndAddresses
  refine ⟨fun w x y s _ hy => ⟨fun j hyj hjw hj hlow => ?_, fun hnone => ?_⟩, fun s r a b hs => ?_⟩
  · have hfirst : firstSet x y.toNat (w - y.toNat) = some j :=
      firstSet_eq_some_iff.2 ⟨hj, ⟨hyj, by omega⟩, hlow⟩
    exact firstSetResult_of_some s hy.le hfirst
  · have hfirst : firstSet x y.toNat (w - y.toNat) = none :=
      firstSet_eq_none_iff.2 fun j hyj hjw => hnone j hyj (by omega)
    exact firstSetResult_of_none s hy.le hfirst
  · exact ⟨fun h => ffsI_completes hs h rfl rfl (exec_length (ffsI 8 · a b s) rfl),
      fun h => ffsI_completes hs h rfl rfl (exec_length (ffsI 16 · a b s) rfl),
      fun h => ffsI_completes hs h rfl rfl (exec_length (ffsI 32 · a b s) rfl),
      fun h => cvtpI_completes hs h rfl rfl rfl (exec_length (cvtpI · r a b s) rfl),
      fun h => fromAddr_completes (v := fun ea _ => ea) hs h rfl rfl rfl
        (exec_length (addrI · a b s) rfl)⟩

end Sys2Proof.Proofs
end

section
/-! When CHECKi and INDEXi complete (R371, R372): the source lies in the bounds or not, and the register is
what the rules make of it. -/

namespace Sys2Proof.Machine

/-! ## Values -/

/-- A difference that is not negative has the bits of the same difference of 32 bits (R371). -/
theorem setWidth_sub_of_le {w : Nat} (hw : w ≤ 32) {x y : BitVec w} (h : y.toInt ≤ x.toInt) :
    (x - y).setWidth 32 = BitVec.ofInt 32 (x.toInt - y.toInt) := by
  obtain ⟨n, hn⟩ := Int.eq_ofNat_of_zero_le (Int.sub_nonneg.2 h)
  have hlt : n < 2 ^ w := by
    have hx := BitVec.two_mul_toInt_lt (x := x)
    have hy := BitVec.le_two_mul_toInt (x := y)
    have : (n : Int) < (2 ^ w : Nat) := by push_cast; omega
    exact_mod_cast this
  have hsub : x - y = BitVec.ofNat w n := by
    rw [← BitVec.ofInt_natCast, ← hn, ofInt_sub, BitVec.ofInt_toInt, BitVec.ofInt_toInt]
  rw [hsub, hn, BitVec.ofInt_natCast, BitVec.setWidth_ofNat_of_le_of_lt hw hlt]

/-- The index that INDEXi computes, modulo 2^32 (R372, D6). -/
theorem index_value {w : Nat} (v : Word) (x y : BitVec w) :
    v * (x.setWidth 32 + 1) + y.setWidth 32 =
      BitVec.ofNat 32 (v.toNat * (x.toNat + 1) + y.toNat) := by
  simp only [BitVec.ofNat_add, BitVec.ofNat_mul, BitVec.ofNat_toNat, BitVec.setWidth_eq]
  rfl

/-! ## The instructions -/

section
variable {i : Instr} {w : Nat} {s : State} {a b : Gen} {ta tb : Attr} {r : Reg} (hs : s.accessible)
  (hi : i.wellFormed = true) (hl : (layout i).operands = [(ta, a), (tb, b)])
include hs hi hl

/-- CHECKi completes, with the zero-adjusted difference in bounds and a free value out of bounds, where
PSR.V enables no trap (R371, U25). -/
theorem checkI_completes (hw : w ≤ 32) (hta : ta.immSize = none)
    (he : exec i s = conclude s (checkI w i.length r a b s)) :
    ∃ ea x s₁ up lo, genAddr s.sp s a = .ok ea ∧ readGen .int w s.sp b s = .ok (x, s₁) ∧
      s₁.read w ea = .ok up ∧ s₁.read w (ea + BitVec.ofNat 32 (w / 8)) = .ok lo ∧
      (lo.toInt ≤ x.toInt ∧ x.toInt ≤ up.toInt →
        exec i s = .next (((s₁.setF false).setReg r
          (BitVec.ofInt 32 (x.toInt - lo.toInt))).advance i.length)) ∧
      (x.toInt < lo.toInt ∨ up.toInt < x.toInt → s₁.flagV = false →
        exec i s = .next ((((s₁.setF true).draw 32).2.setReg r
          ((s₁.setF true).draw 32).1).advance i.length)) := by
  obtain ⟨hwa, hwb⟩ := wellFormed_two hi hl
  obtain ⟨ea, ha⟩ := genAddr_ok hs s.sp hta hwa
  obtain ⟨x, s₁, hx⟩ := readGen_ok hs .int w s.sp hwb
  have hs₁ := accessible_congr (readGen_xlate hx) hs
  obtain ⟨up, hup⟩ := read_ok hs₁ w ea .read s₁.flagU
  obtain ⟨lo, hlo⟩ := read_ok hs₁ w (ea + BitVec.ofNat 32 (w / 8)) .read s₁.flagU
  refine ⟨ea, x, s₁, up, lo, ha, hx, hup, hlo, fun hin => ?_, fun hout hV => ?_⟩
  · have ho : (decide (up.toInt < x.toInt) || decide (x.toInt < lo.toInt)) = false := by
      simpa using hin.symm
    rw [he, ← setWidth_sub_of_le hw hin.1]
    simp only [checkI, bind, Except.bind, ha, hx, hup, hlo, ho, Bool.false_eq_true, if_false, conclude]
  · have ho : (decide (up.toInt < x.toInt) || decide (x.toInt < lo.toInt)) = true := by
      simpa [or_comm] using hout
    have hov (u : State) (hu : u.flagV = false) : ovfTrap true u = .ok u := by simp [ovfTrap, hu]
    have hV' : ((((s₁.setF true).draw 32).2.setReg r ((s₁.setF true).draw 32).1).advance
        i.length).flagV = false := (flagV_setF s₁ true).trans hV
    rw [he]
    simp only [checkI, bind, Except.bind, ha, hx, hup, hlo, ho, if_true, hov _ hV', conclude]

/-- INDEXi completes and changes no flag (R372). -/
theorem indexI_completes (he : exec i s = conclude s (indexI w i.length r a b s)) :
    CompletesCompare i .int w a b s fun x y s =>
      some (s.setReg r (BitVec.ofNat 32 ((s.reg r).toNat * (x.toNat + 1) + y.toNat))) := by
  obtain ⟨hwa, hwb⟩ := wellFormed_two hi hl
  refine completesCompare_of hs hwa hwb he fun x y t u h => ?_
  cases h
  rw [index_value]

end

end Sys2Proof.Machine

namespace Sys2Proof.Proofs

open Sys2Proof.Machine

/-- Settles O34: the three lengths of CHECKi and of INDEXi differ in the width alone
(`checkI_completes`, `indexI_completes`). -/
theorem arrayInstructions : Obligations.ArrayInstructions := by
  unfold Obligations.ArrayInstructions
  intro s r a b hs
  exact ⟨fun h => checkI_completes hs h rfl (by decide) rfl (exec_length (checkI 8 · r a b s) rfl),
    fun h => checkI_completes hs h rfl (by decide) rfl (exec_length (checkI 16 · r a b s) rfl),
    fun h => checkI_completes hs h rfl (by decide) rfl (exec_length (checkI 32 · r a b s) rfl),
    fun h => indexI_completes hs h rfl (exec_length (indexI 8 · r a b s) rfl),
    fun h => indexI_completes hs h rfl (exec_length (indexI 16 · r a b s) rfl),
    fun h => indexI_completes hs h rfl (exec_length (indexI 32 · r a b s) rfl)⟩

end Sys2Proof.Proofs
end

section
/-! What reading memory depends on: not the flags of a comparison, and not how many free values have been
drawn. -/

namespace Sys2Proof.Machine

theorem readBytes_congr {s t : State} (hm : t.mem = s.mem) (hx : t.xlate = s.xlate) (k : Access)
    (u : Bool) (va : Word) (n : Nat) : t.readBytes k u va n = s.readBytes k u va n := by
  induction n generalizing va with
  | zero => rfl
  | succ n ih => simp only [State.readBytes, State.readByte, translate_congr hx, hm, ih]

/-- What a read delivers depends on memory, the parameter `Translate` and the mode alone. -/
theorem read_congr {s t : State} (hm : t.mem = s.mem) (hx : t.xlate = s.xlate) (hu : t.flagU = s.flagU)
    (w : Nat) (va : Word) : t.read w va = s.read w va := by
  simp only [State.read, readBytes_congr hm hx, hu]

/-- Z, N and L are bits 6, 7 and 2 of PSR; U is none of them. -/
@[simp] theorem setZNL_flagU (s : State) (z n l : Bool) : (s.setZNL z n l).flagU = s.flagU := by
  simp only [State.flagU, setZNL_psr, getLsbD_putBit _ _ _ (show 8 < 16 by decide)]
  rfl

@[simp] theorem read_setZNL (s : State) (z n l : Bool) (w : Nat) (va : Word) :
    (s.setZNL z n l).read w va = s.read w va :=
  read_congr (setZNL_mem s z n l) (setZNL_xlate s z n l) (setZNL_flagU s z n l) w va

@[simp] theorem read_freeCount (s : State) (n w : Nat) (va : Word) :
    State.read w { s with freeCount := n } va = s.read w va :=
  read_congr (s := s) (t := { s with freeCount := n }) rfl rfl rfl w va

end Sys2Proof.Machine
end

section
/-! What a string instruction does at one element (R350 to R360): the limit count ends it, or the element
is read and `elementTail` says the rest. -/

namespace Sys2Proof.Machine

/-! ## The limit count and the match -/

theorem limitReached_of_zero {s : State} (h : s.reg 0 = 0) : limitReached s = (true, s) := if_pos h

theorem limitReached_of_positive {s : State} (h : s.reg 0 ≠ 0) (hp : (s.reg 0).msb = false) :
    limitReached s = (false, s) := by
  rw [limitReached, if_neg h, hp]
  rfl

/-- With a negative R0 a free value decides (U20; log 36). -/
theorem limitReached_of_negative {s : State} (hn : (s.reg 0).msb = true) :
    limitReached s = ((s.draw 1).1 == 1, (s.draw 1).2) := by
  have h : s.reg 0 ≠ 0 := fun h0 => by simp [h0] at hn
  rw [limitReached, if_neg h, if_pos hn]

theorem matchEnds_eq_true_iff {w : Nat} {u : Until} {x r : BitVec w} :
    matchEnds u x r = true ↔ u = .untilMatch ∧ x = r ∨ u = .whileMatch ∧ x ≠ r := by
  cases u <;> simp [matchEnds]

theorem matchEnds_eq_false_iff {w : Nat} {u : Until} {x r : BitVec w} :
    matchEnds u x r = false ↔ u = .none ∨ u = .untilMatch ∧ x ≠ r ∨ u = .whileMatch ∧ x = r := by
  cases u <;> simp [matchEnds]

/-! ## A comparison -/

theorem compareFlags_self {w : Nat} (s : State) (x : BitVec w) :
    s.compareFlags x x = s.setZNL true false false := by
  simp [State.compareFlags]

theorem compareFlags_of_ne {w : Nat} {x y : BitVec w} (h : x ≠ y) (s : State) :
    s.compareFlags x y =
      s.setZNL false (decide (y.toInt < x.toInt)) (decide (y.toNat < x.toNat)) := by
  rw [State.compareFlags, beq_eq_false_iff_ne.2 h]

/-! ## The next element -/

/-- Steps 6 and 7 of R354, as the statements say them. -/
theorem nextElement_eq (w : Nat) (kind : StringKind) (back : Bool) (s : State) :
    nextElement w kind back s = stringNext w back (decide (kind ≠ .skps)) s := by
  have hd : (if back then 0 - BitVec.ofNat 32 (w / 8) else BitVec.ofNat 32 (w / 8) : Word) =
      if back then -BitVec.ofNat 32 (w / 8) else BitVec.ofNat 32 (w / 8) := by
    rw [show ∀ n : Word, 0 - n = -n from BitVec.zero_sub]
  cases kind <;> simp only [nextElement, stringNext, hd] <;> rfl

/-! ## The state in which an instruction begins -/

/-- CMPS sets the flags of equality first (R354). -/
def stringStart (kind : StringKind) (s : State) : State :=
  if kind = .cmps then s.setZNL true false false else s

@[simp] theorem stringStart_reg (kind : StringKind) (s : State) (r : Reg) :
    (stringStart kind s).reg r = s.reg r := by
  unfold stringStart; split <;> rfl

@[simp] theorem stringStart_xlate (kind : StringKind) (s : State) :
    (stringStart kind s).xlate = s.xlate := by
  unfold stringStart; split <;> rfl

@[simp] theorem stringStart_read (kind : StringKind) (s : State) (w : Nat) (va : Word) :
    (stringStart kind s).read w va = s.read w va := by
  cases kind with
  | cmps => exact read_setZNL s true false false w va
  | movs | skps => rfl

/-! ## One element -/

/-- What a string instruction comes to in a state `m` in which it processes an element (R354): the element
is read, translated where `t` asks for it, and ends the instruction by a match, or is moved, compared or
skipped. -/
def ElementDone (o : Host.Outcome State Fault Refusal) (kind : StringKind) (w : Nat) (u : Until)
    (back t : Bool) (m : State) : Prop :=
  ∃ x y : BitVec w, m.read w (m.reg 1) = .ok x ∧
    (if t then m.read w (m.reg 3 + x.setWidth 32) = .ok y else y = x) ∧
    (matchEnds u y ((m.reg 4).setWidth w) = true → o = .next (stringEnd m true)) ∧
    (matchEnds u y ((m.reg 4).setWidth w) = false →
      match kind with
      | .movs => ∃ n, m.write (m.reg 2) y = .ok n ∧ o = .next (stringNext w back true n)
      | .skps => o = .next (stringNext w back false m)
      | .cmps => ∃ z : BitVec w, m.read w (m.reg 2) = .ok z ∧
          (y = z → o = .next (stringNext w back true (m.setZNL true false false))) ∧
          (y ≠ z → o = .next (stringEnd (m.setZNL false (decide (z.toInt < y.toInt))
            (decide (z.toNat < y.toNat))) false)))

section
variable {s m : State} {w : Nat} {kind : StringKind} {u : Until} {back t : Bool}

theorem stringElement_ended (h : limitReached (stringStart kind s) = (true, m)) :
    stringElement kind w u back t s = .ok (stringEnd m false) := by
  rw [stringStart] at h
  rw [stringElement_eq, h]
  rfl

/-- An element is read, and translated where the instruction asks for it (R354). -/
theorem stringElement_reads (hm : m.accessible) (h : limitReached (stringStart kind s) = (false, m)) :
    ∃ x y : BitVec w, m.read w (m.reg 1) = .ok x ∧
      (if t then m.read w (m.reg 3 + x.setWidth 32) = .ok y else y = x) ∧
      stringElement kind w u back t s = elementTail kind w u back y m := by
  obtain ⟨x, hx⟩ := read_ok hm w (m.reg 1) .read m.flagU
  rw [stringStart] at h
  rw [stringElement_eq, h]
  cases t with
  | false =>
    refine ⟨x, x, hx, rfl, ?_⟩
    simp only [bind, Except.bind, hx, Bool.false_eq_true, if_false]
  | true =>
    obtain ⟨y, hy⟩ := read_ok hm w (m.reg 3 + x.setWidth 32) .read m.flagU
    refine ⟨x, y, hx, hy, ?_⟩
    simp only [bind, Except.bind, hx, hy, Bool.false_eq_true, if_false, if_true]

/-- R351: a match ends the instruction with F set. -/
theorem elementTail_match {y : BitVec w} (h : matchEnds u y ((m.reg 4).setWidth w) = true) :
    elementTail kind w u back y m = .ok (stringEnd m true) := if_pos h

section
variable {y : BitVec w} (h : matchEnds u y ((m.reg 4).setWidth w) = false)
include h

/-- R355: the element is copied. -/
theorem elementTail_movs {n : State} (hn : m.write (m.reg 2) y = .ok n) :
    elementTail .movs w u back y m = .ok (stringNext w back true n) := by
  simp only [elementTail, h, hn, bind, Except.bind, nextElement_eq, Bool.false_eq_true, if_false]
  rfl

/-- R359: the element is passed over. -/
theorem elementTail_skps : elementTail .skps w u back y m = .ok (stringNext w back false m) := by
  simp only [elementTail, h, nextElement_eq, Bool.false_eq_true, if_false]
  rfl

/-- R357: the comparison goes on after equal elements. -/
theorem elementTail_cmps_same (hz : m.read w (m.reg 2) = .ok y) :
    elementTail .cmps w u back y m = .ok (stringNext w back true (m.setZNL true false false)) := by
  simp only [elementTail, h, hz, bind, Except.bind, nextElement_eq, compareFlags_self, beq_self_eq_true,
    Bool.false_eq_true, if_false, if_true]
  rfl

/-- R357: the comparison ends with the flags of unequal elements. -/
theorem elementTail_cmps_differ {z : BitVec w} (hz : m.read w (m.reg 2) = .ok z) (hne : y ≠ z) :
    elementTail .cmps w u back y m =
      .ok (stringEnd (m.setZNL false (decide (z.toInt < y.toInt)) (decide (z.toNat < y.toNat))) false) := by
  simp only [elementTail, h, hz, bind, Except.bind, compareFlags_of_ne hne, beq_eq_false_iff_ne.2 hne,
    Bool.false_eq_true, if_false]
  rfl

end

/-- Where the limit count lets it go on, the instruction processes one element. -/
theorem elementDone_of_limit {i : Instr} (hm : m.accessible)
    (he : exec i s = conclude s (stringElement kind w u back t s))
    (hlim : limitReached (stringStart kind s) = (false, m)) :
    ElementDone (exec i s) kind w u back t m := by
  obtain ⟨x, y, hx, hy, htail⟩ := stringElement_reads (u := u) (back := back) (t := t) hm hlim
  rw [htail] at he
  refine ⟨x, y, hx, hy, fun h => ?_, fun h => ?_⟩
  · rw [he, elementTail_match h]
    rfl
  · cases kind with
    | movs =>
      obtain ⟨n, hn⟩ := write_ok hm (m.reg 2) y .write m.flagU
      exact ⟨n, hn, by rw [he, elementTail_movs h hn]; rfl⟩
    | skps => exact by rw [he, elementTail_skps h]; rfl
    | cmps =>
      obtain ⟨z, hz⟩ := read_ok hm w (m.reg 2) .read m.flagU
      refine ⟨z, hz, fun hyz => ?_, fun hne => ?_⟩
      · subst hyz
        rw [he, elementTail_cmps_same h hz]
        rfl
      · rw [he, elementTail_cmps_differ h hz hne]
        rfl

/-! ## The instructions -/

section
variable {i : Instr} (hs : s.accessible)
  (he : exec i s = conclude s (stringElement kind w u back t s))
include hs he

/-- A string instruction with a count that is zero or positive (R350 to R354). -/
theorem stringElement_step : StringStep i kind w u back t s := by
  have hs₀ : (stringStart kind s).accessible := accessible_congr (stringStart_xlate kind s) hs
  refine ⟨fun h0 => ?_, fun h0 hp => ?_⟩
  · rw [← stringStart_reg kind] at h0
    rw [he, stringElement_ended (limitReached_of_zero h0)]
    rfl
  · rw [← stringStart_reg kind] at h0 hp
    obtain ⟨x, y, hx, hy, hmatch, hgoes⟩ :=
      elementDone_of_limit hs₀ he (limitReached_of_positive h0 hp)
    simp only [stringStart_read, stringStart_reg, matchEnds_eq_true_iff, matchEnds_eq_false_iff]
      at hx hy hmatch hgoes
    cases kind <;> exact ⟨x, y, hx, hy, hmatch, hgoes⟩

/-- A string instruction with a negative count (U20; log 36). -/
theorem stringElement_openCount : StringOpenCount i kind w u back t s := by
  intro hneg
  rw [← stringStart_reg kind] at hneg
  have hlim := limitReached_of_negative hneg
  refine ⟨fun hend => ?_, fun hgo => ?_⟩
  · rw [show ((stringStart kind s).draw 1).1 = 1 from hend] at hlim
    rw [he, stringElement_ended hlim]
    rfl
  · rw [show (((stringStart kind s).draw 1).1 == 1) = false from beq_eq_false_iff_ne.2 hgo] at hlim
    have hm : ((stringStart kind s).draw 1).2.accessible :=
      accessible_congr (stringStart_xlate kind s) hs
    obtain ⟨x, y, hx, hy, hmatch, hgoes⟩ := elementDone_of_limit hm he hlim
    rw [matchEnds_eq_true_iff] at hmatch
    rw [matchEnds_eq_false_iff] at hgoes
    cases kind <;> exact ⟨x, y, hx, hy, hmatch, hgoes⟩

end

end

end Sys2Proof.Machine

namespace Sys2Proof.Proofs

open Sys2Proof.Machine

/-- Settles O32: the twelve instructions are one shape (`stringElement_step`) and differ in the operation,
the width and the Translation option. -/
theorem stringElements : Obligations.StringElements := by
  unfold Obligations.StringElements
  intro s u bk hs
  exact ⟨stringElement_step hs rfl, stringElement_step hs rfl, stringElement_step hs rfl,
    stringElement_step hs rfl, stringElement_step hs rfl, stringElement_step hs rfl,
    stringElement_step hs rfl, stringElement_step hs rfl, stringElement_step hs rfl,
    stringElement_step hs rfl, stringElement_step hs rfl, stringElement_step hs rfl⟩

end Sys2Proof.Proofs
end

section
/-! When MOVMi and CMPMi complete (R365 to R367): the number of elements, whether the blocks share a byte,
and what moving or comparing the elements comes to. -/

namespace Sys2Proof.Machine

/-! ## The number of elements -/

/-- R365: the number of elements, as the statements say it. -/
theorem blockCount_eq (w : Nat) (d : Disp) (s : State) : blockCount (w / 8) d s = openCount w d s := by
  have hiff : (0 ≤ (dispValue d).toInt ∧ (dispValue d).toInt.toNat % (w / 8) = 0 ∧
        (dispValue d).toInt.toNat + w / 8 ≤ 16) ↔
      0 ≤ (dispValue d).toInt ∧ (dispValue d).toInt + (w / 8 : Nat) ≤ 16 ∧
        (dispValue d).toInt % (w / 8 : Nat) = 0 := by
    generalize (dispValue d).toInt = v
    rcases Int.lt_or_le v 0 with hneg | hpos
    · omega
    · obtain ⟨n, rfl⟩ := Int.eq_ofNat_of_zero_le hpos
      simp only [Int.toNat_natCast]
      norm_cast
      tauto
  unfold blockCount openCount blockElements
  simp only [hiff]
  split <;> rfl

/-- Finding the number of elements draws a free value at most. -/
theorem openCount_spec (w : Nat) (d : Disp) (s : State) :
    ∃ n, (openCount w d s).2 = { s with freeCount := n } := by
  unfold openCount
  split
  · exact ⟨s.freeCount, rfl⟩
  · exact ⟨s.freeCount + 1, rfl⟩

/-! ## Blocks that share a byte -/

/-- R365: two blocks share a byte where one begins within the other. -/
theorem blocksOverlap_iff (w k : Nat) (p q : Word) :
    blocksOverlap p q (k * (w / 8)) = true ↔ ¬ blocksApart w k p q := by
  simp only [blocksOverlap, blocksApart, Bool.or_eq_true, decide_eq_true_eq]
  generalize k * (w / 8) = len
  constructor
  · rintro (hqp | hpq) hapart
    · exact hapart (q - p).toNat 0 hqp (by omega) (by bv_omega)
    · exact hapart 0 (p - q).toNat (by omega) hpq (by bv_omega)
  · intro hshare
    push Not at hshare
    obtain ⟨i, j, hi, hj, heq⟩ := hshare
    rcases Nat.le_total j i with hle | hle
    · exact .inl (by bv_omega)
    · exact .inr (by bv_omega)

/-! ## Moving elements -/

/-- What storing a block of `len` bytes at `q` may change: the count of free values, and memory where the
bytes of the block lie. -/
def StoresBlock (len : Nat) (q : Word) (s t : State) : Prop :=
  (∃ m n, t = { s with mem := m, freeCount := n }) ∧
  ∀ pa, (∀ j x, j < len → s.translate .write s.flagU (q + BitVec.ofNat 32 j) = some x → pa ≠ x.toNat) →
    t.mem.get pa = s.mem.get pa

theorem storesBlock_refl (len : Nat) (q : Word) (s : State) : StoresBlock len q s s :=
  ⟨⟨s.mem, s.freeCount, rfl⟩, fun _ _ => rfl⟩

/-- Free values that were drawn before do not matter. -/
theorem StoresBlock.of_freeCount {len n : Nat} {q : Word} {s t : State}
    (h : StoresBlock len q { s with freeCount := n } t) : StoresBlock len q s t := by
  obtain ⟨⟨m, n', rfl⟩, hmem⟩ := h
  exact ⟨⟨m, n', rfl⟩, hmem⟩

theorem storesBlock_of_write {w : Nat} {q : Word} {v : BitVec w} {s t : State}
    (h : s.write q v = .ok t) : StoresBlock (w / 8) q s t := by
  obtain ⟨⟨m, hm⟩, hget, -⟩ := write_spec h
  refine ⟨⟨m, s.freeCount, hm⟩, fun pa hpa => hget pa ?_⟩
  rintro ⟨j, x, hj, hx, rfl⟩
  exact hpa j x hj hx rfl

/-- Two blocks, the second after the first, are one block. -/
theorem StoresBlock.append {m n : Nat} {q : Word} {s t u : State} (hst : StoresBlock m q s t)
    (htu : StoresBlock n (q + BitVec.ofNat 32 m) t u) : StoresBlock (m + n) q s u := by
  obtain ⟨⟨mem₁, n₁, rfl⟩, hmem₁⟩ := hst
  obtain ⟨⟨mem₂, n₂, rfl⟩, hmem₂⟩ := htu
  refine ⟨⟨mem₂, n₂, rfl⟩, fun pa hpa => ?_⟩
  rw [hmem₂ pa fun j x hj hx => ?_, hmem₁ pa fun j x hj hx => hpa j x (by omega) hx]
  refine hpa (m + j) x (by omega) ?_
  rw [BitVec.ofNat_add, ← BitVec.add_assoc]
  exact hx

theorem StoresBlock.accessible {len : Nat} {q : Word} {s t : State} (h : StoresBlock len q s t)
    (hs : s.accessible) : t.accessible := by
  obtain ⟨⟨m, n, rfl⟩, -⟩ := h
  exact hs

/-- What MOVMi stores for an element `x`: the element, or a free value (R366, U24). -/
def storedElement {w : Nat} (free : Bool) (x : BitVec w) (s : State) : BitVec w × State :=
  if free then s.draw w else (x, s)

theorem storedElement_spec {w : Nat} (free : Bool) (x : BitVec w) (s : State) :
    ∃ n, (storedElement free x s).2 = { s with freeCount := n } := by
  cases free
  · exact ⟨s.freeCount, rfl⟩
  · exact ⟨s.freeCount + 1, rfl⟩

theorem moveElements_succ {w k : Nat} {free : Bool} {p q : Word} {s u : State} {x : BitVec w}
    (hx : s.read w p = .ok x)
    (hu : (storedElement free x s).2.write q (storedElement free x s).1 = .ok u) :
    moveElements w free (k + 1) p q s =
      moveElements w free k (p + BitVec.ofNat 32 (w / 8)) (q + BitVec.ofNat 32 (w / 8)) u := by
  change (s.read w p).bind _ = _
  rw [hx]
  change ((storedElement free x s).2.write q (storedElement free x s).1).bind _ = _
  rw [hu]
  rfl

/-- Storing one element stores a block of its bytes, where every access is translated. -/
theorem storedElement_write {w : Nat} {s : State} (hs : s.accessible) (free : Bool) (x : BitVec w)
    (q : Word) : ∃ u, (storedElement free x s).2.write q (storedElement free x s).1 = .ok u ∧
      StoresBlock (w / 8) q s u := by
  obtain ⟨n, hn⟩ := storedElement_spec free x s
  rw [hn]
  obtain ⟨u, hu⟩ := write_ok (s := { s with freeCount := n }) hs q (storedElement free x s).1 .write
    s.flagU
  exact ⟨u, hu, (storesBlock_of_write hu).of_freeCount⟩

/-- Moving elements stores a block, where every access is translated. -/
theorem moveElements_stores {s : State} (hs : s.accessible) (w : Nat) (free : Bool) (k : Nat)
    (p q : Word) :
    ∃ t, moveElements w free k p q s = .ok t ∧ StoresBlock (k * (w / 8)) q s t := by
  induction k generalizing s p q with
  | zero => exact ⟨s, rfl, storesBlock_refl _ q s⟩
  | succ k ih =>
    obtain ⟨x, hx⟩ := read_ok hs w p .read s.flagU
    obtain ⟨u, hu, hsu⟩ := storedElement_write hs free x q
    obtain ⟨t, ht, hut⟩ :=
      ih (hsu.accessible hs) (p + BitVec.ofNat 32 (w / 8)) (q + BitVec.ofNat 32 (w / 8))
    refine ⟨t, by rw [moveElements_succ hx hu, ht], ?_⟩
    rw [Nat.succ_mul, Nat.add_comm]
    exact hsu.append hut

section
variable {s : State} (hs : s.accessible) (w k : Nat) (p q : Word)
include hs

/-- R366: elements are copied. -/
theorem moveElements_false : moveElements w false k p q s = copyElements w k p q s := by
  induction k generalizing s p q with
  | zero => rfl
  | succ k ih =>
    obtain ⟨x, hx⟩ := read_ok hs w p .read s.flagU
    obtain ⟨u, hu, hsu⟩ := storedElement_write hs false x q
    have hcopy : s.write q x = .ok u := hu
    rw [moveElements_succ hx hu, ih (hsu.accessible hs)]
    simp only [copyElements, hx, hcopy]

/-- U24: what is stored does not depend on the elements that are read. -/
theorem moveElements_true : moveElements w true k p q s = freeElements w k q s := by
  induction k generalizing s p q with
  | zero => rfl
  | succ k ih =>
    obtain ⟨x, hx⟩ := read_ok hs w p .read s.flagU
    obtain ⟨u, hu, hsu⟩ := storedElement_write hs true x q
    have hfree : (s.draw w).2.write q (s.draw w).1 = .ok u := hu
    rw [moveElements_succ hx hu, ih (hsu.accessible hs)]
    simp only [freeElements, hfree]

end

/-! ## Comparing elements -/

/-- The element after the first is at the address after the first. -/
theorem element_address (w j : Nat) (p : Word) :
    p + BitVec.ofNat 32 ((j + 1) * (w / 8)) =
      p + BitVec.ofNat 32 (w / 8) + BitVec.ofNat 32 (j * (w / 8)) := by
  rw [Nat.succ_mul, Nat.add_comm, BitVec.ofNat_add, BitVec.add_assoc]

/-- R367: the first elements that differ end the comparison. -/
theorem compareElements_differ {s : State} (w k : Nat) {p q : Word} {x y : BitVec w}
    (hx : s.read w p = .ok x) (hy : s.read w q = .ok y) (hne : x ≠ y) :
    compareElements w (k + 1) p q s =
      .ok (s.setZNL false (decide (y.toInt < x.toInt)) (decide (y.toNat < x.toNat))) := by
  simp only [compareElements, bind, Except.bind, hx, hy, beq_eq_false_iff_ne.2 hne, Bool.false_eq_true,
    if_false, compareFlags_of_ne hne]

section
variable {s : State} (hs : s.accessible) (w : Nat)
include hs

/-- R367: equal elements are passed over. -/
theorem compareElements_same (k : Nat) {p q : Word} (h : s.read w p = s.read w q) :
    compareElements w (k + 1) p q s = compareElements w k (p + BitVec.ofNat 32 (w / 8))
      (q + BitVec.ofNat 32 (w / 8)) s := by
  obtain ⟨x, hx⟩ := read_ok hs w q .read s.flagU
  simp only [compareElements, bind, Except.bind, h, hx, beq_self_eq_true, if_true]

/-- The comparison of blocks whose first j elements are equal is that of the rest. -/
theorem compareElements_drop (j k : Nat) {p q : Word}
    (h : ∀ m, m < j → s.read w (p + BitVec.ofNat 32 (m * (w / 8))) =
      s.read w (q + BitVec.ofNat 32 (m * (w / 8)))) :
    compareElements w (j + k) p q s = compareElements w k (p + BitVec.ofNat 32 (j * (w / 8)))
      (q + BitVec.ofNat 32 (j * (w / 8))) s := by
  induction j generalizing p q with
  | zero => simp
  | succ j ih =>
    have h0 : s.read w p = s.read w q := by simpa using h 0 (by omega)
    rw [Nat.succ_add, compareElements_same hs w _ h0, ih fun m hm => ?_, element_address, element_address]
    rw [← element_address, ← element_address]
    exact h (m + 1) (by omega)

/-- Comparing elements changes Z, N and L alone. -/
theorem compareElements_flags (k : Nat) (p q : Word) :
    ∃ z n l, compareElements w k p q s = .ok (s.setZNL z n l) := by
  induction k generalizing p q with
  | zero => exact ⟨_, _, _, rfl⟩
  | succ k ih =>
    obtain ⟨x, hx⟩ := read_ok hs w p .read s.flagU
    obtain ⟨y, hy⟩ := read_ok hs w q .read s.flagU
    by_cases hxy : x = y
    · rw [compareElements_same hs w k (by rw [hx, hy, hxy])]
      exact ih _ _
    · exact ⟨_, _, _, compareElements_differ w k hx hy hxy⟩

end

/-! ## The instructions -/

section
variable {i : Instr} {w : Nat} {s : State} {a b : Gen} {ta tb : Attr} {d : Disp} (hs : s.accessible)
  (hi : i.wellFormed = true) (hl : (layout i).operands = [(ta, a), (tb, b)]) (hta : ta.immSize = none)
  (htb : tb.immSize = none)
include hs hi hl hta htb

/-- MOVMi completes (R366). -/
theorem movmI_completes (he : exec i s = conclude s (movmI w i.length a b d s)) :
    MoveBlockCompletes i w a b d s := by
  obtain ⟨hwa, hwb⟩ := wellFormed_two hi hl
  obtain ⟨p, hp⟩ := genAddr_ok hs s.sp hta hwa
  obtain ⟨q, hq⟩ := genAddr_ok hs s.sp htb hwb
  obtain ⟨n, hn⟩ := openCount_spec w d s
  have hs₁ : (openCount w d s).2.accessible := by rw [hn]; exact hs
  obtain ⟨t, ht, hstores⟩ := moveElements_stores hs₁ w
    (blocksOverlap p q ((openCount w d s).1 * (w / 8))) (openCount w d s).1 p q
  have hst : StoresBlock ((openCount w d s).1 * (w / 8)) q s t := by
    rw [hn] at hstores
    exact hstores.of_freeCount
  have hexec : exec i s = .next (t.advance i.length) := by
    rw [he]
    simp only [movmI, bind, Except.bind, hp, hq, blockCount_eq, ht, conclude]
  have hcopied (hapart : blocksApart w (openCount w d s).1 p q) :
      copyElements w (openCount w d s).1 p q (openCount w d s).2 = .ok t := by
    have hfree := Bool.eq_false_iff.2 fun h => (blocksOverlap_iff w _ p q).1 h hapart
    rw [← moveElements_false hs₁, ← hfree]
    exact ht
  have hfreed (hshare : ¬ blocksApart w (openCount w d s).1 p q) :
      freeElements w (openCount w d s).1 q (openCount w d s).2 = .ok t := by
    rw [← moveElements_true hs₁ w _ p q, ← (blocksOverlap_iff w _ p q).2 hshare]
    exact ht
  obtain ⟨⟨m, n', hm⟩, hmem⟩ := hst
  refine ⟨p, q, t, hp, hq, hexec, hcopied, hfreed, ?_, ?_, ?_, ?_, ?_, ?_, ?_, hmem⟩
  all_goals simp only [hm, State.sameSystem, and_self]

/-- CMPMi completes (R367). -/
theorem cmpmI_completes (he : exec i s = conclude s (cmpmI w i.length a b d s)) :
    CompareBlockCompletes i w a b d s := by
  obtain ⟨hwa, hwb⟩ := wellFormed_two hi hl
  obtain ⟨p, hp⟩ := genAddr_ok hs s.sp hta hwa
  obtain ⟨q, hq⟩ := genAddr_ok hs s.sp htb hwb
  obtain ⟨n, hn⟩ := openCount_spec w d s
  have hs₁ : (openCount w d s).2.accessible := by rw [hn]; exact hs
  have hread (va : Word) : (openCount w d s).2.read w va = s.read w va := by
    rw [hn]
    exact read_freeCount s n w va
  have hexec {t : State}
      (h : compareElements w (openCount w d s).1 p q (openCount w d s).2 = .ok t) :
      exec i s = .next (t.advance i.length) := by
    rw [he]
    simp only [cmpmI, bind, Except.bind, hp, hq, blockCount_eq, h, conclude]
  refine ⟨p, q, hp, hq, fun hall => hexec ?_, fun j x y hj hbefore hx hy hne => hexec ?_, ?_⟩
  · have hdrop := compareElements_drop hs₁ w (openCount w d s).1 0 (p := p) (q := q) fun m hm => by
      rw [hread, hread]
      exact hall m hm
    exact hdrop
  · obtain ⟨k, hk⟩ := Nat.exists_eq_add_of_lt hj
    rw [← hread] at hx hy
    rw [hk, Nat.add_assoc, compareElements_drop hs₁ w j (k + 1) fun m hm => ?_]
    · exact compareElements_differ w k hx hy hne
    · rw [hread, hread]
      exact hbefore m hm
  · obtain ⟨z, n, l, hflags⟩ := compareElements_flags hs₁ w (openCount w d s).1 p q
    exact ⟨z, n, l, hexec hflags⟩

end

end Sys2Proof.Machine

namespace Sys2Proof.Proofs

open Sys2Proof.Machine

/-- Settles O33: MOVMi by the block that it stores (`movmI_completes`), CMPMi by the elements that it
passes over (`cmpmI_completes`), and the string instructions by the free value that stands for the limit
count (`stringElement_openCount`). -/
theorem blocksAndOpenCounts : Obligations.BlocksAndOpenCounts := by
  unfold Obligations.BlocksAndOpenCounts
  intro s a b d u bk hs
  exact ⟨fun h => movmI_completes hs h rfl rfl rfl (exec_length (movmI 8 · a b d s) rfl),
    fun h => movmI_completes hs h rfl rfl rfl (exec_length (movmI 16 · a b d s) rfl),
    fun h => movmI_completes hs h rfl rfl rfl (exec_length (movmI 32 · a b d s) rfl),
    fun h => cmpmI_completes hs h rfl rfl rfl (exec_length (cmpmI 8 · a b d s) rfl),
    fun h => cmpmI_completes hs h rfl rfl rfl (exec_length (cmpmI 16 · a b d s) rfl),
    fun h => cmpmI_completes hs h rfl rfl rfl (exec_length (cmpmI 32 · a b d s) rfl),
    stringElement_openCount hs rfl, stringElement_openCount hs rfl, stringElement_openCount hs rfl,
    stringElement_openCount hs rfl, stringElement_openCount hs rfl, stringElement_openCount hs rfl,
    stringElement_openCount hs rfl, stringElement_openCount hs rfl, stringElement_openCount hs rfl,
    stringElement_openCount hs rfl, stringElement_openCount hs rfl, stringElement_openCount hs rfl⟩

end Sys2Proof.Proofs
end

section
/-! Branches and loops (R382 to R386): where the processor control instructions that touch no stack go on. -/

namespace Sys2Proof.Machine

/-- An instruction whose meaning answers a state completes in it. -/
theorem exec_next {i : Instr} {s t : State} {x : Except Stop State} (he : exec i s = conclude s x)
    (hx : x = .ok t) : exec i s = .next t := by
  rw [he, hx]
  rfl

/-- The encoding of an instruction whose one implied operand is a displacement (R122). -/
theorem encodedAs_of_disp {i : Instr} {n word : Nat} {ops : List (Attr × Gen)} {d : Disp}
    {gs : List Gen} (h : layout i = ⟨n, word, ops, [.disp d]⟩) (hg : ops.map (·.2) = gs) :
    encodedAs i n word gs d.bytes :=
  encodedAs_of_layout h hg (List.append_nil d.bytes)

/-! ## Branches -/

section
variable {i : Instr} {s : State} {d : Disp}

theorem branchIf_completes {c : Cond} (he : exec i s = conclude s (branchIf c i.length d s)) :
    exec i s = .next (if s.condTrue c then s.jump (s.pc + dispValue d) else s.advance i.length) :=
  exec_next he rfl

theorem branch_completes (he : exec i s = conclude s (branch d s)) :
    exec i s = .next (s.jump (s.pc + dispValue d)) :=
  exec_next he rfl

end

/-! ## JUMP, CASEi and ACBi -/

section
variable {i : Instr} {s : State} {w : Nat} {g : Gen} {ta : Attr} (hs : s.accessible)
  (hi : i.wellFormed = true) (hl : (layout i).operands = [(ta, g)])

include hs hi hl in
theorem jumpTo_completes (hta : ta.immSize = none) (he : exec i s = conclude s (jumpTo g s)) :
    ∃ ea, genAddr s.sp s g = .ok ea ∧ exec i s = .next (s.jump ea) := by
  obtain ⟨ea, ha⟩ := genAddr_ok hs s.sp hta (wellFormed_one hi hl)
  refine ⟨ea, ha, exec_next he ?_⟩
  simp only [jumpTo, bind, Except.bind, ha]

include hs hi hl in
/-- CASEi adds its source, which sign-extension makes a double-word, to PC (R385). -/
theorem caseI_completes (he : exec i s = conclude s (caseI w g s)) :
    ∃ x s₁, readGen .int w s.sp g s = .ok (x, s₁) ∧
      exec i s = .next (s₁.jump (s₁.pc + BitVec.ofInt 32 x.toInt)) := by
  obtain ⟨x, s₁, hx⟩ := readGen_ok hs .int w s.sp (wellFormed_one hi hl)
  refine ⟨x, s₁, hx, exec_next he ?_⟩
  simp only [caseI, bind, Except.bind, hx, BitVec.signExtend]

/-- What ACBi comes to when its index has been found, read and written: an overflow is the only thing
left that can stop it (R386, R203). -/
theorem acbI_written {len : Nat} {q : BitVec 4} {d : Disp} {l : Loc} {y : BitVec w} {s₁ t : State}
    (hw : 4 ≤ w) (hloc : rmwLoc .int s.sp g s = .ok l) (hy : readAt w l s = .ok (y, s₁))
    (ht : writeAt l (y + BitVec.ofInt w q.toInt) s₁ = .ok t) :
    acbI w len q g d s = ovfTrap (outOfRange w (y.toInt + q.toInt))
      (if y + BitVec.ofInt w q.toInt = 0 then t.advance len else t.jump (s.pc + dispValue d)) := by
  have hquick : quickValue w q = BitVec.ofInt w q.toInt := rfl
  have hval : (addC y (quickValue w q) false).value = y + BitVec.ofInt w q.toInt := BitVec.add_zero _
  have hovf : (addC y (quickValue w q) false).ovf = outOfRange w (y.toInt + q.toInt) := by
    simp only [addC, not_fitsSigned, toInt_quickValue hw, Bool.toNat_false, Nat.cast_zero,
      Int.add_zero]
  have hpc : t.pc = s.pc := by
    obtain ⟨⟨_, _, _, _, _, _, _, rfl⟩, -⟩ := writeAt_spec ht
    obtain rfl | rfl := readAt_spec hy <;> rfl
  simp only [acbI, bind, Except.bind, hloc, hy, hval, hovf, ht, hpc]

include hs hi hl in
/-- ACBi writes the index, and branches unless it is zero (R386). -/
theorem acbI_completes {q : BitVec 4} {d : Disp} (hw : 4 ≤ w) (hta : ta.immSize = none)
    (he : exec i s = conclude s (acbI w i.length q g d s)) :
    ∃ l y s₁ t, rmwLoc .int s.sp g s = .ok l ∧ readAt w l s = .ok (y, s₁) ∧
      writeAt l (y + BitVec.ofInt w q.toInt) s₁ = .ok t ∧
      (s.flagV = false ∨ outOfRange w (y.toInt + q.toInt) = false →
        exec i s = .next (if y + BitVec.ofInt w q.toInt = 0 then t.advance i.length
          else t.jump (s.pc + dispValue d))) := by
  obtain ⟨l, hloc⟩ := rmwLoc_ok hs .int s.sp hta (wellFormed_one hi hl)
  obtain ⟨y, s₁, hy⟩ := readAt_ok hs w l
  obtain ⟨t, ht⟩ := writeAt_ok (accessible_congr (readAt_xlate hy) hs) l (y + BitVec.ofInt w q.toInt)
  refine ⟨l, y, s₁, t, hloc, hy, ht, fun hno => exec_next he ?_⟩
  have hV : t.flagV = s.flagV := flagV_of_psr ((writeAt_psr ht).trans (readAt_psr hy))
  have hVif : (if y + BitVec.ofInt w q.toInt = 0 then t.advance i.length
      else t.jump (s.pc + dispValue d)).flagV = s.flagV := by
    split <;> exact hV
  rw [acbI_written hw hloc hy ht, ovfTrap, hVif, if_neg]
  rcases hno with h | h <;> simp [h]

end

end Sys2Proof.Machine

namespace Sys2Proof.Proofs

open Sys2Proof.Machine

/-- Settles O35: the 14 conditional branches are one shape (`branchIf_completes`), and the table of
conditions is the model's. -/
theorem branches : Obligations.Branches := by
  unfold Obligations.Branches
  intro s d
  exact ⟨encodedAs_of_disp rfl rfl, encodedAs_of_disp rfl rfl, encodedAs_of_disp rfl rfl,
    encodedAs_of_disp rfl rfl, encodedAs_of_disp rfl rfl, encodedAs_of_disp rfl rfl,
    encodedAs_of_disp rfl rfl, encodedAs_of_disp rfl rfl, encodedAs_of_disp rfl rfl,
    encodedAs_of_disp rfl rfl, encodedAs_of_disp rfl rfl, encodedAs_of_disp rfl rfl,
    encodedAs_of_disp rfl rfl, encodedAs_of_disp rfl rfl, encodedAs_of_disp rfl rfl,
    branchIf_completes (c := .eq) (exec_length (branchIf .eq · d s) rfl),
    branchIf_completes (c := .ne) (exec_length (branchIf .ne · d s) rfl),
    branchIf_completes (c := .cs) (exec_length (branchIf .cs · d s) rfl),
    branchIf_completes (c := .cc) (exec_length (branchIf .cc · d s) rfl),
    branchIf_completes (c := .hi) (exec_length (branchIf .hi · d s) rfl),
    branchIf_completes (c := .ls) (exec_length (branchIf .ls · d s) rfl),
    branchIf_completes (c := .gt) (exec_length (branchIf .gt · d s) rfl),
    branchIf_completes (c := .le) (exec_length (branchIf .le · d s) rfl),
    branchIf_completes (c := .fs) (exec_length (branchIf .fs · d s) rfl),
    branchIf_completes (c := .fc) (exec_length (branchIf .fc · d s) rfl),
    branchIf_completes (c := .lo) (exec_length (branchIf .lo · d s) rfl),
    branchIf_completes (c := .hs) (exec_length (branchIf .hs · d s) rfl),
    branchIf_completes (c := .lt) (exec_length (branchIf .lt · d s) rfl),
    branchIf_completes (c := .ge) (exec_length (branchIf .ge · d s) rfl),
    branch_completes rfl⟩

/-- Settles O36: the lengths of CASEi and of ACBi differ in the width alone. -/
theorem jumpCaseAndLoop : Obligations.JumpCaseAndLoop := by
  unfold Obligations.JumpCaseAndLoop
  intro s q g d hs
  exact ⟨encodedAs_of_layout rfl rfl rfl, encodedAs_of_layout rfl rfl rfl,
    encodedAs_of_layout rfl rfl rfl, encodedAs_of_layout rfl rfl rfl,
    encodedAs_of_disp rfl rfl, encodedAs_of_disp rfl rfl, encodedAs_of_disp rfl rfl,
    fun h => jumpTo_completes hs h rfl rfl rfl,
    fun h => caseI_completes hs h rfl rfl,
    fun h => caseI_completes hs h rfl rfl,
    fun h => caseI_completes hs h rfl rfl,
    fun h => acbI_completes hs h rfl (by decide) rfl (exec_length (acbI 8 · q g d s) rfl),
    fun h => acbI_completes hs h rfl (by decide) rfl (exec_length (acbI 16 · q g d s) rfl),
    fun h => acbI_completes hs h rfl (by decide) rfl (exec_length (acbI 32 · q g d s) rfl)⟩

end Sys2Proof.Proofs
end

section
/-! Calls and returns (R387 to R393): what is pushed, what is read, and that a return undoes a call. -/

namespace Sys2Proof.Machine

/-! ## Pushed values and procedure descriptors -/

section
variable {w : Nat} {s t : State} {v : BitVec w} (h : s.push v = .ok t)
include h

theorem push_sp : t.sp = s.sp - BitVec.ofNat 32 (w / 8) := by
  obtain ⟨⟨m, rfl⟩, -⟩ := push_spec h
  exact setSp_sp s _

theorem push_flagS : t.flagS = s.flagS := by
  obtain ⟨⟨m, rfl⟩, -⟩ := push_spec h
  exact setSp_flagS s _

theorem push_xlate : t.xlate = s.xlate := by
  obtain ⟨⟨m, rfl⟩, -⟩ := push_spec h
  exact setSp_xlate s _

/-- The stack pointers after a push and the opposite move of the selected one. -/
theorem setSp_of_push {n : Word} (hn : n = BitVec.ofNat 32 (w / 8)) :
    (t.setSp (t.sp + n)).sp0 = s.sp0 ∧ (t.setSp (t.sp + n)).sp1 = s.sp1 := by
  have hback : t.sp + n = s.sp := by rw [push_sp h, hn, BitVec.sub_add_cancel]
  rw [hback, setSp_sp0, setSp_sp1, push_flagS h]
  obtain ⟨⟨m, rfl⟩, -⟩ := push_spec h
  cases hS : s.flagS <;> simp [State.sp, hS]

end

/-- A push of n bytes can be read at the stack pointer that it leaves, with the default `Translate`
(R90). -/
theorem read_of_push {n : Nat} {s t : State} {v : BitVec (8 * n)} (hn : n < 2 ^ 32) (hx : s.xlate = [])
    (hm : s.mem.wf = true) (h : s.push v = .ok t) : t.read (8 * n) t.sp = .ok v := by
  have hx' : (s.setSp (s.sp - BitVec.ofNat 32 (8 * n / 8))).xlate = [] := (setSp_xlate s _).trans hx
  have hm' : (s.setSp (s.sp - BitVec.ofNat 32 (8 * n / 8))).mem.wf = true :=
    (congrArg Memory.wf (setSp_mem s _)).trans hm
  obtain ⟨u, hu, hread, -⟩ := write_read (s.sp - BitVec.ofNat 32 (8 * n / 8)) v hn hx' hm'
  obtain rfl : t = u := Except.ok.inj (h.symm.trans hu)
  rw [push_sp h]
  exact hread

/-- The offset of a procedure descriptor, its upper half (R390). -/
theorem extractHigh_setWidth (x : Word) : (x.extractLsb' 16 16).setWidth 32 = x >>> 16 := by
  refine BitVec.eq_of_toNat_eq ?_
  have hx := x.isLt
  simp only [BitVec.toNat_setWidth, BitVec.extractLsb'_toNat, BitVec.toNat_ushiftRight,
    Nat.shiftRight_eq_div_pow]
  omega

/-- `CallExternal` (R390, D15; U28): the Static and Program Base of the module that the procedure
descriptor `desc` names are `sb` and `pb`, the pushes of MOD and of the return address leave `t₁` and
`t₂`, and the call comes to `o`. -/
def CallsProcedure (s : State) (len : Nat) (desc sb pb : Word) (t₁ t₂ : State)
    (o : Host.Outcome State Fault Refusal) : Prop :=
  s.read 32 ((desc.setWidth 16).setWidth 32) = .ok sb ∧
  s.read 32 ((desc.setWidth 16).setWidth 32 + 8) = .ok pb ∧
  (s.draw 16).2.push ((s.draw 16).1 ++ s.mod) = .ok t₁ ∧
  t₁.push (s.pc + BitVec.ofNat 32 len) = .ok t₂ ∧
  o = .next (State.jump { t₂ with mod := desc.setWidth 16, sb := sb } (pb + desc >>> 16))

/-! ## BSR, JSR and RET -/

section
variable {i : Instr} {s : State} {d : Disp} {g : Gen} {ta : Attr} (hs : s.accessible)
include hs

theorem bsr_completes (he : exec i s = conclude s (bsr i.length d s)) :
    ∃ t, s.push (s.pc + BitVec.ofNat 32 i.length) = .ok t ∧
      exec i s = .next (t.jump (s.pc + dispValue d)) := by
  obtain ⟨t, ht⟩ := push_ok hs (s.pc + BitVec.ofNat 32 i.length)
  refine ⟨t, ht, exec_next he ?_⟩
  simp only [bsr, bind, Except.bind, ht]

theorem jsr_completes (hi : i.wellFormed = true) (hl : (layout i).operands = [(ta, g)])
    (hta : ta.immSize = none) (he : exec i s = conclude s (jsr i.length g s)) :
    ∃ ea t, genAddr s.sp s g = .ok ea ∧ s.push (s.pc + BitVec.ofNat 32 i.length) = .ok t ∧
      exec i s = .next (t.jump ea) := by
  obtain ⟨ea, ha⟩ := genAddr_ok hs s.sp hta (wellFormed_one hi hl)
  obtain ⟨t, ht⟩ := push_ok hs (s.pc + BitVec.ofNat 32 i.length)
  refine ⟨ea, t, ha, ht, exec_next he ?_⟩
  simp only [jsr, bind, Except.bind, ha, ht]

theorem ret_completes (he : exec i s = conclude s (ret d s)) :
    ∃ a, s.read 32 s.sp = .ok a ∧ exec i s = .next ((s.setSp (s.sp + 4 + dispValue d)).jump a) := by
  obtain ⟨a, ha⟩ := read_ok hs 32 s.sp .read s.flagU
  refine ⟨a, ha, exec_next he ?_⟩
  simp only [ret, bind, Except.bind, ha]

/-! ## CXP, CXPD and RXP -/

theorem callExternal_callsProcedure (len : Nat) (desc : Word) :
    ∃ sb pb t₁ t₂, CallsProcedure s len desc sb pb t₁ t₂ (conclude s (callExternal len desc s)) := by
  obtain ⟨sb, hsb⟩ := read_ok hs 32 ((desc.setWidth 16).setWidth 32) .read s.flagU
  obtain ⟨pb, hpb⟩ := read_ok hs 32 ((desc.setWidth 16).setWidth 32 + 8) .read s.flagU
  obtain ⟨t₁, h₁⟩ := push_ok (accessible_congr (draw_xlate 16 s) hs) ((s.draw 16).1 ++ s.mod)
  obtain ⟨t₂, h₂⟩ := push_ok (accessible_congr (push_xlate h₁) hs) (s.pc + BitVec.ofNat 32 len)
  refine ⟨sb, pb, t₁, t₂, hsb, hpb, h₁, h₂, ?_⟩
  have hmod : desc.extractLsb' 0 16 = desc.setWidth 16 :=
    (BitVec.setWidth_eq_extractLsb' (by decide)).symm
  simp only [callExternal, bind, Except.bind, hmod, hsb, hpb, draw_mod, h₁, h₂, extractHigh_setWidth,
    BitVec.add_comm pb, conclude]

theorem cxp_completes (he : exec i s = conclude s (cxp i.length d s)) :
    ∃ lb desc sb pb t₁ t₂, s.read 32 (s.mod.setWidth 32 + 4) = .ok lb ∧
      s.read 32 (lb + 4 * dispValue d) = .ok desc ∧
      CallsProcedure s i.length desc sb pb t₁ t₂ (exec i s) := by
  obtain ⟨lb, hlb⟩ := read_ok hs 32 (s.mod.setWidth 32 + 4) .read s.flagU
  obtain ⟨desc, hdesc⟩ := read_ok hs 32 (lb + 4 * dispValue d) .read s.flagU
  obtain ⟨sb, pb, t₁, t₂, hcall⟩ := callExternal_callsProcedure hs i.length desc
  have hcxp : cxp i.length d s = callExternal i.length desc s := by
    simp only [cxp, bind, Except.bind, hlb, hdesc]
  refine ⟨lb, desc, sb, pb, t₁, t₂, hlb, hdesc, ?_⟩
  rw [he, hcxp]
  exact hcall

theorem cxpd_completes (hi : i.wellFormed = true) (hl : (layout i).operands = [(ta, g)])
    (hta : ta.immSize = none) (he : exec i s = conclude s (cxpd i.length g s)) :
    ∃ ea desc sb pb t₁ t₂, genAddr s.sp s g = .ok ea ∧ s.read 32 ea = .ok desc ∧
      CallsProcedure s i.length desc sb pb t₁ t₂ (exec i s) := by
  obtain ⟨ea, ha⟩ := genAddr_ok hs s.sp hta (wellFormed_one hi hl)
  obtain ⟨desc, hdesc⟩ := read_ok hs 32 ea .read s.flagU
  obtain ⟨sb, pb, t₁, t₂, hcall⟩ := callExternal_callsProcedure hs i.length desc
  have hcxpd : cxpd i.length g s = callExternal i.length desc s := by
    simp only [cxpd, bind, Except.bind, ha, hdesc]
  refine ⟨ea, desc, sb, pb, t₁, t₂, ha, hdesc, ?_⟩
  rw [he, hcxpd]
  exact hcall

theorem rxp_completes (he : exec i s = conclude s (rxp d s)) :
    ∃ (a : Word) (m : BitVec 16) (sb : Word), s.read 32 s.sp = .ok a ∧
      s.read 16 (s.sp + 4) = .ok m ∧ s.read 32 (m.setWidth 32) = .ok sb ∧
      exec i s = .next (State.jump { s.setSp (s.sp + 8 + dispValue d) with mod := m, sb := sb } a) := by
  obtain ⟨a, ha⟩ := read_ok hs 32 s.sp .read s.flagU
  obtain ⟨m, hm⟩ := read_ok hs 16 (s.sp + 4) .read s.flagU
  obtain ⟨sb, hsb⟩ := read_ok hs 32 (m.setWidth 32) .read s.flagU
  refine ⟨a, m, sb, ha, hm, hsb, exec_next he ?_⟩
  simp only [rxp, bind, Except.bind, ha, hm, hsb]

end

/-! ## A call and its return -/

/-- RET 0 in the state that a call leaves: it reads the pushed address and takes it off the stack. -/
theorem ret_after_push {s t : State} {a target : Word} (hx : s.xlate = []) (hm : s.mem.wf = true)
    (ht : s.push a = .ok t) :
    ∃ u, exec (.ret (.d7 0)) (t.jump target) = .next u ∧ u.pc = a ∧ u.sp0 = s.sp0 ∧ u.sp1 = s.sp1 := by
  have hxt : (t.jump target).xlate = [] := (push_xlate ht).trans hx
  have hread : (t.jump target).read 32 (t.jump target).sp = .ok a :=
    (read_congr (s := t) (t := t.jump target) rfl rfl rfl 32 t.sp).trans
      (read_of_push (n := 4) (by decide) hx hm ht)
  obtain ⟨b, hb, hu⟩ :=
    ret_completes (d := .d7 0) (accessible_of_xlate_nil _ hxt) (i := .ret (.d7 0)) rfl
  obtain rfl : b = a := Except.ok.inj (hb.symm.trans hread)
  have hmove : (4 : Word) + dispValue (.d7 0) = BitVec.ofNat 32 (32 / 8) := by decide
  obtain ⟨h0, h1⟩ := setSp_of_push ht hmove
  rw [← BitVec.add_assoc, setSp_sp0] at h0
  rw [← BitVec.add_assoc, setSp_sp1] at h1
  exact ⟨_, hu, rfl, (setSp_sp0 ..).trans h0, (setSp_sp1 ..).trans h1⟩

end Sys2Proof.Machine

namespace Sys2Proof.Proofs

open Sys2Proof.Machine

/-- Settles O37: a call and a return by what they push and read, and RET 0 after BSR by reading back the
address that was pushed (`ret_after_push`). -/
theorem callsAndReturns : Obligations.CallsAndReturns := by
  unfold Obligations.CallsAndReturns
  intro s d g hs
  have hbsr := bsr_completes hs (d := d) (exec_length (i := .bsr d) (bsr · d s) rfl)
  refine ⟨encodedAs_of_disp rfl rfl, encodedAs_of_layout rfl rfl rfl, encodedAs_of_disp rfl rfl, hbsr,
    fun h => jsr_completes hs h rfl rfl (exec_length (jsr · g s) rfl), ret_completes hs rfl,
    fun hx hm t ht => ?_⟩
  obtain ⟨t₁, hpush, hexec⟩ := hbsr
  obtain rfl := Host.Outcome.next.inj (ht.symm.trans hexec)
  exact ret_after_push hx hm hpush

/-- Settles O38: CXP and CXPD differ in where the procedure descriptor lies
(`callExternal_callsProcedure`). -/
theorem externalCalls : Obligations.ExternalCalls := by
  unfold Obligations.ExternalCalls
  intro s d g hs
  exact ⟨cxp_completes hs (exec_length (cxp · d s) rfl),
    fun h => cxpd_completes hs h rfl rfl (exec_length (cxpd · g s) rfl), rxp_completes hs rfl⟩

end Sys2Proof.Proofs
end

section
/-! Explicit traps and custom instructions (R394 to R399, R470 to R473): the instruction stops with a trap
from the state in which it began, or is refused. -/

namespace Sys2Proof.Machine

/-- A trap that carries nothing but its name is taken from the state in which the instruction began
(R506, R530). -/
theorem conclude_trap (s : State) (k : Trap) : conclude s (.error (.trap k)) = trapped s k.vector := rfl

theorem trapped_next (s : State) (v : Nat) : ∃ t, trapped s v = .next t := takeException_next ..

/-! ## FLAG -/

theorem exec_flag_of_set {s : State} (h : s.flagF = true) : exec .flag s = trapped s 7 := by
  change conclude s (flagTrap s) = _
  rw [flagTrap, if_pos h]
  exact conclude_trap s .flg

theorem exec_flag_of_clear {s : State} (h : s.flagF = false) : exec .flag s = .next (s.advance 1) := by
  refine exec_next (x := flagTrap s) rfl ?_
  rw [flagTrap, h]
  rfl

/-! ## Custom instructions -/

/-- Without a Custom Slave, Trap(UND) (R471). -/
theorem customOp_of_disabled {s : State} (h : s.cfgC = false) :
    conclude s (customOp s) = trapped s 10 := by
  rw [customOp, h]
  exact conclude_trap s .und

/-- With a Custom Slave, which the spec does not describe (R472, D23). -/
theorem customOp_of_enabled {s : State} (h : s.cfgC = true) :
    conclude s (customOp s) = .refused .customSlave := by
  rw [customOp, h]
  rfl

/-- In User mode the check of privilege comes first (R473, D22). -/
theorem exec_custom16_of_user {s : State} (h : s.flagU = true) : exec .custom16 s = trapped s 4 := by
  have hpriv : privileged s = .error (.trap .ill) := if_pos h
  change conclude s (customPrivileged s) = _
  simp only [customPrivileged, bind, Except.bind, hpriv]
  exact conclude_trap s .ill

theorem exec_custom16_of_supervisor {s : State} (h : s.flagU = false) :
    exec .custom16 s = conclude s (customOp s) := by
  have hpriv : privileged s = .ok () := if_neg (by simp [h])
  change conclude s (customPrivileged s) = _
  simp only [customPrivileged, bind, Except.bind, hpriv]

end Sys2Proof.Machine

namespace Sys2Proof.Proofs

open Sys2Proof.Machine

/-- Settles O39: first byte 16 is the other two behind a check of privilege, and every trap is answered
(`trapped_next`). -/
theorem explicitTrapsAndCustomInstructions : Obligations.ExplicitTrapsAndCustomInstructions := by
  unfold Obligations.ExplicitTrapsAndCustomInstructions
  intro s
  have hund (h : s.cfgC = false) (hu : s.flagU = false) : exec .custom16 s = trapped s 10 :=
    (exec_custom16_of_supervisor hu).trans (customOp_of_disabled h)
  have hcustom (h : s.cfgC = false) : ∃ t, exec .custom16 s = .next t := by
    cases hu : s.flagU with
    | false => rw [hund h hu]; exact trapped_next s 10
    | true => rw [exec_custom16_of_user hu]; exact trapped_next s 4
  refine ⟨conclude_trap s .bpt, conclude_trap s .svc, exec_flag_of_set, exec_flag_of_clear,
    fun h => ⟨customOp_of_disabled h, customOp_of_disabled h, hund h⟩,
    fun h => ⟨customOp_of_enabled h, customOp_of_enabled h, fun hu =>
      (exec_custom16_of_supervisor hu).trans (customOp_of_enabled h)⟩,
    exec_custom16_of_user, fun _ => ⟨trapped_next s 8, trapped_next s 5, fun h => ?_⟩⟩
  have hother : ∃ t, conclude s (customOp s) = .next t := by
    rw [customOp_of_disabled h]
    exact trapped_next s 10
  exact ⟨hother, hother, hcustom h⟩

end Sys2Proof.Proofs
end

section
/-! SAVE, RESTORE, ENTER and EXIT (R422 to R426): the list as the registers that it names, and RESTORE of
the reversed list after SAVE. -/

namespace Sys2Proof.Machine

/-! ## The list as the registers that it names -/

/-- Of a filtered list, the first register is pushed where it is in the filter. -/
theorem pushRegs_filter_cons (p : Reg → Bool) (r : Reg) (rs : List Reg) (s : State) :
    pushRegs ((r :: rs).filter p) s =
      if p r then s.push (s.reg r) >>= pushRegs (rs.filter p) else pushRegs (rs.filter p) s := by
  rw [List.filter_cons]
  split
  · rw [pushRegs]
    cases s.push (s.reg r) <;> rfl
  · rfl

/-- Of a filtered list, the first register is popped where it is in the filter. -/
theorem popRegs_filter_cons (p : Reg → Bool) (r : Reg) (rs : List Reg) (s : State) :
    popRegs ((r :: rs).filter p) s =
      if p r then s.pop 32 >>= fun x => popRegs (rs.filter p) (x.2.setReg r x.1)
      else popRegs (rs.filter p) s := by
  rw [List.filter_cons]
  split
  · rw [popRegs]
    cases s.pop 32 <;> rfl
  · rfl

/-- The last k registers are R(8-k) and the last k - 1. -/
theorem drop_finRange_succ {k : Nat} (hk : k < 8) :
    (List.finRange 8).drop (8 - (k + 1)) = regOf (7 - k) :: (List.finRange 8).drop (8 - k) ∧
      (regOf (7 - k)).val = 7 - k := by
  revert k
  decide

/-- The first k registers, from the last of them down. -/
theorem drop_reverse_finRange_succ {k : Nat} (hk : k < 8) :
    (List.finRange 8).reverse.drop (8 - (k + 1)) = regOf k :: (List.finRange 8).reverse.drop (8 - k) ∧
      (regOf k).val = k := by
  revert k
  decide

theorem pushList_eq_pushRegs_drop (l : BitVec 8) {k : Nat} (hk : k ≤ 8) (s : State) :
    pushList l k s = pushRegs (((List.finRange 8).drop (8 - k)).filter fun r => l.getLsbD r.val) s := by
  induction k generalizing s with
  | zero => rfl
  | succ k ih =>
    obtain ⟨hcons, hval⟩ := drop_finRange_succ hk
    rw [hcons, pushRegs_filter_cons, hval, pushList]
    split
    · exact congrArg (s.push _ >>= ·) (funext fun t => ih (by omega) t)
    · exact ih (by omega) s

theorem popList_eq_popRegs_drop (l : BitVec 8) {k : Nat} (hk : k ≤ 8) (s : State) :
    popList l k s =
      popRegs (((List.finRange 8).reverse.drop (8 - k)).filter fun r => l.getLsbD (7 - r.val)) s := by
  induction k generalizing s with
  | zero => rfl
  | succ k ih =>
    obtain ⟨hcons, hval⟩ := drop_reverse_finRange_succ hk
    rw [hcons, popRegs_filter_cons, hval, popList]
    split
    · exact congrArg (s.pop 32 >>= ·) (funext fun x => ih (by omega) (x.2.setReg (regOf k) x.1))
    · exact ih (by omega) s

theorem pushList_eq_pushRegs (l : BitVec 8) (s : State) : pushList l 8 s = pushRegs (savedRegs l) s :=
  pushList_eq_pushRegs_drop l (by decide) s

theorem popList_eq_popRegs (l : BitVec 8) (s : State) : popList l 8 s = popRegs (restoredRegs l) s :=
  popList_eq_popRegs_drop l (by decide) s

/-- In the reversed list, bit k of SAVE's list is bit 7-k of RESTORE's: the same registers, in the
opposite order (R422). -/
theorem restoredRegs_reverse (l : BitVec 8) : restoredRegs l.reverse = (savedRegs l).reverse := by
  have hbit (r : Reg) : l.reverse.getLsbD (7 - r.val) = l.getLsbD r.val := by
    have hr := r.isLt
    rw [BitVec.getLsbD_reverse, BitVec.getMsbD_eq_getLsbD, decide_eq_true (by omega), Bool.true_and]
    congr 1
    omega
  simp only [restoredRegs, savedRegs, hbit, List.filter_reverse]

/-! ## Pushing and popping registers -/

theorem pushRegs_ok {s : State} (hs : s.accessible) (rs : List Reg) :
    ∃ t, pushRegs rs s = .ok t ∧ t.accessible := by
  induction rs generalizing s with
  | nil => exact ⟨s, rfl, hs⟩
  | cons r rs ih =>
    obtain ⟨t, ht⟩ := push_ok hs (s.reg r)
    obtain ⟨u, hu⟩ := ih (accessible_congr (push_xlate ht) hs)
    exact ⟨u, by rw [pushRegs, ht]; exact hu⟩

theorem popRegs_ok {s : State} (hs : s.accessible) (rs : List Reg) :
    ∃ t, popRegs rs s = .ok t ∧ t.accessible := by
  induction rs generalizing s with
  | nil => exact ⟨s, rfl, hs⟩
  | cons r rs ih =>
    obtain ⟨⟨v, t⟩, ht⟩ := pop_ok hs 32
    obtain ⟨-, rfl⟩ := pop_spec ht
    obtain ⟨u, hu⟩ := ih (s := State.setReg _ r v) (accessible_congr (setSp_xlate s _) hs)
    exact ⟨u, by rw [popRegs, ht]; exact hu⟩

theorem pushRegs_cons_eq_ok {r : Reg} {rs : List Reg} {s t : State} (h : pushRegs (r :: rs) s = .ok t) :
    ∃ s₁, s.push (s.reg r) = .ok s₁ ∧ pushRegs rs s₁ = .ok t := by
  rw [pushRegs] at h
  cases hs : s.push (s.reg r) with
  | error e => rw [hs] at h; cases h
  | ok s₁ => rw [hs] at h; exact ⟨s₁, rfl, h⟩

theorem popRegs_append {rs qs : List Reg} {s t : State} (h : popRegs rs s = .ok t) :
    popRegs (rs ++ qs) s = popRegs qs t := by
  induction rs generalizing s with
  | nil => cases h; rfl
  | cons r rs ih =>
    rw [popRegs] at h
    rw [List.cons_append, popRegs]
    cases hp : s.pop 32 with
    | error e => rw [hp] at h; cases h
    | ok x => rw [hp] at h; exact ih h

/-! ## What pushes keep of the stack -/

/-- A push stores below the stack pointer that it begins with: the bytes from there up, short of coming
round to the pushed ones, stay. -/
theorem push_keeps_above {s t : State} {v : Word} (hx : s.xlate = []) (h : s.push v = .ok t) {j : Nat}
    (hj : j + 4 < 2 ^ 32) :
    t.mem.get (s.sp + BitVec.ofNat 32 j).toNat = s.mem.get (s.sp + BitVec.ofNat 32 j).toNat := by
  obtain ⟨-, hframe, -⟩ := push_spec h
  refine hframe _ ?_
  rintro ⟨i, q, hi, hq, e⟩
  rw [translate_of_xlate_nil hx] at hq
  cases hq
  have := BitVec.eq_of_toNat_eq e
  bv_omega

/-- The address j bytes above a stack pointer is j + 4 bytes above the one that a push leaves. -/
theorem add_of_push {s t : State} {v : Word} (h : s.push v = .ok t) (j : Nat) :
    s.sp + BitVec.ofNat 32 j = t.sp + BitVec.ofNat 32 (j + 4) := by
  rw [push_sp h]
  bv_omega

/-- Pushes that do not come round store below the stack pointer that they begin with. -/
theorem pushRegs_keeps_above {rs : List Reg} {s t : State} (hx : s.xlate = [])
    (h : pushRegs rs s = .ok t) {j : Nat} (hj : j + 4 * rs.length < 2 ^ 32) :
    t.mem.get (s.sp + BitVec.ofNat 32 j).toNat = s.mem.get (s.sp + BitVec.ofNat 32 j).toNat := by
  induction rs generalizing s j with
  | nil => cases h; rfl
  | cons r rs ih =>
    obtain ⟨s₁, hpush, hrest⟩ := pushRegs_cons_eq_ok h
    rw [List.length_cons] at hj
    have hlater := ih ((push_xlate hpush).trans hx) hrest (j := j + 4) (by omega)
    rw [← add_of_push hpush] at hlater
    exact hlater.trans (push_keeps_above hx hpush (by omega))

/-- With the default `Translate`, reading the same bytes gives the same value. -/
theorem readBytes_of_sameBytes {s t : State} (hs : s.xlate = []) (ht : t.xlate = []) (k : Access)
    (u : Bool) {n : Nat} {va : Word}
    (h : ∀ j, j < n → t.mem.get (va + BitVec.ofNat 32 j).toNat = s.mem.get (va + BitVec.ofNat 32 j).toNat) :
    t.readBytes k u va n = s.readBytes k u va n := by
  induction n generalizing va with
  | zero => rfl
  | succ n ih =>
    have hfirst : t.mem.get va.toNat = s.mem.get va.toNat := by simpa using h 0 (by omega)
    have hrest := ih (va := va + 1) fun j hj => by
      rw [← add_ofNat_succ]
      exact h (j + 1) (by omega)
    simp only [State.readBytes, State.readByte, translate_of_xlate_nil hs, translate_of_xlate_nil ht,
      hfirst, hrest]

/-! ## RESTORE after SAVE -/

/-- What pushes and pops of registers use and change, but for memory, is the same. -/
structure SameContext (s t : State) : Prop where
  regs : t.regs = s.regs
  sp0 : t.sp0 = s.sp0
  sp1 : t.sp1 = s.sp1
  psr : t.psr = s.psr
  xlate : t.xlate = s.xlate

theorem SameContext.sp {s t : State} (h : SameContext s t) : t.sp = s.sp := by
  have hS : t.flagS = s.flagS := congrArg (BitVec.getLsbD · 9) h.psr
  rw [State.sp, State.sp, hS, h.sp0, h.sp1]

/-- What a push of a register wrote is popped into it: from a state that differs from the one that the
push left in memory alone, and there not at the pushed bytes. -/
theorem pop_after_push {s s₁ u : State} {r : Reg} (hx : s.xlate = []) (hm : s.mem.wf = true)
    (hpush : s.push (s.reg r) = .ok s₁) (hu : SameContext s₁ u)
    (hbytes : ∀ j, j < 4 → u.mem.get (s₁.sp + BitVec.ofNat 32 j).toNat =
      s₁.mem.get (s₁.sp + BitVec.ofNat 32 j).toNat) :
    ∃ v, popRegs [r] u = .ok v ∧ SameContext s v ∧ v.mem = u.mem := by
  have hx₁ : s₁.xlate = [] := (push_xlate hpush).trans hx
  have hread : u.read 32 u.sp = .ok (s.reg r) := by
    rw [← read_of_push (n := 4) (by decide) hx hm hpush, hu.sp]
    have hU : u.flagU = s₁.flagU := congrArg (BitVec.getLsbD · 8) hu.psr
    simp only [State.read, hU, readBytes_of_sameBytes hx₁ (hu.xlate.trans hx₁) _ _ hbytes]
  have hpop : popRegs [r] u = .ok ((u.setSp (u.sp + 4)).setReg r (s.reg r)) := by
    simp only [popRegs, State.pop, hread]
    rfl
  obtain ⟨h0, h1⟩ := setSp_of_push hpush (n := 4) (by decide)
  have hS : u.flagS = s₁.flagS := congrArg (BitVec.getLsbD · 9) hu.psr
  have hkept : s₁.regs = s.regs ∧ s₁.psr = s.psr := by
    obtain ⟨⟨m, rfl⟩, -⟩ := push_spec hpush
    exact ⟨setSp_regs s _, setSp_psr s _⟩
  refine ⟨_, hpop, ⟨?_, ?_, ?_, ?_, ?_⟩, ?_⟩
  · rw [setReg_regs, setSp_regs, hu.regs, hkept.1]
    exact Vector.set_getElem_self _
  · rw [setReg_sp0, setSp_sp0, hS, hu.sp0, hu.sp, ← setSp_sp0, h0]
  · rw [setReg_sp1, setSp_sp1, hS, hu.sp1, hu.sp, ← setSp_sp1, h1]
  · rw [setReg_psr, setSp_psr, hu.psr, hkept.2]
  · rw [setReg_xlate, setSp_xlate, hu.xlate, push_xlate hpush]
  · rw [setReg_mem, setSp_mem]

/-- Pops in the opposite order undo pushes, from any state that has the registers and the memory that the
pushes left. -/
theorem popRegs_reverse_of_pushRegs {rs : List Reg} {s t t' : State} (hx : s.xlate = [])
    (hm : s.mem.wf = true) (hn : 4 * rs.length < 2 ^ 32) (h : pushRegs rs s = .ok t)
    (ht : SameContext t t') (hmem : t'.mem = t.mem) :
    ∃ u, popRegs rs.reverse t' = .ok u ∧ SameContext s u ∧ u.mem = t.mem := by
  induction rs generalizing s with
  | nil => cases h; exact ⟨t', rfl, ht, hmem⟩
  | cons r rs ih =>
    obtain ⟨s₁, hpush, hrest⟩ := pushRegs_cons_eq_ok h
    rw [List.length_cons] at hn
    have hx₁ : s₁.xlate = [] := (push_xlate hpush).trans hx
    obtain ⟨-, -, hwf⟩ := push_spec hpush
    obtain ⟨u, hu, hsame, hum⟩ := ih hx₁ (hwf hm) (by omega) hrest
    obtain ⟨v, hv, hsv, hvm⟩ := pop_after_push hx hm hpush hsame fun j hj => by
      rw [hum]
      exact pushRegs_keeps_above hx₁ hrest (by omega)
    refine ⟨v, ?_, hsv, hvm.trans hum⟩
    rw [List.reverse_cons, popRegs_append hu, hv]

/-! ## The instructions -/

section
variable {i : Instr} {s : State} {len : Nat} (l : BitVec 8)

theorem save_eq {t : State} (h : pushRegs (savedRegs l) s = .ok t) :
    save len l s = .ok (t.advance len) := by
  simp only [save, pushList_eq_pushRegs, h, bind, Except.bind]

theorem restore_eq {t : State} (h : popRegs (restoredRegs l) s = .ok t) :
    restore len l s = .ok (t.advance len) := by
  simp only [restore, popList_eq_popRegs, h, bind, Except.bind]

variable (hs : s.accessible)
include hs

theorem save_completes (he : exec i s = conclude s (save len l s)) :
    ∃ t, pushRegs (savedRegs l) s = .ok t ∧ exec i s = .next (t.advance len) := by
  obtain ⟨t, ht, -⟩ := pushRegs_ok hs (savedRegs l)
  exact ⟨t, ht, exec_next he (save_eq l ht)⟩

theorem restore_completes (he : exec i s = conclude s (restore len l s)) :
    ∃ t, popRegs (restoredRegs l) s = .ok t ∧ exec i s = .next (t.advance len) := by
  obtain ⟨t, ht, -⟩ := popRegs_ok hs (restoredRegs l)
  exact ⟨t, ht, exec_next he (restore_eq l ht)⟩

theorem enter_completes {d : Disp} (he : exec i s = conclude s (enter len l d s)) :
    ∃ t u, s.push s.fp = .ok t ∧
      pushRegs (savedRegs l) (State.setSp { t with fp := t.sp } (t.sp - dispValue d)) = .ok u ∧
      exec i s = .next (u.advance len) := by
  obtain ⟨t, ht⟩ := push_ok hs s.fp
  have hx : (State.setSp { t with fp := t.sp } (t.sp - dispValue d)).xlate = s.xlate :=
    (setSp_xlate { t with fp := t.sp } _).trans (push_xlate (t := t) ht)
  obtain ⟨u, hu, -⟩ := pushRegs_ok (accessible_congr hx hs) (savedRegs l)
  refine ⟨t, u, ht, hu, exec_next he ?_⟩
  have hframe : State.sp { t with fp := t.sp } = t.sp := rfl
  simp only [enter, ht, hframe, pushList_eq_pushRegs, hu, bind, Except.bind]

theorem exit_completes (he : exec i s = conclude s (exit len l s)) :
    ∃ t v u, popRegs (restoredRegs l) s = .ok t ∧ (t.setSp t.fp).pop 32 = .ok (v, u) ∧
      exec i s = .next ({ u with fp := v }.advance len) := by
  obtain ⟨t, ht, hta⟩ := popRegs_ok hs (restoredRegs l)
  obtain ⟨⟨v, u⟩, hu⟩ := pop_ok (accessible_congr (setSp_xlate t t.fp) hta) 32
  refine ⟨t, v, u, ht, hu, exec_next he ?_⟩
  simp only [exit, popList_eq_popRegs, ht, hu, bind, Except.bind]

end

/-- RESTORE of the reversed list in the state that SAVE leaves. -/
theorem restore_after_save {s t : State} (l : BitVec 8) (hx : s.xlate = []) (hm : s.mem.wf = true)
    (ht : pushRegs (savedRegs l) s = .ok t) :
    ∃ u, exec (.restore l.reverse) (t.advance 2) = .next u ∧ u.regs = s.regs ∧ u.sp0 = s.sp0 ∧
      u.sp1 = s.sp1 := by
  have hlen : (savedRegs l).length ≤ 8 := List.length_filter_le _ _
  obtain ⟨u, hu, hsame, -⟩ := popRegs_reverse_of_pushRegs (t' := t.advance 2) hx hm (by omega) ht
    ⟨rfl, rfl, rfl, rfl, rfl⟩ rfl
  rw [← restoredRegs_reverse] at hu
  exact ⟨u.advance 2, exec_next rfl (restore_eq l.reverse hu), hsame.regs, hsame.sp0, hsame.sp1⟩

end Sys2Proof.Machine

namespace Sys2Proof.Proofs

open Sys2Proof.Machine

/-- Settles O41: the lists are the registers that they name (`pushList_eq_pushRegs`), and pops in the
opposite order undo pushes (`popRegs_reverse_of_pushRegs`). -/
theorem saveRestoreEnterExit : Obligations.SaveRestoreEnterExit := by
  unfold Obligations.SaveRestoreEnterExit
  intro s l d hs
  have hsave := save_completes l hs (i := .save l) (len := 2) rfl
  refine ⟨hsave, restore_completes l hs rfl,
    enter_completes l hs (exec_length (i := .enter l d) (enter · l d s) rfl),
    exit_completes l hs rfl, fun hx hm t ht => ?_⟩
  obtain ⟨t₁, hpush, hexec⟩ := hsave
  obtain rfl := Host.Outcome.next.inj (ht.symm.trans hexec)
  exact restore_after_save l hx hm hpush

end Sys2Proof.Proofs
end

section
/-! The dedicated registers (R427 to R432): what LPRi, SPRi, ADJSPi, BICPSRi and BISPSRi complete with. -/

namespace Sys2Proof.Machine

/-! ## The bits of PSR -/

/-- The upper byte is the bits from 8 on. -/
theorem getLsbD_upperByte {i : Nat} (hi : i < 16) : (0xFF00 : BitVec 16).getLsbD i = decide (8 ≤ i) := by
  revert i
  decide

/-- A word whose lower byte is replaced, bit by bit. -/
theorem getLsbD_replaceLow (p : BitVec 16) (x : BitVec 8) {i : Nat} (hi : i < 16) :
    ((p &&& 0xFF00) ||| x.setWidth 16).getLsbD i = if i < 8 then x.getLsbD i else p.getLsbD i := by
  rw [BitVec.getLsbD_or, BitVec.getLsbD_and, getLsbD_upperByte hi, BitVec.getLsbD_setWidth,
    decide_eq_true hi, Bool.true_and]
  split
  · next h => rw [decide_eq_false (by omega), Bool.and_false, Bool.false_or]
  · next h => rw [decide_eq_true (by omega), Bool.and_true, BitVec.getLsbD_of_ge x i (by omega),
      Bool.or_false]

/-- BICPSRB clears in the low byte what BICPSRW would clear with a source whose upper byte is zero
(R428). -/
theorem setUpsr_clear (s : State) (x : BitVec 8) :
    s.setUpsr (s.psr.setWidth 8 &&& ~~~x) =
      { s with psr := (s.psr &&& ~~~(x.setWidth 16)) &&& 0x0FF7 } := by
  have hbits : (s.psr &&& 0xFF00) ||| (s.psr.setWidth 8 &&& ~~~x).setWidth 16 =
      s.psr &&& ~~~(x.setWidth 16) := by
    refine BitVec.eq_of_getLsbD_eq fun i hi => ?_
    rw [getLsbD_replaceLow _ _ hi]
    split
    · next h => simp [h, hi]
    · next h => simp [hi, BitVec.getLsbD_of_ge x i (by omega)]
  rw [State.setUpsr, hbits]
  rfl

/-- BISPSRB sets in the low byte what BISPSRW would set with a source whose upper byte is zero (R429). -/
theorem setUpsr_set (s : State) (x : BitVec 8) :
    s.setUpsr (s.psr.setWidth 8 ||| x) = { s with psr := (s.psr ||| x.setWidth 16) &&& 0x0FF7 } := by
  have hbits : (s.psr &&& 0xFF00) ||| (s.psr.setWidth 8 ||| x).setWidth 16 =
      s.psr ||| x.setWidth 16 := by
    refine BitVec.eq_of_getLsbD_eq fun i hi => ?_
    rw [getLsbD_replaceLow _ _ hi]
    split
    · next h => simp [h, hi]
    · next h => simp [BitVec.getLsbD_of_ge x i (by omega)]
  rw [State.setUpsr, hbits]
  rfl

/-! ## Processor registers -/

theorem loadProc_eq_loaded {w : Nat} (s : State) (r : ProcReg) (x : BitVec w) :
    loadProc s r x = loaded s r x := by
  cases r <;> rfl

theorem storeProc_eq_stored (s : State) (r : ProcReg) : storeProc s r = stored s r := by
  cases r with
  | upsr =>
    change (s.psr.setWidth 8).setWidth 32 = s.psr.setWidth 32 &&& 0xFF
    have hpsr := s.psr.isLt
    refine BitVec.eq_of_toNat_eq ?_
    rw [BitVec.toNat_and, BitVec.toNat_setWidth, BitVec.toNat_setWidth, BitVec.toNat_setWidth]
    change _ = _ &&& (2 ^ 8 - 1)
    rw [Nat.and_two_pow_sub_one_eq_mod]
    omega
  | _ => rfl

/-- A register that the mode may name passes the check (R430). -/
theorem procCheck_of_mayName {s : State} {r : ProcReg} (h : s.flagU = false ∨ procPrivileged r = false) :
    procCheck r s = .ok () := by
  unfold procCheck
  split
  · next hp => exact privileged_of_supervisor (h.resolve_right (by simp [hp]))
  · rfl

/-! ## The instructions -/

/-- In Supervisor mode a privileged instruction is what stands behind its check (R503). -/
theorem exec_of_supervisor {i : Instr} {s : State} {x : Except Stop State} (hu : s.flagU = false)
    (he : exec i s = conclude s (privileged s >>= fun _ => x)) : exec i s = conclude s x := by
  rw [he, privileged_of_supervisor hu]
  rfl

section
variable {i : Instr} {s : State} {w : Nat} {r : ProcReg} {g : Gen} {ta : Attr} (hs : s.accessible)
  (hi : i.wellFormed = true) (hl : (layout i).operands = [(ta, g)])
include hs hi hl

/-- LPRi (R431). -/
theorem lprI_completes (hr : s.flagU = false ∨ procPrivileged r = false)
    (he : exec i s = conclude s (lprI w i.length r g s)) :
    CompletesRead i w g s fun x s => loaded s r x := by
  have hlpr : lprI w i.length r g s =
      source .int w i.length g s fun x s => .ok (loadProc s r x) := by
    rw [lprI, procCheck_of_mayName hr]
    rfl
  exact completesRead_of hs (wellFormed_one hi hl) (he.trans (congrArg _ hlpr))
    fun x t => congrArg _ (loadProc_eq_loaded t r x)

/-- SPRi (R432). -/
theorem sprI_completes (hta : ta.immSize = none) (hr : s.flagU = false ∨ procPrivileged r = false)
    (he : exec i s = conclude s (sprI w i.length r g s)) :
    CompletesStore i w g s ((stored s r).setWidth w) s := by
  have hspr : sprI w i.length r g s =
      store .int w i.length g s fun s => { value := (storeProc s r).setWidth w, state := s } := by
    rw [sprI, procCheck_of_mayName hr]
    rfl
  exact completesStore_of hs (wellFormed_one hi hl) hta (he.trans (congrArg _ hspr))
    ⟨congrArg (BitVec.setWidth w) (storeProc_eq_stored s r), rfl, rfl, rfl⟩

/-- ADJSPi (R427): sign-extension of the source keeps its value. -/
theorem adjspI_completes (he : exec i s = conclude s (adjspI w i.length g s)) :
    CompletesRead i w g s fun x s => s.setSp (s.sp - BitVec.ofInt 32 x.toInt) :=
  completesRead_of hs (wellFormed_one hi hl) he fun _ _ => rfl

end

section
variable {s : State} {g : Gen} (hs : s.accessible)
include hs

/-- BICPSRB (R428). -/
theorem bicpsrB_completes (hi : (Instr.bicpsrb g).wellFormed = true) :
    CompletesRead (.bicpsrb g) 8 g s fun x s =>
      { s with psr := (s.psr &&& ~~~(x.setWidth 16)) &&& 0x0FF7 } :=
  have he := exec_length (i := .bicpsrb g) (s := s) (bicpsrB · g s) rfl
  completesRead_of hs (wellFormed_one hi rfl) he fun x t => congrArg _ (setUpsr_clear t x)

/-- BISPSRB (R429). -/
theorem bispsrB_completes (hi : (Instr.bispsrb g).wellFormed = true) :
    CompletesRead (.bispsrb g) 8 g s fun x s =>
      { s with psr := (s.psr ||| x.setWidth 16) &&& 0x0FF7 } :=
  have he := exec_length (i := .bispsrb g) (s := s) (bispsrB · g s) rfl
  completesRead_of hs (wellFormed_one hi rfl) he fun x t => congrArg _ (setUpsr_set t x)

variable (hu : s.flagU = false)
include hu

/-- BICPSRW (R428). -/
theorem bicpsrW_completes (hi : (Instr.bicpsrw g).wellFormed = true) :
    CompletesRead (.bicpsrw g) 16 g s fun x s => { s with psr := (s.psr &&& ~~~x) &&& 0x0FF7 } :=
  have he := exec_length (i := .bicpsrw g) (s := s) (bicpsrW · g s) rfl
  completesRead_of hs (wellFormed_one hi rfl) (exec_of_supervisor hu he) fun _ _ => rfl

/-- BISPSRW (R429). -/
theorem bispsrW_completes (hi : (Instr.bispsrw g).wellFormed = true) :
    CompletesRead (.bispsrw g) 16 g s fun x s => { s with psr := (s.psr ||| x) &&& 0x0FF7 } :=
  have he := exec_length (i := .bispsrw g) (s := s) (bispsrW · g s) rfl
  completesRead_of hs (wellFormed_one hi rfl) (exec_of_supervisor hu he) fun _ _ => rfl

end

end Sys2Proof.Machine

namespace Sys2Proof.Proofs

open Sys2Proof.Machine

/-- Settles O42: the three lengths of LPRi, of SPRi and of ADJSPi differ in the width alone. -/
theorem processorRegisters : Obligations.ProcessorRegisters := by
  unfold Obligations.ProcessorRegisters
  intro s r g hs
  exact ⟨fun hi hr => lprI_completes hs hi rfl hr (exec_length (lprI 8 · r g s) rfl),
    fun hi hr => lprI_completes hs hi rfl hr (exec_length (lprI 16 · r g s) rfl),
    fun hi hr => lprI_completes hs hi rfl hr (exec_length (lprI 32 · r g s) rfl),
    fun hi hr => sprI_completes hs hi rfl rfl hr (exec_length (sprI 8 · r g s) rfl),
    fun hi hr => sprI_completes hs hi rfl rfl hr (exec_length (sprI 16 · r g s) rfl),
    fun hi hr => sprI_completes hs hi rfl rfl hr (exec_length (sprI 32 · r g s) rfl),
    fun hi => adjspI_completes hs hi rfl (exec_length (adjspI 8 · g s) rfl),
    fun hi => adjspI_completes hs hi rfl (exec_length (adjspI 16 · g s) rfl),
    fun hi => adjspI_completes hs hi rfl (exec_length (adjspI 32 · g s) rfl),
    bicpsrB_completes hs, bispsrB_completes hs, fun hi hu => bicpsrW_completes hs hu hi,
    fun hi hu => bispsrW_completes hs hu hi⟩

end Sys2Proof.Proofs
end

section
/-! NOP, WAIT, DIA and CINV (R434 to R436, R440), and a step of a machine that waits (R523). -/

namespace Sys2Proof.Machine

/-! ## Waiting -/

/-- A step of a machine that waits accepts an interrupt or does nothing (R435, R523). -/
theorem step_of_waiting {s : State} (hw : s.waiting = true) (hr : s.resetRequest = false) :
    step s = idle s := by
  simp only [step, hw, hr, Bool.false_eq_true, if_false, if_true]

/-- A maskable request that is enabled is accepted (R521): without vectored interrupts the byte that is
read is not used. -/
theorem acceptInterrupt_of_maskable {s : State} (hs : s.accessible) (hn : s.nmiPending = false)
    (hq : s.intRequest = true) (hI : s.flagI = true) (hv : s.cfgI = false) (image : BitVec 16)
    (o : Host.Outcome State Fault Refusal) :
    acceptInterrupt s image o = takeException s Config.vecNvi s.pc true image := by
  obtain ⟨b, hb⟩ := readByte_ok hs .read false 0xFFFFFE00
  simp only [acceptInterrupt, hn, hq, hI, Bool.false_eq_true, if_false, Bool.and_self, if_true, takeInt,
    hb, hv]

/-! ## CINV -/

/-- CINV (R440). -/
theorem cinv_completes {s : State} {al ic dc : Bool} {g : Gen} (hs : s.accessible)
    (hi : (Instr.cinv al ic dc g).wellFormed = true) (hu : s.flagU = false) :
    CompletesRead (.cinv al ic dc g) 32 g s fun _ s => s :=
  have he := exec_length (i := .cinv al ic dc g) (s := s) (cinv · g s) rfl
  completesRead_of hs (wellFormed_one hi rfl) (exec_of_supervisor hu he) fun _ _ => rfl

end Sys2Proof.Machine

namespace Sys2Proof.Proofs

open Sys2Proof.Machine

/-- Settles O44: the meaning of NOP is the model's `advance` and nothing else. -/
theorem noOperation : Obligations.NoOperation := by
  unfold Obligations.NoOperation
  exact ⟨rfl, fun s => exec_next (x := nop 1 s) rfl rfl⟩

/-- Settles O45: what a wait takes is what its `idle` step accepts. -/
theorem waitDiagnoseInvalidate : Obligations.WaitDiagnoseInvalidate := by
  unfold Obligations.WaitDiagnoseInvalidate
  intro s al ic dc g hs
  refine ⟨exec_next (x := wait 1 s) rfl rfl, exec_next (x := dia s) rfl rfl, cinv_completes hs,
    fun hw hr hn => ⟨fun hq => ?_, fun hq hI hv => ?_⟩⟩
  · rw [step_of_waiting hw hr]
    exact acceptInterrupt_of_none hn hq _ _
  · rw [step_of_waiting hw hr]
    exact acceptInterrupt_of_maskable hs hn hq hI hv _ _

end Sys2Proof.Proofs
end

section
/-! A User-mode instruction leaves the protected registers alone (O9). -/

namespace Sys2Proof.Machine

/-- The stack pointer that PSR.S does not select (R27). -/
def State.otherSp (s : State) : Word := if s.flagS then s.sp0 else s.sp1

/-- What no User-mode instruction changes: the protected registers, the stack pointer that is not
selected, and U, S, P and I (R430, R503). -/
def State.guarded (s : State) : List Word × Word × BitVec 16 :=
  ([s.intbase, s.cfg, s.ptb0, s.ptb1, s.tear, s.mcr, s.msr, s.dcr, s.dsr, s.car, s.bpc], s.otherSp,
    s.psr &&& 0x0F00)

/-- PSR.S is one of the bits U, S, P and I. -/
theorem flagS_of_psr_high {s t : State} (h : t.psr &&& 0x0F00 = s.psr &&& 0x0F00) :
    t.flagS = s.flagS := by
  have h9 := congrArg (·.getLsbD 9) h
  simpa [State.flagS] using h9

theorem otherSp_setSp (s : State) (v : Word) : (s.setSp v).otherSp = s.otherSp := by
  rw [State.otherSp, State.otherSp, setSp_flagS, setSp_sp0, setSp_sp1]
  cases s.flagS <;> rfl

/-- Each update that is left to User mode keeps what is guarded. -/
theorem UserUpdate.guarded {s t : State} (h : UserUpdate s t) : t.guarded = s.guarded := by
  cases h with
  | registers => rfl
  | stackPointer v => simp [State.guarded, otherSp_setSp]
  | flags p h =>
    have hS : ({ s with psr := p } : State).flagS = s.flagS := flagS_of_psr_high h
    rw [State.guarded, State.guarded, State.otherSp, hS, h]
    rfl
  | store hk h => obtain ⟨q, -, rfl⟩ := writeByte_spec h; rfl

theorem UserRun.guarded {s t : State} (h : UserRun s t) : t.guarded = s.guarded := by
  obtain ⟨-, hu⟩ := h
  induction hu with
  | refl => rfl
  | tail _ hu ih => exact hu.guarded.trans ih

end Sys2Proof.Machine

namespace Sys2Proof.Proofs

open Sys2Proof.Machine

/-- Settles O9: without a trap an instruction makes the updates that are left to User mode
(`exec_userRun`), and each of them keeps what is guarded. -/
theorem userModeCannotReachProtectedState : Obligations.UserModeCannotReachProtectedState := by
  unfold Obligations.UserModeCannotReachProtectedState
  intro i s t hu h hb
  have hg := (exec_userRun hu i t h hb).guarded
  simp only [State.guarded, Prod.mk.injEq, List.cons.injEq, and_true] at hg
  obtain ⟨⟨hi, hc, hp0, hp1, ht, hm, hms, hd, hds, hca, hbp⟩, hsp, hpsr⟩ := hg
  refine ⟨hi, hc, hp0, hp1, ht, hm, hms, hd, hds, hca, hbp, ?_, ?_⟩
  · rw [State.otherSp, State.otherSp, flagS_of_psr_high hpsr] at hsp
    cases hS : s.flagS <;> simpa [hS] using hsp
  · rw [xor_and_mask, hpsr, BitVec.xor_self]
    rfl

end Sys2Proof.Proofs
end

section
/-! How the body of an instruction ends (R500 to R511): it completes, or it stops with a trap that is
taken from the state in which it began, or, with V = 1, with Trap(OVF). U and V of PSR stay on the way.
First the operations that bodies are made of. -/

namespace Sys2Proof.Machine

/-! ## Computations that change no state -/

/-- A trap that is taken from the state in which the instruction began. -/
def Stop.restarts : Stop → Prop
  | .trap _ | .abort _ | .fpu _ => True
  | .overflow _ | .custom | .noFpu | .undefined => False

/-- A computation that stops, if it does, with a trap that restarts the instruction. -/
def Restarts {α : Type} : Except Stop α → Prop
  | .ok _ => True
  | .error e => e.restarts

theorem Restarts.bind {α β : Type} {x : Except Stop α} {f : α → Except Stop β} (hx : Restarts x)
    (hf : ∀ a, Restarts (f a)) : Restarts (x >>= f) := by
  cases x with
  | ok a => exact hf a
  | error e => exact hx

theorem readBytes_restarts (s : State) (k : Access) (u : Bool) (n : Nat) (va : Word) :
    Restarts (s.readBytes k u va n) := by
  induction n generalizing va with
  | zero => trivial
  | succ n ih =>
    have hb : Restarts (s.readByte k u va) := by unfold State.readByte; split <;> trivial
    have hn := ih (va + 1)
    unfold State.readBytes
    split
    · next e he => rw [he] at hb; exact hb
    · split
      · next e he => rw [he] at hn; exact hn
      · trivial

theorem read_restarts (w : Nat) (s : State) (va : Word) (k : Access) (u : Bool) :
    Restarts (s.read w va k u) := by
  have h := readBytes_restarts s k u (w / 8) va
  unfold State.read
  split
  · trivial
  · next e he => rw [he] at h; exact h

theorem writeBytes_restarts (k : Access) (u : Bool) (n : Nat) (va : Word) (v : Nat) (s : State) :
    Restarts (State.writeBytes k u n va v s) := by
  induction n generalizing va v s with
  | zero => trivial
  | succ n ih =>
    simp only [State.writeBytes, State.writeByte]
    cases s.translate k u va with
    | none => trivial
    | some pa => exact ih _ _ _

theorem write_restarts {w : Nat} (s : State) (va : Word) (v : BitVec w) (k : Access) (u : Bool) :
    Restarts (s.write va v k u) := writeBytes_restarts ..

theorem pop_restarts (w : Nat) (s : State) : Restarts (s.pop w) := by
  have h := read_restarts w s s.sp .read s.flagU
  unfold State.pop
  split
  · trivial
  · next e he => rw [he] at h; exact h

theorem modeAddr_restarts (spi : Word) (s : State) (m : Mode) : Restarts (modeAddr spi s m) := by
  cases m with
  | frameRel | stackRel | staticRel => exact (read_restarts ..).bind fun _ => trivial
  | ext => exact (read_restarts ..).bind fun _ => (read_restarts ..).bind fun _ => trivial
  | _ => trivial

theorem genAddr_restarts (spi : Word) (s : State) (g : Gen) : Restarts (genAddr spi s g) := by
  cases g with
  | plain m => exact modeAddr_restarts spi s m
  | indexed sc m r => exact (modeAddr_restarts spi s m).bind fun _ => trivial

theorem readMem_restarts (w : Nat) (spi : Word) (g : Gen) (s : State) :
    Restarts (do let a ← genAddr spi s g; let v ← s.read w a; Except.ok (v, s)) :=
  (genAddr_restarts ..).bind fun _ => (read_restarts ..).bind fun _ => trivial

theorem readGen_restarts (f : File) (w : Nat) (spi : Word) (g : Gen) (s : State) :
    Restarts (readGen f w spi g s) := by
  cases g with
  | indexed sc m r => exact readMem_restarts w spi _ s
  | plain m =>
    cases m with
    | reg | imm => trivial
    | tos => exact pop_restarts w s
    | _ => exact readMem_restarts w spi _ s

theorem writeLoc_restarts (f : File) (spi : Word) (g : Gen) (s : State) :
    Restarts (writeLoc f spi g s) := by
  unfold writeLoc
  split
  · trivial
  · trivial
  · exact (genAddr_restarts ..).bind fun _ => trivial

theorem rmwLoc_restarts (f : File) (spi : Word) (g : Gen) (s : State) :
    Restarts (rmwLoc f spi g s) := by
  unfold rmwLoc
  split
  · trivial
  · exact (genAddr_restarts ..).bind fun _ => trivial

theorem readAt_restarts (w : Nat) (l : Loc) (s : State) : Restarts (readAt w l s) := by
  cases l with
  | mem a k => exact (read_restarts ..).bind fun _ => trivial
  | _ => trivial

theorem writeAt_restarts {w : Nat} (l : Loc) (v : BitVec w) (s : State) : Restarts (writeAt l v s) := by
  cases l with
  | mem | push => exact write_restarts ..
  | _ => trivial

theorem bitBase_restarts (spi : Word) (s : State) (g : Gen) : Restarts (bitBase spi s g) := by
  unfold bitBase
  split
  · trivial
  · exact (genAddr_restarts ..).bind fun _ => trivial

/-! ### Checks -/

theorem privileged_restarts (s : State) : Restarts (privileged s) := by
  unfold privileged; split <;> trivial

/-- The unit is attached (log 50), so a floating-point instruction is never refused for want of it. -/
theorem needFpu_restarts (s : State) : Restarts (needFpu s) := by
  unfold needFpu
  rw [if_pos (show Config.hasFpu = true from rfl)]
  split <;> trivial

theorem needMmu_restarts (s : State) : Restarts (needMmu s) := by
  unfold needMmu; split
  · trivial
  · split <;> trivial

theorem procCheck_restarts (r : ProcReg) (s : State) : Restarts (procCheck r s) := by
  unfold procCheck; split; exacts [privileged_restarts s, trivial]

theorem checkReserved_restarts (s : State) (bad : Bool) : Restarts (checkReserved s bad) := by
  unfold checkReserved; split <;> trivial

/-! ### Floating-point operations -/

theorem fpDeliver_restarts (w : Nat) (f : Word) (x : Exact) (neg lossy : Bool) :
    Restarts (fpDeliver w f x neg lossy) := by
  have hin : ∀ v : BitVec w, Restarts (if fsrIEN f then
      .error (.fpu (fsrSetIF (fsrSetTT f ttInexact))) else .ok (v, fsrSetIF (fsrSetTT f ttInexact))) :=
    fun v => by split <;> trivial
  unfold fpDeliver
  dsimp only
  split
  · split; exacts [hin _, trivial]
  · split
    · trivial
    · split
      · split <;> trivial
      · split; exacts [trivial, hin _]

theorem fpToInt_restarts (w : Nat) (f : Word) (x : Exact) (m : ToInt) :
    Restarts (fpToInt w f x m) := by
  unfold fpToInt
  dsimp only
  split
  · trivial
  · split
    · trivial
    · split <;> trivial

theorem mulAdd_restarts (w : Nat) (f : Word) (x y z : Exact) : Restarts (mulAdd w f x y z) := by
  unfold mulAdd
  dsimp only
  split
  · exact fpDeliver_restarts ..
  · split <;> exact fpDeliver_restarts ..

/-! ## Ends -/

/-- U and V of PSR are as in `s₀`. -/
def SameModes (s₀ s : State) : Prop := s.psr &&& 0x0110 = s₀.psr &&& 0x0110

/-- How a body that began in `s₀` may stop. Trap(OVF) takes V = 1, and its state keeps the mode. No
stop is a refusal. -/
def Stop.proper (s₀ : State) : Stop → Prop
  | .trap _ | .abort _ | .fpu _ => True
  | .overflow u => s₀.flagV = true ∧ u.flagU = s₀.flagU
  | .custom | .noFpu | .undefined => False

/-- A computation that answers something of which `P` holds, or stops properly. -/
def Ends {α : Type} (s₀ : State) (P : α → Prop) : Except Stop α → Prop
  | .ok a => P a
  | .error e => e.proper s₀

/-- A state in which an instruction has completed: no trap was taken, and U is as it was. -/
def Completed (s₀ t : State) : Prop := t.boundary ≠ .trapped ∧ t.flagU = s₀.flagU

section
variable {s₀ : State} {α β : Type} {P : α → Prop} {Q : β → Prop} {x : Except Stop α}
  {f : α → Except Stop β}

theorem Ends.bind (hx : Ends s₀ P x) (hf : ∀ a, P a → Ends s₀ Q (f a)) : Ends s₀ Q (x >>= f) := by
  cases x with
  | ok a => exact hf a hx
  | error e => exact hx

theorem Restarts.ends (hx : Restarts x) (h : ∀ a, x = .ok a → P a) : Ends s₀ P x := by
  cases x with
  | ok a => exact h a rfl
  | error e => cases e <;> trivial

theorem Restarts.then (hx : Restarts x) (hf : ∀ a, Ends s₀ Q (f a)) : Ends s₀ Q (x >>= f) :=
  (hx.ends (P := fun _ => True) fun _ _ => trivial).bind fun a _ => hf a

end

theorem done_ne_trapped : Boundary.done ≠ .trapped := by decide

theorem element_ne_trapped : Boundary.element ≠ .trapped := by decide

namespace SameModes
variable {s₀ s t : State}

theorem congr (h : SameModes s₀ s) (hp : t.psr = s.psr) : SameModes s₀ t := by
  rw [SameModes, hp]; exact h

theorem flagU (h : SameModes s₀ s) : s.flagU = s₀.flagU := by
  have h8 := congrArg (·.getLsbD 8) h
  simpa [State.flagU] using h8

theorem flagV (h : SameModes s₀ s) : s.flagV = s₀.flagV := by
  have h4 := congrArg (·.getLsbD 4) h
  simpa [State.flagV] using h4

/-- A flag outside U and V may be replaced. -/
theorem setFlag (h : SameModes s₀ s) {i : Nat} (b : Bool)
    (hi : (0xFEEF : BitVec 16).getLsbD i = true) : SameModes s₀ (s.setFlag i b) :=
  (putBit_and_not s.psr 0xFEEF b hi).trans h

/-- Registers other than PSR and the stack pointers, and the count of free values, may change. -/
theorem registers (h : SameModes s₀ s) {regs : Vector Word 8} {pc fp sb : Word} {mod : BitVec 16}
    {fd : Vector Quad 8} {fsr : Word} {freeCount : Nat} : SameModes s₀ { s with
      regs := regs, pc := pc, fp := fp, sb := sb, mod := mod, fd := fd, fsr := fsr
      freeCount := freeCount } := h

theorem setC (h : SameModes s₀ s) (b : Bool) : SameModes s₀ (s.setC b) := h.setFlag b (by decide)

theorem setF (h : SameModes s₀ s) (b : Bool) : SameModes s₀ (s.setF b) := h.setFlag b (by decide)

theorem setZNL (h : SameModes s₀ s) (z n l : Bool) : SameModes s₀ (s.setZNL z n l) :=
  ((h.setFlag z (by decide)).setFlag n (by decide)).setFlag l (by decide)

theorem compareFlags {w : Nat} (h : SameModes s₀ s) (a b : BitVec w) :
    SameModes s₀ (s.compareFlags a b) := h.setZNL _ _ _

theorem setSp (h : SameModes s₀ s) (v : Word) : SameModes s₀ (s.setSp v) := h.congr (setSp_psr s v)

theorem advance (h : SameModes s₀ s) (n : Nat) : Completed s₀ (s.advance n) :=
  ⟨done_ne_trapped, h.flagU⟩

theorem jump (h : SameModes s₀ s) (a : Word) : Completed s₀ (s.jump a) :=
  ⟨done_ne_trapped, h.flagU⟩

end SameModes

/-- A write of UPSR leaves U (R34). -/
theorem setUpsr_flagU (s : State) (v : BitVec 8) : (s.setUpsr v).flagU = s.flagU := by
  simp [State.flagU, psrMask]

/-! ## Memory, the stack and operands -/

section
variable {s₀ s : State} (hs : SameModes s₀ s)
include hs

/-- An overflow traps where V = 1, which it was from the beginning. -/
theorem ovfTrap_ends (ht : s.boundary ≠ .trapped) (b : Bool) : Ends s₀ (Completed s₀) (ovfTrap b s) := by
  unfold ovfTrap
  split
  · next h =>
    rw [Bool.and_eq_true] at h
    exact ⟨hs.flagV ▸ h.1, hs.flagU⟩
  · exact ⟨ht, hs.flagU⟩

theorem ovfTrap_advance_ends (len : Nat) (b : Bool) :
    Ends s₀ (Completed s₀) (ovfTrap b (s.advance len)) :=
  ovfTrap_ends (s := s.advance len) hs done_ne_trapped b

theorem write_ends {w : Nat} (va : Word) (v : BitVec w) (k : Access) (u : Bool) :
    Ends s₀ (SameModes s₀) (s.write va v k u) :=
  (write_restarts ..).ends fun t ht => by obtain ⟨⟨m, rfl⟩, -⟩ := write_spec ht; exact hs

theorem push_ends {w : Nat} (v : BitVec w) : Ends s₀ (SameModes s₀) (s.push v) :=
  write_ends (hs.setSp _) _ _ _ _

theorem pop_ends (w : Nat) : Ends s₀ (fun p => SameModes s₀ p.2) (s.pop w) :=
  (pop_restarts w s).ends fun p hp => by
    obtain ⟨-, ht⟩ := pop_spec (v := p.1) (t := p.2) hp
    rw [ht]
    exact hs.setSp _

theorem readGen_ends (f : File) (w : Nat) (spi : Word) (g : Gen) :
    Ends s₀ (fun p => SameModes s₀ p.2) (readGen f w spi g s) :=
  (readGen_restarts ..).ends fun _ h => hs.congr (readGen_psr h)

theorem readAt_ends (w : Nat) (l : Loc) : Ends s₀ (fun p => SameModes s₀ p.2) (readAt w l s) :=
  (readAt_restarts ..).ends fun _ h => hs.congr (readAt_psr h)

theorem writeAt_ends {w : Nat} (l : Loc) (v : BitVec w) : Ends s₀ (SameModes s₀) (writeAt l v s) :=
  (writeAt_restarts ..).ends fun _ h => hs.congr (writeAt_psr h)

end

/-! ## Shapes of instructions -/

/-- A result comes with a state of the same modes. -/
abbrev ResultEnds {w : Nat} (s₀ : State) (x : Except Stop (Result w)) : Prop :=
  Ends s₀ (fun r => SameModes s₀ r.state) x

theorem deliver_ends {s₀ : State} {w : Nat} {r : Result w} (h : SameModes s₀ r.state) (len : Nat)
    (l : Loc) : Ends s₀ (Completed s₀) (deliver len l r) :=
  (writeAt_ends h l r.value).bind fun _ ht => ovfTrap_advance_ends ht _ _

section
variable {s₀ s : State} {fa fb : File} {wa wb len : Nat} {a b : Gen}

theorem source_ends {P : State → Prop} (hs : SameModes s₀ s) {op : BitVec wa → State → Except Stop State}
    (hop : ∀ x t, SameModes s₀ t → Ends s₀ (fun u => P (u.advance len)) (op x t)) :
    Ends s₀ P (source fa wa len a s op) :=
  (readGen_ends hs _ _ _ _).bind fun _ h₁ => (hop _ _ h₁).bind fun _ h₂ => h₂

theorem sources_ends (hs : SameModes s₀ s) {op : BitVec wa → BitVec wb → State → Except Stop State}
    (hop : ∀ x y t, SameModes s₀ t → Ends s₀ (SameModes s₀) (op x y t)) :
    Ends s₀ (Completed s₀) (sources fa fb wa wb len a b s op) :=
  (readGen_ends hs _ _ _ _).bind fun _ h₁ => (readGen_ends h₁ _ _ _ _).bind fun _ h₂ =>
    (hop _ _ _ h₂).bind fun _ h₃ => h₃.advance len

theorem store_ends {op : State → Result wb} (hop : SameModes s₀ (op s).state) :
    Ends s₀ (Completed s₀) (store fb wb len b s op) :=
  (writeLoc_restarts ..).then fun _ => deliver_ends hop _ _

theorem unary_ends (hs : SameModes s₀ s) {op : BitVec wa → State → Except Stop (Result wb)}
    (hop : ∀ x t, SameModes s₀ t → ResultEnds s₀ (op x t)) :
    Ends s₀ (Completed s₀) (unary fa fb wa wb len a b s op) :=
  (readGen_ends hs _ _ _ _).bind fun _ h₁ => (writeLoc_restarts ..).then fun _ =>
    (hop _ _ h₁).bind fun _ h₂ => deliver_ends h₂ _ _

theorem fromAddr_ends {op : Word → State → Result wb} (hop : ∀ ea, SameModes s₀ (op ea s).state) :
    Ends s₀ (Completed s₀) (fromAddr wb len a b s op) :=
  (genAddr_restarts ..).then fun _ => (writeLoc_restarts ..).then fun _ => deliver_ends (hop _) _ _

theorem modify_ends (hs : SameModes s₀ s) {op : BitVec wb → State → Except Stop (Result wb)}
    (hop : ∀ y t, SameModes s₀ t → ResultEnds s₀ (op y t)) :
    Ends s₀ (Completed s₀) (modify fb wb len b s op) :=
  (rmwLoc_restarts ..).then fun _ => (readAt_ends hs _ _).bind fun _ h₁ =>
    (hop _ _ h₁).bind fun _ h₂ => deliver_ends h₂ _ _

theorem binary_ends (hs : SameModes s₀ s)
    {op : BitVec wa → BitVec wb → State → Except Stop (Result wb)}
    (hop : ∀ x y t, SameModes s₀ t → ResultEnds s₀ (op x y t)) :
    Ends s₀ (Completed s₀) (binary fa fb wa wb len a b s op) :=
  (readGen_ends hs _ _ _ _).bind fun _ h₁ => (rmwLoc_restarts ..).then fun _ =>
    (readAt_ends h₁ _ _).bind fun _ h₂ => (hop _ _ _ h₂).bind fun _ h₃ => deliver_ends h₃ _ _

end

end Sys2Proof.Machine
end

section
/-! How the meanings of the instructions end. -/

namespace Sys2Proof.Machine

/-! ## Returns from exceptions -/

theorem returnFromException_restarts (s : State) (extra : Word) :
    Restarts (returnFromException s extra) := by
  refine (read_restarts ..).bind fun t => (read_restarts ..).bind fun m =>
    (read_restarts ..).bind fun p => ?_
  split
  · trivial
  · exact (read_restarts ..).bind fun _ => trivial

theorem returnFromException_boundary {s t : State} {extra : Word}
    (h : returnFromException s extra = .ok t) : t.boundary = .done := by
  obtain ⟨a, -, h⟩ := bind_eq_ok h
  obtain ⟨m, -, h⟩ := bind_eq_ok h
  obtain ⟨p, -, h⟩ := bind_eq_ok h
  split at h
  · cases h; rfl
  · obtain ⟨sb, -, h⟩ := bind_eq_ok h
    cases h; rfl

/-! ## Integer, logical and packed decimal instructions -/

section
variable {s₀ s : State} (hs : SameModes s₀ s) (w len : Nat) (a b : Gen)
include hs

theorem arithResult_sameModes {w : Nat} (r : Arith w) : SameModes s₀ (arithResult r s).state :=
  (hs.setC _).setF _

theorem readLowHalf_ends (l : Loc) : Ends s₀ (fun p => SameModes s₀ p.2) (readLowHalf w l s) := by
  unfold readLowHalf
  split
  · split <;> exact hs
  · exact readAt_ends hs w _

theorem meiI_ends : Ends s₀ (Completed s₀) (meiI w len a b s) :=
  (readGen_ends hs _ _ _ _).bind fun _ h₁ => (rmwLoc_restarts ..).then fun l =>
    (readLowHalf_ends h₁ w l).bind fun _ h₂ => deliver_ends h₂ _ _

theorem signedDivision_ends (f : Int → Int → Int) (o : Bool) :
    Ends s₀ (Completed s₀) (signedDivision w len a b s f o) :=
  binary_ends hs fun x y t ht => by split; exacts [trivial, ht]

theorem deiI_ends : Ends s₀ (Completed s₀) (deiI w len a b s) :=
  binary_ends hs fun x y t ht => by
    split
    · trivial
    · dsimp only; split <;> exact ht

theorem logical_ends (f : BitVec w → BitVec w → BitVec w) :
    Ends s₀ (Completed s₀) (logical w len a b s f) :=
  binary_ends hs fun _ _ _ ht => ht

theorem shift_ends (f : BitVec w → Nat → BitVec w × Bool) (g : BitVec w → Nat → BitVec w) :
    Ends s₀ (Completed s₀) (shift w len a b s f g) :=
  binary_ends hs fun c y t ht => by
    split
    · exact ht
    · split <;> exact ht

theorem packed_ends (f : Nat → Nat → Nat → Nat × Bool) :
    Ends s₀ (Completed s₀) (packed w len a b s f) :=
  binary_ends hs fun x y t ht => by
    dsimp only
    split
    · exact (ht.setC _).setF _
    · exact ((ht.registers (s := t)).setC _).setF _

/-! ## Bit and bit-field instructions -/

theorem bitOp_ends (change : Option (Bool → Bool)) :
    Ends s₀ (Completed s₀) (bitOp w len a b s change) := by
  refine (readGen_ends hs _ _ _ _).bind fun x h₁ => (bitBase_restarts ..).then fun base => ?_
  cases base with
  | reg r =>
    dsimp only
    split
    · cases change <;> exact (h₁.registers.setF _).advance _
    · cases change <;> exact (h₁.registers.setF _).advance _
  | mem ea =>
    cases change with
    | none => exact (read_restarts ..).then fun _ => (h₁.setF _).advance _
    | some f =>
      exact (read_restarts ..).then fun _ => (write_ends h₁ _ _ _ _).bind fun _ h₂ =>
        (h₂.setF _).advance _

theorem ffsI_ends : Ends s₀ (Completed s₀) (ffsI w len a b s) :=
  binary_ends hs fun x y t ht => by
    dsimp only
    split
    · exact ht.registers.setF _
    · split <;> exact ht.setF _

theorem deliverField_ends (spi : Word) (b : Gen) (d : Word) (k n : Int) :
    Ends s₀ (Completed s₀) (deliverField w len spi b s d k n) := by
  refine (writeLoc_restarts ..).then fun l => ?_
  split
  · exact deliver_ends hs _ _
  · exact deliver_ends hs.registers _ _

theorem extField_ends (off n : Int) : Ends s₀ (Completed s₀) (extField w len off n a b s) := by
  refine (bitBase_restarts ..).then fun base => ?_
  cases base with
  | reg r => exact deliverField_ends hs w len _ _ _ _ _
  | mem ea => exact (read_restarts ..).then fun _ => deliverField_ends hs w len _ _ _ _ _

theorem insField_ends (off n : Int) : Ends s₀ (Completed s₀) (insField w len off n a b s) := by
  refine (readGen_ends hs _ _ _ _).bind fun x h₁ => (bitBase_restarts ..).then fun base => ?_
  cases base with
  | reg r => dsimp only; split <;> exact h₁.registers.advance _
  | mem ea =>
    refine (read_restarts ..).then fun d => ?_
    split
    · exact (write_ends h₁ _ _ _ _).bind fun _ h₂ => h₂.advance _
    · exact (write_ends h₁.registers _ _ _ _).bind fun _ h₂ => h₂.advance _

/-! ## Processor control -/

theorem branchIf_ends (c : Cond) (d : Disp) : Ends s₀ (Completed s₀) (branchIf c len d s) := by
  unfold branchIf; split; exacts [hs.jump _, hs.advance _]

theorem jumpTo_ends : Ends s₀ (Completed s₀) (jumpTo a s) :=
  (genAddr_restarts ..).then fun _ => hs.jump _

theorem caseI_ends : Ends s₀ (Completed s₀) (caseI w a s) :=
  (readGen_ends hs _ _ _ _).bind fun _ h₁ => h₁.jump _

theorem acbI_ends (q : BitVec 4) (d : Disp) : Ends s₀ (Completed s₀) (acbI w len q a d s) :=
  (rmwLoc_restarts ..).then fun l => (readAt_ends hs _ l).bind fun _ h₁ =>
    (writeAt_ends h₁ l _).bind fun t h₂ => by
      split
      · exact ovfTrap_advance_ends h₂ _ _
      · exact ovfTrap_ends (s := t.jump _) h₂ done_ne_trapped _

theorem bsr_ends (d : Disp) : Ends s₀ (Completed s₀) (bsr len d s) :=
  (push_ends hs _).bind fun _ h₁ => h₁.jump _

theorem jsr_ends : Ends s₀ (Completed s₀) (jsr len a s) :=
  (genAddr_restarts ..).then fun _ => (push_ends hs _).bind fun _ h₁ => h₁.jump _

theorem ret_ends (d : Disp) : Ends s₀ (Completed s₀) (ret d s) :=
  (read_restarts ..).then fun _ => (hs.setSp _).jump _

theorem callExternal_ends (d : Word) : Ends s₀ (Completed s₀) (callExternal len d s) :=
  (read_restarts ..).then fun _ => (read_restarts ..).then fun _ =>
    (push_ends hs.registers _).bind fun _ h₁ => (push_ends h₁ _).bind fun _ h₂ => ⟨done_ne_trapped, h₂.flagU⟩

theorem cxp_ends (d : Disp) : Ends s₀ (Completed s₀) (cxp len d s) :=
  (read_restarts ..).then fun _ => (read_restarts ..).then fun _ => callExternal_ends hs _ _

theorem cxpd_ends : Ends s₀ (Completed s₀) (cxpd len a s) :=
  (genAddr_restarts ..).then fun _ => (read_restarts ..).then fun _ => callExternal_ends hs _ _

theorem rxp_ends (d : Disp) : Ends s₀ (Completed s₀) (rxp d s) :=
  (read_restarts ..).then fun _ => (read_restarts ..).then fun _ => (read_restarts ..).then fun _ =>
    ⟨done_ne_trapped, (hs.setSp _).flagU⟩

theorem flagTrap_ends : Ends s₀ (Completed s₀) (flagTrap s) := by
  unfold flagTrap; split; exacts [trivial, hs.advance _]

/-! ## Memory management -/

theorem lmrI_ends (r : MmuReg) : Ends s₀ (Completed s₀) (lmrI len r a s) :=
  (needMmu_restarts _).then fun _ => source_ends hs fun x t ht => by
    cases r <;> exact ⟨done_ne_trapped, ht.flagU⟩

theorem smrI_ends (r : MmuReg) : Ends s₀ (Completed s₀) (smrI len r a s) :=
  (needMmu_restarts _).then fun _ => store_ends (by cases r <;> exact hs)

theorem validateI_ends (k : Access) : Ends s₀ (Completed s₀) (validateI k len a s) := by
  refine (needMmu_restarts _).then fun _ => (genAddr_restarts ..).then fun ea => ?_
  cases s.validate k ea with
  | abort => trivial
  | _ => exact (hs.setF _).advance _

theorem moveSpace_ends (u : Bool) : Ends s₀ (Completed s₀) (moveSpace w len u a b s) :=
  (privileged_restarts _).then fun _ => (genAddr_restarts ..).then fun _ =>
    (genAddr_restarts ..).then fun _ => (read_restarts ..).then fun _ =>
      (write_ends hs _ _ _ _).bind fun _ h₁ => h₁.advance _

/-! ## Processor service -/

theorem pushList_ends (l : BitVec 8) (k : Nat) : Ends s₀ (SameModes s₀) (pushList l k s) := by
  induction k generalizing s with
  | zero => exact hs
  | succ k ih =>
    unfold pushList
    split
    · exact (push_ends hs _).bind fun _ h₁ => ih h₁
    · exact ih hs

theorem popList_ends (l : BitVec 8) (k : Nat) : Ends s₀ (SameModes s₀) (popList l k s) := by
  induction k generalizing s with
  | zero => exact hs
  | succ k ih =>
    unfold popList
    split
    · exact (pop_ends hs 32).bind fun _ h₁ => ih h₁.registers
    · exact ih hs

theorem save_ends (l : BitVec 8) : Ends s₀ (Completed s₀) (save len l s) :=
  (pushList_ends hs l 8).bind fun _ h₁ => h₁.advance _

theorem restore_ends (l : BitVec 8) : Ends s₀ (Completed s₀) (restore len l s) :=
  (popList_ends hs l 8).bind fun _ h₁ => h₁.advance _

theorem enter_ends (l : BitVec 8) (d : Disp) : Ends s₀ (Completed s₀) (enter len l d s) :=
  (push_ends hs _).bind fun t h₁ =>
    have h₂ : SameModes s₀ { t with fp := t.sp } := h₁
    (pushList_ends (h₂.setSp _) l 8).bind fun _ h₃ => h₃.advance _

theorem exit_ends (l : BitVec 8) : Ends s₀ (Completed s₀) (exit len l s) :=
  (popList_ends hs l 8).bind fun _ h₁ => (pop_ends (h₁.setSp _) 32).bind fun _ h₂ =>
    h₂.registers.advance _

/-- Of the registers that LPRi loads, only PSR as a whole holds U (R431). -/
theorem loadProc_flagU {w : Nat} {r : ProcReg} (hr : r = .psr → w = 8) (v : BitVec w) :
    (loadProc s r v).flagU = s₀.flagU := by
  cases r with
  | upsr => exact (setUpsr_flagU s _).trans hs.flagU
  | psr => rw [loadProc, if_pos (hr rfl), setUpsr_flagU, hs.flagU]
  | sp => exact (hs.setSp _).flagU
  | _ => exact hs.flagU

theorem lprI_ends {r : ProcReg} (hr : r = .psr → w = 8) :
    Ends s₀ (Completed s₀) (lprI w len r a s) :=
  (procCheck_restarts ..).then fun _ => source_ends hs fun _ _ ht =>
    ⟨done_ne_trapped, loadProc_flagU ht hr _⟩

/-- A load of PSR completes (R429, R431). -/
theorem lprI_boundary (r : ProcReg) :
    Ends s₀ (fun t => t.boundary ≠ .trapped) (lprI w len r a s) :=
  (procCheck_restarts ..).then fun _ => source_ends hs fun _ _ _ => done_ne_trapped

theorem bispsrW_boundary : Ends s₀ (fun t => t.boundary ≠ .trapped) (bispsrW len a s) :=
  (privileged_restarts _).then fun _ => source_ends hs fun _ _ _ => done_ne_trapped

/-- BICPSRW begins in Supervisor mode, and sets no bit (R428). -/
theorem bicpsrW_ends : Ends s₀ (Completed s₀) (bicpsrW len a s) := by
  have hp : Ends s₀ (fun _ => s.flagU = false) (privileged s) := by
    unfold privileged
    split
    · trivial
    · next h => exact eq_false_of_ne_true h
  refine hp.bind fun _ hu => source_ends hs fun x t ht => ⟨done_ne_trapped, ?_⟩
  have htu : t.psr.getLsbD 8 = false := (ht.flagU.trans hs.flagU.symm).trans hu
  have hc : (t.setPsr (t.psr &&& ~~~x)).flagU = false := by
    rw [State.flagU, setPsr_psr, BitVec.getLsbD_and, BitVec.getLsbD_and, htu, Bool.false_and,
      Bool.false_and]
  exact hc.trans (hu.symm.trans hs.flagU)

theorem setcfg_ends (k : BitVec 4) : Ends s₀ (Completed s₀) (setcfg len k s) :=
  (privileged_restarts _).then fun _ => ⟨done_ne_trapped, hs.flagU⟩

/-! ## Strings, blocks and arrays -/

theorem terminate_completed (f : Bool) : Completed s₀ (terminate s f) := (hs.setF f).advance _

theorem limitReached_sameModes : SameModes s₀ (limitReached s).2 := by
  unfold limitReached
  split
  · exact hs
  · split <;> exact hs

theorem nextElement_completed (kind : StringKind) (back : Bool) :
    Completed s₀ (nextElement w kind back s) := by
  cases kind <;> exact ⟨element_ne_trapped, hs.flagU⟩

theorem elementTail_ends (kind : StringKind) (u : Until) (back : Bool) (x : BitVec w) :
    Ends s₀ (Completed s₀) (elementTail kind w u back x s) := by
  unfold elementTail
  split
  · exact terminate_completed hs _
  · cases kind with
    | movs => exact (write_ends hs _ _ _ _).bind fun _ h₁ => nextElement_completed h₁ _ _ _
    | cmps =>
      refine (read_restarts ..).then fun y => ?_
      have h₁ := hs.compareFlags x y
      dsimp only
      split; exacts [nextElement_completed h₁ _ _ _, terminate_completed h₁ _]
    | skps => exact nextElement_completed hs _ _ _

theorem stringElement_ends (kind : StringKind) (u : Until) (back t : Bool) :
    Ends s₀ (Completed s₀) (stringElement kind w u back t s) := by
  have h₀ : SameModes s₀ (if kind = .cmps then s.setZNL true false false else s) := by
    split; exacts [hs.setZNL _ _ _, hs]
  have h₁ := limitReached_sameModes h₀
  rw [stringElement_eq]
  dsimp only
  generalize limitReached (if kind = .cmps then s.setZNL true false false else s) = r at h₁
  split
  · exact terminate_completed h₁ _
  · refine (read_restarts ..).then fun x => ?_
    split
    · exact (read_restarts ..).then fun y => elementTail_ends h₁ _ _ _ _ _
    · exact elementTail_ends h₁ _ _ _ _ _

theorem blockCount_sameModes (n : Nat) (d : Disp) : SameModes s₀ (blockCount n d s).2 := by
  unfold blockCount
  dsimp only
  split <;> exact hs

theorem moveElements_ends (free : Bool) (k : Nat) (p q : Word) :
    Ends s₀ (SameModes s₀) (moveElements w free k p q s) := by
  induction k generalizing s p q with
  | zero => exact hs
  | succ k ih =>
    refine (read_restarts ..).then fun x => ?_
    cases free
    · exact (write_ends hs _ _ _ _).bind fun _ h₁ => ih h₁ _ _
    · exact (write_ends hs.registers _ _ _ _).bind fun _ h₁ => ih h₁ _ _

theorem movmI_ends (d : Disp) : Ends s₀ (Completed s₀) (movmI w len a b d s) :=
  (genAddr_restarts ..).then fun _ => (genAddr_restarts ..).then fun _ =>
    (moveElements_ends (blockCount_sameModes hs (w / 8) d) w _ _ _ _).bind fun _ h₁ => h₁.advance _

theorem compareElements_ends (k : Nat) (p q : Word) :
    Ends s₀ (SameModes s₀) (compareElements w k p q s) := by
  induction k generalizing p q with
  | zero => exact hs.setZNL _ _ _
  | succ k ih =>
    refine (read_restarts ..).then fun x => (read_restarts ..).then fun y => ?_
    split; exacts [ih _ _, hs.compareFlags _ _]

theorem cmpmI_ends (d : Disp) : Ends s₀ (Completed s₀) (cmpmI w len a b d s) :=
  (genAddr_restarts ..).then fun _ => (genAddr_restarts ..).then fun _ =>
    (compareElements_ends (blockCount_sameModes hs (w / 8) d) w _ _ _).bind fun _ h₁ => h₁.advance _

theorem checkI_ends (r : Reg) : Ends s₀ (Completed s₀) (checkI w len r a b s) := by
  refine (genAddr_restarts ..).then fun ea => (readGen_ends hs _ _ _ _).bind fun x h₁ =>
    (read_restarts ..).then fun up => (read_restarts ..).then fun lo => ?_
  dsimp only
  split
  · exact ovfTrap_advance_ends (h₁.registers.setF _) _ _
  · exact (h₁.registers.setF _).advance _

/-! ## Floating-point instructions -/

theorem fpBinary_ends {f : Word → BitVec w → BitVec w → Except Stop (BitVec w × Word)}
    (hf : ∀ c x y, Restarts (f c x y)) : Ends s₀ (Completed s₀) (fpBinary w len a b s f) :=
  (needFpu_restarts _).then fun _ => binary_ends hs fun _ _ _ ht =>
    (checkReserved_restarts ..).then fun _ => (hf _ _ _).then fun _ => ht

theorem divFp_ends : Ends s₀ (Completed s₀) (divFp w len a b s) :=
  fpBinary_ends hs w len a b fun c x y => by
    split
    · trivial
    · split; exacts [trivial, fpDeliver_restarts ..]

theorem scalbFp_ends : Ends s₀ (Completed s₀) (scalbFp w len a b s) :=
  fpBinary_ends hs w len a b fun c x y => by split; exacts [trivial, fpDeliver_restarts ..]

theorem fpAccumulate_ends {f : Word → BitVec w → BitVec w → BitVec w → Except Stop (BitVec w × Word)}
    (hf : ∀ c x y z, Restarts (f c x y z)) : Ends s₀ (Completed s₀) (fpAccumulate w len a b s f) :=
  (needFpu_restarts _).then fun _ => sources_ends hs fun _ _ _ ht =>
    (checkReserved_restarts ..).then fun _ => (hf _ _ _ _).then fun _ => ht

theorem fpUnary_ends {fb : File} {wa wb : Nat} {f : BitVec wa → State → Except Stop (Result wb)}
    (hf : ∀ x t, SameModes s₀ t → ResultEnds s₀ (f x t)) :
    Ends s₀ (Completed s₀) (fpUnary fb wa wb len a b s f) :=
  (needFpu_restarts _).then fun _ => unary_ends hs fun _ _ ht =>
    (checkReserved_restarts ..).then fun _ => hf _ _ ht

theorem logbFp_ends : Ends s₀ (Completed s₀) (logbFp w len a b s) :=
  fpUnary_ends hs len a b fun x t ht => by split <;> exact ht

theorem convertFp_ends (wa wb : Nat) : Ends s₀ (Completed s₀) (convertFp wa wb len a b s) :=
  fpUnary_ends hs len a b fun _ _ ht => (fpDeliver_restarts ..).then fun _ => ht

theorem movIF_ends (wi wf : Nat) : Ends s₀ (Completed s₀) (movIF wi wf len a b s) :=
  (needFpu_restarts _).then fun _ => unary_ends hs fun _ _ ht =>
    (fpDeliver_restarts ..).then fun _ => ht

theorem fpInteger_ends (m : ToInt) (wf wi : Nat) :
    Ends s₀ (Completed s₀) (fpInteger m wf wi len a b s) :=
  fpUnary_ends hs len a b fun _ _ ht => (fpToInt_restarts ..).then fun _ => ht

theorem cmpFp_ends : Ends s₀ (Completed s₀) (cmpFp w len a b s) :=
  (needFpu_restarts _).then fun _ => sources_ends hs fun _ _ _ ht =>
    (checkReserved_restarts ..).then fun _ => ht.registers.setZNL _ _ _

end

end Sys2Proof.Machine
end

section
/-! Every way an instruction can end. -/

namespace Sys2Proof.Machine

/-- The instructions that load U of PSR from what they read (R398, R400, R429, R431). -/
def loadsMode : Instr → Prop
  | .rett _ | .reti | .lprw .psr _ | .lprd .psr _ | .bispsrw _ => True
  | _ => False

/-- EVERY WAY AN INSTRUCTION CAN END that began in state `s`. -/
inductive Ending (i : Instr) (s : State) : Host.Outcome State Fault Refusal → Prop where
  /-- it completes; only a load of PSR changes the mode -/
  | completes {t : State} (hb : t.boundary ≠ .trapped) (hu : loadsMode i ∨ t.flagU = s.flagU) :
      Ending i s (.next t)
  /-- a trap is taken from the state in which it began, but for TEAR, FSR and the event of RETI -/
  | restarts (tear fsr : Word) (eoi v : Nat) (ret : Word) (clearI : Bool) (image : BitVec 16) :
      Ending i s (takeException { s with tear := tear, fsr := fsr, eoiEvents := eoi } v ret clearI image)
  /-- with V = 1, Trap(OVF) is taken from the state in which it completed -/
  | overflows {u : State} (hv : s.flagV = true) (hu : u.flagU = s.flagU) :
      Ending i s (takeException u Config.vecOvf u.pc false u.psr)
  /-- the Custom Slave executes it -/
  | slave (hi : isCustom i) (hc : s.cfgC = true) : Ending i s (.refused .customSlave)

theorem conclude_ending {i : Instr} {s : State} {P : State → Prop} {x : Except Stop State}
    (hP : ∀ t, P t → t.boundary ≠ .trapped ∧ (loadsMode i ∨ t.flagU = s.flagU)) (hx : Ends s P x) :
    Ending i s (conclude s x) := by
  cases x with
  | ok t => exact .completes (hP t hx).1 (hP t hx).2
  | error e =>
    cases e with
    | trap t => exact .restarts s.tear s.fsr s.eoiEvents ..
    | abort va => exact .restarts va s.fsr s.eoiEvents ..
    | fpu f => exact .restarts s.tear f s.eoiEvents ..
    | overflow u => exact .overflows hx.1 hx.2
    | custom | noFpu | undefined => exact hx.elim

/-- Where the frame is read PSR is loaded from it, and with it the mode (R398, R400). -/
theorem returnFromException_ends (s : State) (extra : Word) :
    Ends s (fun t => t.boundary ≠ .trapped) (returnFromException s extra) :=
  (returnFromException_restarts s extra).ends fun t h => by
    rw [returnFromException_boundary h]; exact done_ne_trapped

/-- RETI emits its event before it reads the frame, and an abort does not take it back (R401, D21). -/
theorem reti_ending (s : State) : Ending .reti s (reti s) := by
  unfold reti privileged
  cases s.flagU with
  | true => exact .restarts s.tear s.fsr s.eoiEvents ..
  | false =>
    change Ending _ s (conclude (endOfInterrupt s) (returnFromException (endOfInterrupt s) 0))
    cases hx : returnFromException (endOfInterrupt s) 0 with
    | ok t =>
      exact .completes (returnFromException_boundary hx ▸ done_ne_trapped) (.inl trivial)
    | error e =>
      have hr := returnFromException_restarts (endOfInterrupt s) 0
      rw [hx] at hr
      cases e with
      | trap t => exact .restarts s.tear s.fsr (s.eoiEvents + 1) ..
      | abort va => exact .restarts va s.fsr (s.eoiEvents + 1) ..
      | fpu f => exact .restarts s.tear f (s.eoiEvents + 1) ..
      | overflow | custom | noFpu | undefined => exact hr.elim

theorem customOp_ending {i : Instr} (hi : isCustom i) (s : State) : Ending i s (conclude s (customOp s)) := by
  unfold customOp
  split
  · next hc => exact .slave hi hc
  · exact .restarts s.tear s.fsr s.eoiEvents ..

/-- The instruction ends in one of these ways, in every state. -/
theorem exec_ending (i : Instr) (s : State) : Ending i s (exec i s) := by
  have hs : SameModes s s := rfl
  have ok {x : Except Stop State} (hx : Ends s (Completed s) x) : Ending i s (conclude s x) :=
    conclude_ending (fun _ h => ⟨h.1, .inr h.2⟩) hx
  have loads {x : Except Stop State} (hi : loadsMode i) (hx : Ends s (fun t => t.boundary ≠ .trapped) x) :
      Ending i s (conclude s x) := conclude_ending (fun _ h => ⟨h, .inl hi⟩) hx
  cases i with
  | beq | bne | bcs | bcc | bhi | bls | bgt | ble | bfs | bfc | blo | bhs | blt | bge =>
    exact ok (branchIf_ends hs ..)
  | br | dia => exact ok (x := .ok _) (hs.jump _)
  | nop | wait => exact ok (x := .ok _) ⟨done_ne_trapped, rfl⟩
  | bsr => exact ok (bsr_ends hs ..)
  | ret => exact ok (ret_ends hs ..)
  | cxp => exact ok (cxp_ends hs ..)
  | cxpd => exact ok (cxpd_ends hs ..)
  | rxp => exact ok (rxp_ends hs ..)
  | rett => exact loads trivial ((privileged_restarts s).then fun _ => returnFromException_ends s _)
  | reti => exact reti_ending s
  | jump => exact ok (jumpTo_ends hs ..)
  | jsr => exact ok (jsr_ends hs ..)
  | caseb | casew | cased => exact ok (caseI_ends hs ..)
  | acbb | acbw | acbd => exact ok (acbI_ends hs ..)
  | save => exact ok (save_ends hs ..)
  | restore => exact ok (restore_ends hs ..)
  | enter => exact ok (enter_ends hs ..)
  | exit => exact ok (exit_ends hs ..)
  | flag => exact ok (flagTrap_ends hs)
  | svc | bpt => exact ok (x := .error (.trap _)) trivial
  | custom16 =>
    change Ending _ s (conclude s (privileged s >>= fun _ => customOp s))
    unfold privileged
    split
    · exact ok (x := .error (.trap _)) trivial
    · exact customOp_ending (.inl rfl) s
  | custom36 => exact customOp_ending (.inr (.inl rfl)) s
  | customB6 => exact customOp_ending (.inr (.inr rfl)) s
  | rdval | wrval => exact ok (validateI_ends hs ..)
  | lmr => exact ok (lmrI_ends hs ..)
  | smr => exact ok (smrI_ends hs ..)
  | movsub | movsuw | movsud | movusb | movusw | movusd => exact ok (moveSpace_ends hs ..)
  | setcfg => exact ok (setcfg_ends hs ..)
  | cinv => exact ok ((privileged_restarts s).then fun _ => source_ends hs fun _ _ ht => ht.advance _)
  | addqb | addqw | addqd => exact ok (modify_ends hs fun _ _ ht => arithResult_sameModes ht _)
  | cmpqb | cmpqw | cmpqd => exact ok (source_ends hs fun _ _ ht => (ht.compareFlags _ _).advance _)
  | lprb => exact ok (lprI_ends hs _ _ _ fun _ => rfl)
  | lprw r | lprd r =>
    cases r with
    | psr => exact loads trivial (lprI_boundary hs ..)
    | _ => exact ok (lprI_ends hs _ _ _ nofun)
  | bispsrw => exact loads trivial (bispsrW_boundary hs ..)
  | bicpsrw => exact ok (bicpsrW_ends hs ..)
  | sprb | sprw | sprd => exact ok ((procCheck_restarts ..).then fun _ => store_ends hs)
  | seqb | sneb | scsb | sccb | shib | slsb | sgtb | sleb | sfsb | sfcb | slob | shsb | sltb
  | sgeb | seqw | snew | scsw | sccw | shiw | slsw | sgtw | slew | sfsw | sfcw | slow | shsw
  | sltw | sgew | seqd | sned | scsd | sccd | shid | slsd | sgtd | sled | sfsd | sfcd | slod
  | shsd | sltd | sged | movqb | movqw | movqd => exact ok (store_ends hs)
  | bicpsrb | bispsrb =>
    exact ok (source_ends hs fun _ _ ht => ⟨done_ne_trapped, (setUpsr_flagU _ _).trans ht.flagU⟩)
  | adjspb | adjspw | adjspd => exact ok (source_ends hs fun _ _ ht => (ht.setSp _).advance _)
  | addb | addw | addd | subb | subw | subd | addcb | addcw | addcd | subcb | subcw | subcd =>
    exact ok (binary_ends hs fun _ _ _ ht => arithResult_sameModes ht _)
  | negb | negw | negd => exact ok (unary_ends hs fun _ _ ht => arithResult_sameModes ht _)
  | absb | absw | absd => exact ok (unary_ends hs fun _ _ ht => ht.setF _)
  | mulb | mulw | muld => exact ok (binary_ends hs fun _ _ _ ht => ht)
  | bicb | bicw | bicd | orb | orw | ord | andb | andw | andd | xorb | xorw | xord =>
    exact ok (logical_ends hs ..)
  | movb | movw | movd | movxbw | movxbd | movxwd | movzbw | movzbd | movzwd | comb | comw | comd
  | notb | notw | notd => exact ok (unary_ends hs fun _ _ ht => ht)
  | cmpb | cmpw | cmpd => exact ok (sources_ends hs fun _ _ _ ht => ht.compareFlags _ _)
  | meib | meiw | meid => exact ok (meiI_ends hs ..)
  | deib | deiw | deid => exact ok (deiI_ends hs ..)
  | quob | quow | quod | remb | remw | remd | modb | modw | modd | divb | divw | divd =>
    exact ok (signedDivision_ends hs ..)
  | rotb | rotw | rotd | ashb | ashw | ashd | lshb | lshw | lshd => exact ok (shift_ends hs ..)
  | subpb | subpw | subpd | addpb | addpw | addpd => exact ok (packed_ends hs ..)
  | addr | cvtp => exact ok (fromAddr_ends fun _ => hs)
  | tbitb | tbitw | tbitd | cbitb | cbitw | cbitd | cbitib | cbitiw | cbitid | sbitb | sbitw
  | sbitd | sbitib | sbitiw | sbitid | ibitb | ibitw | ibitd => exact ok (bitOp_ends hs ..)
  | inssb | inssw | inssd | insb | insw | insd => exact ok (insField_ends hs ..)
  | extsb | extsw | extsd | extb | extw | extd => exact ok (extField_ends hs ..)
  | ffsb | ffsw | ffsd => exact ok (ffsI_ends hs ..)
  | movsb | movsw | movsd | movst | cmpsb | cmpsw | cmpsd | cmpst | skpsb | skpsw | skpsd
  | skpst => exact ok (stringElement_ends hs ..)
  | movmb | movmw | movmd => exact ok (movmI_ends hs ..)
  | cmpmb | cmpmw | cmpmd => exact ok (cmpmI_ends hs ..)
  | checkb | checkw | checkd => exact ok (checkI_ends hs ..)
  | indexb | indexw | indexd => exact ok (sources_ends hs fun _ _ _ ht => ht.registers)
  | lfsr =>
    exact ok ((needFpu_restarts s).then fun _ => source_ends hs fun _ _ ht => ht.registers.advance _)
  | sfsr => exact ok ((needFpu_restarts s).then fun _ => store_ends hs)
  | illegalFp0011 | illegalFp1001 => exact ok ((needFpu_restarts s).then fun _ => trivial)
  | movbf | movwf | movdf | movbl | movwl | movdl => exact ok (movIF_ends hs ..)
  | movf | movl => exact ok ((needFpu_restarts s).then fun _ => unary_ends hs fun _ _ ht => ht)
  | movlf | movfl => exact ok (convertFp_ends hs ..)
  | roundfb | roundfw | roundfd | roundlb | roundlw | roundld | truncfb | truncfw | truncfd
  | trunclb | trunclw | truncld | floorfb | floorfw | floorfd | floorlb | floorlw | floorld =>
    exact ok (fpInteger_ends hs ..)
  | negf | negl | absf | absl => exact ok (fpUnary_ends hs _ _ _ fun _ _ ht => ht)
  | addf | addl | subf | subl | mulf | mull =>
    exact ok (fpBinary_ends hs _ _ _ _ fun _ _ _ => fpDeliver_restarts ..)
  | divf | divl => exact ok (divFp_ends hs ..)
  | scalbf | scalbl => exact ok (scalbFp_ends hs ..)
  | dotf | dotl | polyf | polyl => exact ok (fpAccumulate_ends hs _ _ _ _ fun _ _ _ _ => mulAdd_restarts ..)
  | cmpf | cmpl => exact ok (cmpFp_ends hs ..)
  | logbf | logbl => exact ok (logbFp_ends hs ..)

end Sys2Proof.Machine
end

section
/-! No instruction is stuck (O11), the mode changes (O8), and what a trap leaves (O56): read off the ways
an instruction can end. -/

namespace Sys2Proof.Machine

/-! ## The mode -/

theorem enteredPsr_flagU (psr : BitVec 16) (clearI : Bool) : (enteredPsr psr clearI).getLsbD 8 = false := by
  cases clearI <;> simp [enteredPsr]

/-- An exception that is taken in Supervisor mode leaves it (R47, R513). -/
theorem takeException_supervisor {s t : State} {v : Nat} {ret : Word} {clearI : Bool}
    {image : BitVec 16} (hu : s.flagU = false) (h : takeException s v ret clearI image = .next t) :
    t.flagU = false := by
  rcases takeException_spec s v ret clearI image with ⟨u, he, h'⟩ | h' <;> rw [h'] at h <;> cases h
  · obtain ⟨m, pc, mod, sb, rfl, -⟩ := enterException_spec he
    exact enteredPsr_flagU s.psr clearI
  · exact hu

/-- An instruction that leads from Supervisor to User mode loads U (R580). -/
theorem loadsMode_of_enters_user {i : Instr} {s t : State} (hu : s.flagU = false)
    (h : exec i s = .next t) (ht : t.flagU = true) : loadsMode i := by
  have he := exec_ending i s
  generalize exec i s = o at h he
  have supervisor (hs : t.flagU = false) : loadsMode i := absurd ht (by simp [hs])
  cases he with
  | completes hb hm =>
    cases h
    exact hm.elim id fun e => supervisor (e.trans hu)
  | restarts tear fsr eoi =>
    exact supervisor
      (takeException_supervisor (s := { s with tear := tear, fsr := fsr, eoiEvents := eoi }) hu h)
  | overflows hv hm => exact supervisor (takeException_supervisor (hm.trans hu) h)
  | slave => cases h

/-- What follows an execution leaves its state, or takes an exception. -/
theorem acceptInterrupt_next {s t : State} {image : BitVec 16} {o : Host.Outcome State Fault Refusal}
    (h : acceptInterrupt s image o = .next t) : o = .next t ∨ t.boundary = .trapped := by
  unfold acceptInterrupt takeNmi takeInt at h
  split at h
  · split at h
    · cases h; exact .inr rfl
    · exact .inr (takeException_boundary h)
  · split at h
    · split at h
      · cases h; exact .inr rfl
      · exact .inr (takeException_boundary h)
    · exact .inl h

theorem atBoundary_next {s t : State} (h : atBoundary s = .next t) : t = s ∨ t.boundary = .trapped := by
  unfold atBoundary at h
  split at h
  · cases h; exact .inl rfl
  · exact (acceptInterrupt_next h).imp_left fun h => by cases h; rfl
  · refine (acceptInterrupt_next h).elim (fun h => ?_) .inr
    split at h
    · exact .inr (takeException_boundary h)
    · cases h; exact .inl rfl

theorem settle_stays_user {s t : State} {o : Host.Outcome State Fault Refusal}
    (ho : RunsInUserMode s o) (h : settle o = .next t) (hb : t.boundary ≠ .trapped) : t.flagU = true := by
  cases o with
  | next u =>
    obtain rfl := (atBoundary_next h).resolve_right hb
    exact (ho _ rfl hb).flagU
  | fault | refused => cases h

/-- In User mode a step that takes no exception stays there. -/
theorem step_stays_user {s t : State} (hu : s.flagU = true) (hr : s.resetRequest = false)
    (h : step s = .next t) (hb : t.boundary ≠ .trapped) : t.flagU = true := by
  have hl : (latchTrace s).flagU = true := (latchTrace_flagU s).trans hu
  unfold step at h
  rw [if_neg (by simp [hr])] at h
  split at h
  · cases (acceptInterrupt_next h).resolve_right hb
    exact hu
  · split at h
    · cases h
    · refine settle_stays_user (s := latchTrace s) ?_ h hb
      split
      · exact exec_userRun hl _
      · exact conclude_userRun trivial

/-! ## What a trap leaves -/

/-- What Trap(OVF) cannot be, with V = 0: an exception is taken from the state in which the instruction
began, but for TEAR, FSR and the event of RETI (R511). -/
theorem exec_trapped {i : Instr} {s t : State} (h : exec i s = .next t) (hb : t.boundary = .trapped)
    (hv : s.flagV = false) : ∃ tear fsr eoi v ret clearI image,
      takeException { s with tear := tear, fsr := fsr, eoiEvents := eoi } v ret clearI image = .next t := by
  have he := exec_ending i s
  generalize exec i s = o at h he
  cases he with
  | completes hb' => cases h; exact absurd hb hb'
  | restarts tear fsr eoi v ret clearI image => exact ⟨tear, fsr, eoi, v, ret, clearI, image, h⟩
  | overflows hv' => simp [hv] at hv'
  | slave => cases h

/-- An entry that ends outside EntryFault is one of which no access was refused (R513). -/
theorem enterException_of_not_entryFault {s t : State} {v : Nat} {ret : Word} {clearI : Bool}
    {image : BitVec 16} (h : takeException s v ret clearI image = .next t) (hf : t.entryFault = false) :
    enterException s v ret clearI image = .ok t := by
  rcases takeException_spec s v ret clearI image with ⟨u, he, h'⟩ | h' <;> rw [h'] at h <;> cases h
  · exact he
  · cases hf

end Sys2Proof.Machine

namespace Sys2Proof.Proofs

open Sys2Proof.Machine

/-- Settles O8: from User mode by `step_stays_user`, from Supervisor mode by the ways an instruction can
end. -/
theorem supervisorModeIsEnteredOnlyByException : Obligations.SupervisorModeIsEnteredOnlyByException := by
  unfold Obligations.SupervisorModeIsEnteredOnlyByException
  refine ⟨fun s t hu hr h ht => ?_, fun i s t hu h ht => ?_⟩
  · by_contra hb
    simp [step_stays_user hu hr h hb] at ht
  · have hi := loadsMode_of_enters_user hu h ht
    unfold loadsMode at hi
    split at hi
    · exact .inl ⟨_, rfl⟩
    · exact .inr (.inl rfl)
    · exact .inr (.inr (.inl ⟨_, rfl⟩))
    · exact .inr (.inr (.inr (.inl ⟨_, rfl⟩)))
    · exact .inr (.inr (.inr (.inr ⟨_, rfl⟩)))
    · exact hi.elim

/-- Settles O11: of the ways an instruction can end, only the Custom Slave's is no next state. -/
theorem everyInstructionGoesOn : Obligations.EveryInstructionGoesOn := by
  unfold Obligations.EveryInstructionGoesOn
  intro i s _ _ hc
  have he := exec_ending i s
  generalize exec i s = o at he
  cases he with
  | completes => exact ⟨_, rfl⟩
  | restarts | overflows => exact takeException_next ..
  | slave hi hs => exact absurd hs (by simp [hc.resolve_left (not_not.2 hi)])

/-- Settles O56: with V = 0 the trap is taken from the state in which the instruction began
(`exec_trapped`), and `enterException_spec` says what an entry changes. -/
theorem trappedInstructionLeavesNoTrace : Obligations.TrappedInstructionLeavesNoTrace := by
  unfold Obligations.TrappedInstructionLeavesNoTrace
  intro i s t h hb hv hf
  obtain ⟨tear, fsr, eoi, v, ret, clearI, image, ht⟩ := exec_trapped h hb hv
  obtain ⟨m, pc, mod, sb, rfl, -, hm, -⟩ := enterException_spec (enterException_of_not_entryFault ht hf)
  refine ⟨rfl, rfl, rfl, rfl, rfl, rfl, rfl, rfl, rfl, rfl, rfl, rfl, rfl, rfl, rfl, ?_, hm⟩
  cases clearI
  · exact .inl rfl
  · exact .inr rfl

end Sys2Proof.Proofs
end

section
/-! An access that translation refuses (R99, R505): a read and a write abort with the first refused address,
and so does what reads or writes there (O60). -/

namespace Sys2Proof.Machine

/-! ## The first refused address -/

theorem refuses_zero (s : State) (k : Access) (u : Bool) (va bad : Word) : ¬ s.refuses k u va 0 bad :=
  fun ⟨_, hj, _⟩ => absurd hj (Nat.not_lt_zero _)

/-- The first byte is refused, or it is not and the first refusal is among the rest. -/
theorem refuses_succ_iff {s : State} {k : Access} {u : Bool} {va bad : Word} {n : Nat} :
    s.refuses k u va (n + 1) bad ↔ (s.translate k u va = none ∧ bad = va) ∨
      (s.translate k u va ≠ none ∧ s.refuses k u (va + 1) n bad) := by
  constructor
  · rintro ⟨j, hj, rfl, hbad, hfirst⟩
    cases j with
    | zero => exact .inl ⟨by simpa using hbad, by simp⟩
    | succ j =>
      have h0 := hfirst 0 (by omega)
      refine .inr ⟨by simpa using h0, j, by omega, add_ofNat_succ va j, hbad, fun i hi => ?_⟩
      rw [← add_ofNat_succ]
      exact hfirst (i + 1) (by omega)
  · rintro (⟨h, rfl⟩ | ⟨h, j, hj, rfl, hbad, hfirst⟩)
    · exact ⟨0, by omega, by simp, h, fun i hi => absurd hi (Nat.not_lt_zero i)⟩
    · refine ⟨j + 1, by omega, (add_ofNat_succ va j).symm, hbad, fun i hi => ?_⟩
      cases i with
      | zero => simpa using h
      | succ i => rw [add_ofNat_succ]; exact hfirst i (by omega)

theorem refuses_first {s : State} {k : Access} {u : Bool} {va : Word} {n : Nat} (hn : 0 < n)
    (h : s.translate k u va = none) : s.refuses k u va n va := by
  obtain ⟨n, rfl⟩ := Nat.exists_eq_succ_of_ne_zero hn.ne'
  exact refuses_succ_iff.2 (.inl ⟨h, rfl⟩)

theorem refuses_congr {s t : State} {k : Access} {u : Bool} {va bad : Word} {n : Nat}
    (h : t.xlate = s.xlate) : t.refuses k u va n bad ↔ s.refuses k u va n bad := by
  simp only [State.refuses, translate_congr h]

/-! ## Reads and writes -/

theorem readBytes_abort_iff {s : State} {k : Access} {u : Bool} {va bad : Word} {n : Nat} :
    s.readBytes k u va n = .error (.abort bad) ↔ s.refuses k u va n bad := by
  induction n generalizing va with
  | zero => simp [State.readBytes, refuses_zero]
  | succ n ih =>
    rw [refuses_succ_iff, ← ih]
    simp only [State.readBytes, State.readByte]
    cases s.translate k u va with
    | none => simp [eq_comm]
    | some pa => cases s.readBytes k u (va + 1) n <;> simp

theorem writeBytes_abort_iff {s : State} {k : Access} {u : Bool} {va bad : Word} {n v : Nat} :
    State.writeBytes k u n va v s = .error (.abort bad) ↔ s.refuses k u va n bad := by
  induction n generalizing va v s with
  | zero => simp [State.writeBytes, refuses_zero]
  | succ n ih =>
    rw [refuses_succ_iff]
    simp only [State.writeBytes, State.writeByte]
    cases s.translate k u va with
    | none => simp [eq_comm]
    | some pa =>
      simp only [ih, reduceCtorEq, false_and, false_or, ne_eq, not_false_eq_true, true_and]
      exact refuses_congr rfl

theorem read_abort_iff {w : Nat} {s : State} {k : Access} {u : Bool} {va bad : Word} :
    s.read w va k u = .error (.abort bad) ↔ s.refuses k u va (w / 8) bad := by
  rw [← readBytes_abort_iff, State.read]
  cases s.readBytes k u va (w / 8) <;> simp

theorem write_abort_iff {w : Nat} {s : State} {k : Access} {u : Bool} {va bad : Word} {x : BitVec w} :
    s.write va x k u = .error (.abort bad) ↔ s.refuses k u va (w / 8) bad := writeBytes_abort_iff

/-! ## Operands -/

theorem bind_error {α β : Type} {x : Except Stop α} {e : Stop} (h : x = .error e)
    (f : α → Except Stop β) : x >>= f = .error e := by rw [h]; rfl

section
variable {s : State} {spi ea bad : Word} {w : Nat}

theorem readGen_inMemory_abort {g : Gen} (f : File) (hg : g.inMemory) (ha : genAddr spi s g = .ok ea)
    (h : s.refuses .read s.flagU ea (w / 8) bad) : readGen f w spi g s = .error (.abort bad) := by
  obtain ⟨hread, -, -⟩ := operand_eq_of_inMemory hg f w spi s
  rw [hread, ha]
  exact bind_error (read_abort_iff.2 h) _

theorem readGen_tos_abort (f : File) (h : s.refuses .read s.flagU s.sp (w / 8) bad) :
    readGen f w spi (.plain .tos) s = .error (.abort bad) := by
  change s.pop w = _
  rw [State.pop, read_abort_iff.2 h]

theorem push_abort (x : BitVec w)
    (h : s.refuses .write s.flagU (s.sp - BitVec.ofNat 32 (w / 8)) (w / 8) bad) :
    writeAt .push x s = .error (.abort bad) := by
  rw [writeAt_push, write_abort_iff, refuses_congr (setSp_xlate s _)]
  exact h

/-- A pointer that a mode reads (R153, R157). -/
theorem pointer_abort {α : Type} (h : s.refuses .read s.flagU ea 4 bad) (f : Word → Except Stop α) :
    (s.read 32 ea >>= f) = .error (.abort bad) := bind_error (read_abort_iff.2 h) f

theorem external_abort {lb : Word} {d₁ : Disp} (d₂ : Disp) (hl : s.read 32 (s.mod.setWidth 32 + 4) = .ok lb)
    (h : s.refuses .read s.flagU (lb + 4 * dispValue d₁) 4 bad) :
    modeAddr spi s (.ext d₁ d₂) = .error (.abort bad) := by
  change (s.read 32 (s.mod.setWidth 32 + 4) >>= fun lb =>
    s.read 32 (lb + 4 * dispValue d₁) >>= fun p => Except.ok (p + dispValue d₂)) = _
  rw [hl]
  exact pointer_abort h _

end

/-! ## Instructions -/

/-- Trap(ABT) is taken with TEAR the refused address, from the state in which the instruction began (R505,
R511). -/
theorem conclude_abort (s : State) (va : Word) : conclude s (.error (.abort va)) =
    takeException { s with tear := va } 2 s.pc true (s.psr &&& 0xFBFF) := rfl

section
variable {s : State} {a b : Gen} {e : Stop} {fa fb : File} {wa wb len : Nat}

theorem unary_source_error {op : BitVec wa → State → Except Stop (Result wb)}
    (h : readGen fa wa s.sp a s = .error e) : unary fa fb wa wb len a b s op = .error e := bind_error h _

theorem binary_source_error {op : BitVec wa → BitVec wb → State → Except Stop (Result wb)}
    (h : readGen fa wa s.sp a s = .error e) : binary fa fb wa wb len a b s op = .error e := bind_error h _

theorem sources_source_error {op : BitVec wa → BitVec wb → State → Except Stop State}
    (h : readGen fa wa s.sp a s = .error e) : sources fa fb wa wb len a b s op = .error e :=
  bind_error h _

theorem movI_destination_error {x : BitVec wa} {s₁ : State} {l : Loc}
    (hx : readGen .int wa s.sp a s = .ok (x, s₁)) (hl : writeLoc .int s.sp b s₁ = .ok l)
    (h : writeAt l x s₁ = .error e) : movI wa len a b s = .error e := by
  simp only [movI, unary, bind, Except.bind, hx, hl, deliver, h]

theorem binary_destination_error {op : BitVec wa → BitVec wb → State → Except Stop (Result wb)}
    {x : BitVec wa} {s₁ : State} {l : Loc} (hx : readGen fa wa s.sp a s = .ok (x, s₁))
    (hl : rmwLoc fb s.sp b s₁ = .ok l) (h : readAt wb l s₁ = .error e) :
    binary fa fb wa wb len a b s op = .error e := by
  simp only [binary, bind, Except.bind, hx, hl, h]

end

end Sys2Proof.Machine

namespace Sys2Proof.Proofs

open Sys2Proof.Machine

/-- Settles O60: reads and writes abort exactly where a byte is refused (`read_abort_iff`,
`write_abort_iff`), and an operand or an instruction passes the stop on. -/
theorem refusedAccessAborts : Obligations.RefusedAccessAborts := by
  unfold Obligations.RefusedAccessAborts
  refine ⟨fun s k u va bad w x => ⟨read_abort_iff, write_abort_iff⟩,
    fun f s spi ea bad m sc rx k w x => ⟨fun hr ht hi ha h => ?_, fun ha h => ?_, readGen_tos_abort f,
      fun h => ⟨bind_error (read_abort_iff.2 h) _, write_abort_iff.2 h⟩, push_abort x⟩,
    fun s spi bad lb d₁ d₂ => ⟨fun h => pointer_abort h _, fun h => pointer_abort h _,
      fun h => pointer_abort h _, fun h => pointer_abort h _, external_abort d₂⟩,
    fun s a b bad x s₁ l => ⟨fun h => ⟨?_, ?_, ?_⟩, fun hx hl h => ?_, fun hx hl h => ?_⟩⟩
  · exact readGen_inMemory_abort f (Mode.inMemory_of_ne hr ht hi) ha h
  · exact readGen_inMemory_abort f trivial (genAddr_indexed sc rx ha) h
  · exact (congrArg (conclude s) (unary_source_error h)).trans (conclude_abort s bad)
  · exact (congrArg (conclude s) (binary_source_error h)).trans (conclude_abort s bad)
  · exact (congrArg (conclude s) (sources_source_error h)).trans (conclude_abort s bad)
  · exact (congrArg (conclude s) (movI_destination_error hx hl h)).trans (conclude_abort s bad)
  · exact (congrArg (conclude s) (binary_destination_error hx hl h)).trans (conclude_abort s bad)

end Sys2Proof.Proofs
end

section
/-! What happens between instructions: interrupts and the trace trap at a boundary (O7), and the steps that
run no instruction (O54). -/

namespace Sys2Proof.Machine

/-! ## Accepting an interrupt -/

section
variable {s : State} (image : BitVec 16) (o : Host.Outcome State Fault Refusal)

theorem acceptInterrupt_of_nmi (hn : s.nmiPending = true) {b : Byte}
    (hb : s.readByte .read false 0xFFFFFF00 = .ok b) :
    acceptInterrupt s image o = takeException { s with nmiPending := false } 1 s.pc true image := by
  simp only [acceptInterrupt, hn, if_true, takeNmi, hb]
  rfl

theorem acceptInterrupt_of_nmi_refused (hn : s.nmiPending = true)
    (hx : s.translate .read false 0xFFFFFF00 = none) : acceptInterrupt s image o = .next s.failEntry := by
  simp only [acceptInterrupt, hn, if_true, takeNmi, State.readByte, hx]

theorem acceptInterrupt_of_request (hn : s.nmiPending = false) (hq : s.intRequest = true)
    (hI : s.flagI = true) : acceptInterrupt s image o = takeInt s image := by
  simp only [acceptInterrupt, hn, hq, hI, Bool.false_eq_true, if_false, Bool.and_self, if_true]

theorem takeInt_of_read {b : Byte} (hb : s.readByte .read false 0xFFFFFE00 = .ok b) :
    takeInt s image = takeException s (if s.cfgI then b.toNat else 0) s.pc true image := by
  simp only [takeInt, hb]
  rfl

theorem takeInt_of_refused (hx : s.translate .read false 0xFFFFFE00 = none) :
    takeInt s image = .next s.failEntry := by
  simp only [takeInt, State.readByte, hx]

/-- A maskable request that I does not enable is none. -/
theorem acceptInterrupt_of_disabled (hn : s.nmiPending = false)
    (h : s.intRequest = false ∨ s.flagI = false) : acceptInterrupt s image o = o := by
  rcases h with h | h <;> simp [acceptInterrupt, hn, h]

end

/-! ## The boundary -/

theorem settle_of_done {t : State} (hb : t.boundary = .done) : settle (.next t) =
    acceptInterrupt t t.psr
      (if t.flagP then takeException t 9 t.pc false (t.psr &&& 0xFBFF) else .next t) := by
  simp only [settle, atBoundary, hb]
  rfl

theorem settle_of_element {t : State} (hb : t.boundary = .element) :
    settle (.next t) = acceptInterrupt t (t.psr &&& 0xFBFF) (.next t) := by
  simp only [settle, atBoundary, hb]
  rfl

/-- At either boundary an interrupt whose acknowledge read is refused ends in EntryFault (R513). -/
theorem settle_accepts {t : State} (hb : t.boundary = .done ∨ t.boundary = .element) :
    ∃ image o, settle (.next t) = acceptInterrupt t image o :=
  hb.elim (fun h => ⟨_, _, settle_of_done h⟩) fun h => ⟨_, _, settle_of_element h⟩

/-! ## A refused entry -/

theorem takeException_of_error {s : State} {v : Nat} {ret : Word} {clearI : Bool} {image : BitVec 16}
    (h : ∀ t, enterException s v ret clearI image ≠ .ok t) :
    takeException s v ret clearI image = .next s.failEntry :=
  (takeException_spec s v ret clearI image).elim (fun ⟨t, ht, _⟩ => absurd ht (h t)) id

/-- An access whose first byte is refused does not answer. -/
theorem read_ne_ok {w : Nat} {s : State} {k : Access} {u : Bool} {va : Word} (hw : 0 < w / 8)
    (hx : s.translate k u va = none) (v : BitVec w) : s.read w va k u ≠ .ok v := by
  simp [read_abort_iff.2 (refuses_first hw hx)]

theorem write_ne_ok {w : Nat} {s s' t : State} {k : Access} {u : Bool} {va : Word} {v : BitVec w}
    (hw : 0 < w / 8) (hx : s.translate k u va = none) (hs : s'.xlate = s.xlate) :
    s'.write va v k u ≠ .ok t := by
  rw [← translate_congr hs] at hx
  simp [write_abort_iff.2 (refuses_first hw hx)]

/-- The frame is pushed where neither its first nor its last write begins at a refused byte. -/
theorem pushFrame_translates {s t : State} {ret : Word} {image : BitVec 16}
    (h : pushFrame s ret image = .ok t) : s.translate .write false (s.sp0 - 2) ≠ none ∧
      s.translate .write false (s.sp0 - 8) ≠ none := by
  obtain ⟨s₁, h₁, h⟩ := bind_eq_ok h
  refine ⟨fun hx => write_ne_ok (s' := { s with sp0 := s.sp0 - 2 }) (by decide) hx rfl h₁, fun hx => ?_⟩
  obtain ⟨⟨m₁, rfl⟩, -⟩ := write_spec h₁
  obtain ⟨s₂, h₂, h⟩ := bind_eq_ok h
  obtain ⟨⟨m₂, rfl⟩, -⟩ := write_spec h₂
  rw [show s.sp0 - 8 = s.sp0 - 2 - 2 - 4 by bv_omega] at hx
  refine write_ne_ok (s := s) (by decide) hx ?_ h
  rfl

/-- What an entry that answers has found translated: the dispatch entry and the frame (R510, R513). -/
theorem enterException_translates {s t : State} {v : Nat} {ret : Word} {clearI : Bool}
    {image : BitVec 16} (h : enterException s v ret clearI image = .ok t) :
    s.translate .read false (s.intbase + BitVec.ofNat 32 (4 * v)) ≠ none ∧
      s.translate .write false (s.sp0 - 2) ≠ none ∧ s.translate .write false (s.sp0 - 8) ≠ none := by
  obtain ⟨d, hd, h⟩ := bind_eq_ok h
  refine ⟨fun hx => read_ne_ok (by decide) hx d hd, ?_⟩
  split at h
  · obtain ⟨u, hu, -⟩ := bind_eq_ok h
    exact pushFrame_translates
      (s := { s with psr := enteredPsr s.psr clearI, waiting := false, boundary := .trapped }) hu
  · obtain ⟨sb, -, h⟩ := bind_eq_ok h
    obtain ⟨pb, -, h⟩ := bind_eq_ok h
    obtain ⟨u, hu, -⟩ := bind_eq_ok h
    exact pushFrame_translates
      (s := { s with psr := enteredPsr s.psr clearI, waiting := false, boundary := .trapped }) hu

/-! ## Bytes that are no instruction -/

/-- Where no instruction is fetched, a step is the trap that is taken instead. -/
theorem step_of_no_instruction {s : State} {e : Stop} (hr : s.resetRequest = false)
    (hw : s.waiting = false) (hf : s.entryFault = false) (h : fetchDecode (latchTrace s) = .error e) :
    step s = settle (conclude (latchTrace s) (.error e)) := by
  simp only [step, hr, hw, hf, Bool.false_eq_true, if_false, h]

theorem settle_trap (s : State) (k : Trap) :
    settle (conclude s (.error (.trap k))) = trapped s k.vector := settle_takeException ..

/-- A fetch does not depend on PSR.P. -/
theorem fetchBytes_latchTrace (s : State) :
    fetchBytes (latchTrace s) maxLength (latchTrace s).pc = fetchBytes s maxLength s.pc :=
  fetchBytes_congr (latchTrace_flagU s) rfl rfl _ _

section
variable {s : State} {e : DecodeError} (hr : s.resetRequest = false) (hw : s.waiting = false)
  (hf : s.entryFault = false)
include hr hw hf

theorem step_of_undefined (hd : decode (fetchBytes s maxLength s.pc).1 = .error e) (he : e ≠ .truncated) :
    step s = trapped (latchTrace s) 10 := by
  have hfd : fetchDecode (latchTrace s) = .error undefinedStop := by
    simp only [fetchDecode, fetchBytes_latchTrace, hd]
  rw [step_of_no_instruction hr hw hf hfd]
  exact settle_trap _ .und

theorem step_of_opcodeStop {k : Trap} (hd : decode (fetchBytes s maxLength s.pc).1 = .error .truncated)
    (hk : opcodeStop (latchTrace s) (fetchBytes s maxLength s.pc).1 = some (.trap k)) :
    step s = trapped (latchTrace s) k.vector := by
  have hfd : fetchDecode (latchTrace s) = .error (.trap k) := by
    simp only [fetchDecode, fetchBytes_latchTrace, hd, hk]
  rw [step_of_no_instruction hr hw hf hfd]
  exact settle_trap _ k

theorem step_of_refused_fetch {va : Word}
    (hd : decode (fetchBytes s maxLength s.pc).1 = .error .truncated)
    (hn : opcodeStop (latchTrace s) (fetchBytes s maxLength s.pc).1 = none)
    (hva : (fetchBytes s maxLength s.pc).2 = some va) : step s =
      takeException { latchTrace s with tear := va } 2 s.pc true ((latchTrace s).psr &&& 0xFBFF) := by
  have hfd : fetchDecode (latchTrace s) = .error (.abort va) := by
    simp only [fetchDecode, fetchBytes_latchTrace, hd, hn, hva]
  rw [step_of_no_instruction hr hw hf hfd]
  exact settle_takeException ..

end

/-- First byte FA, op 0100 of Format 6, and a displacement byte E0 (R180). -/
theorem decode_undefined (b : Byte) (bs : List Byte) : decode (0xFA :: bs) = .error .opcode ∧
    decode (0x4E :: 0x10 :: b :: bs) = .error .opcode ∧
    decode (0xEA :: 0xE0 :: bs) = .error .displacement := by
  refine ⟨rfl, ?_, rfl⟩
  have hop : (16 + 256 * b.toNat) / 4 % 16 = 4 := by omega
  change decodeFmt6 ((16 + 256 * b.toNat) / 4 % 16) _ _ _ bs = _
  rw [hop]
  rfl

/-- What a Reset leaves (R560, R561; log 49). -/
theorem step_of_reset {s : State} (hr : s.resetRequest = true) : step s = .next (resetEvent s) := by
  rw [step, if_pos hr]

end Sys2Proof.Machine

namespace Sys2Proof.Proofs

open Sys2Proof.Machine

/-- Settles O7: a boundary accepts an interrupt or goes on (`settle_of_done`). -/
theorem interruptsAndTraceAtTheBoundary : Obligations.InterruptsAndTraceAtTheBoundary := by
  unfold Obligations.InterruptsAndTraceAtTheBoundary
  intro t hb
  rw [settle_of_done hb]
  refine ⟨fun hn b => acceptInterrupt_of_nmi _ _ hn, fun hn hq hI b h => ?_, fun hn h hp => ?_,
    fun hn h hp => ?_⟩
  · rw [acceptInterrupt_of_request _ _ hn hq hI, takeInt_of_read _ h]
  · rw [acceptInterrupt_of_disabled _ _ hn h, if_pos hp]
  · rw [acceptInterrupt_of_disabled _ _ hn h, hp]
    rfl

/-- Settles O54: each kind of step by its own lemma. -/
theorem resetWaitingAndUndefinedEncodings : Obligations.ResetWaitingAndUndefinedEncodings := by
  unfold Obligations.ResetWaitingAndUndefinedEncodings
  refine ⟨fun s hr => ?_, fun s hr hw hf => ?_, fun s v ret clearI image hx => ?_, fun t hb => ?_,
    fun s e hr hw hf hd => ?_, fun b bs => ?_, fun t hb => ?_, fun s hw hr => ?_⟩
  · exact ⟨_, step_of_reset hr, rfl, rfl, BitVec.zero_and, BitVec.and_self, rfl, rfl, rfl, rfl, rfl, rfl, rfl, rfl⟩
  · simp only [step, hr, hw, hf, Bool.false_eq_true, if_false, if_true]
  · refine takeException_of_error fun t ht => ?_
    obtain ⟨hd, h2, h8⟩ := enterException_translates ht
    exact hx.elim hd fun hx => hx.elim h2 h8
  · obtain ⟨image, o, ho⟩ := settle_accepts hb
    rw [ho]
    refine ⟨acceptInterrupt_of_nmi_refused _ _, fun hn hq hI hx => ?_⟩
    rw [acceptInterrupt_of_request _ _ hn hq hI]
    exact takeInt_of_refused _ hx
  · refine ⟨step_of_undefined hr hw hf hd, fun he tr hk => ?_, fun he hn va hva => ?_⟩
    · exact step_of_opcodeStop hr hw hf (he ▸ hd) hk
    · exact step_of_refused_fetch hr hw hf (he ▸ hd) hn hva
  · obtain ⟨h₁, h₂, h₃⟩ := decode_undefined b bs
    exact ⟨_, _, _, h₁, by decide, h₂, by decide, h₃, by decide⟩
  · rw [settle_of_element hb]
    refine ⟨fun hn b => acceptInterrupt_of_nmi _ _ hn, fun hn hq hI b h => ?_,
      acceptInterrupt_of_disabled _ _⟩
    rw [acceptInterrupt_of_request _ _ hn hq hI, takeInt_of_read _ h]
  · rw [step_of_waiting hw hr, idle]
    refine ⟨fun hn b => acceptInterrupt_of_nmi _ _ hn, fun hn hq hI b h => ?_,
      acceptInterrupt_of_disabled _ _⟩
    rw [acceptInterrupt_of_request _ _ hn hq hI, takeInt_of_read _ h]

end Sys2Proof.Proofs
end

section
/-! The memory-management instructions: LMR and SMR (O46), RDVAL and WRVAL, MOVSUi and MOVUSi (O47). -/

namespace Sys2Proof.Machine

/-! ## The checks -/

/-- In Supervisor mode with CFG.M = 1 an instruction that memory management enables goes on (R451). -/
theorem needMmu_of_enabled {s : State} (hu : s.flagU = false) (hm : s.cfgM = true) :
    needMmu s = .ok () := by
  simp only [needMmu, hu, hm, Bool.false_eq_true, if_false, if_true]

theorem exec_of_enabled {i : Instr} {s : State} {x : Except Stop State} (hu : s.flagU = false)
    (hm : s.cfgM = true) (he : exec i s = conclude s (needMmu s >>= fun _ => x)) :
    exec i s = conclude s x := by
  rw [he, needMmu_of_enabled hu hm]
  rfl

/-! ## LMR and SMR -/

section
variable {s : State} {r : MmuReg} {g : Gen} (hs : s.accessible) (hu : s.flagU = false)
  (hm : s.cfgM = true)
include hs hu hm

theorem lmr_completes (hi : (Instr.lmr r g).wellFormed = true) :
    CompletesRead (.lmr r g) 32 g s fun x s => loadMmu s r x :=
  have he := exec_length (i := .lmr r g) (s := s) (lmrI · r g s) rfl
  completesRead_of hs (wellFormed_one hi rfl) (exec_of_enabled hu hm he) fun _ _ => rfl

theorem smr_completes (hi : (Instr.smr r g).wellFormed = true) :
    CompletesStore (.smr r g) 32 g s (storeMmu s r).1 (storeMmu s r).2 :=
  have he := exec_length (i := .smr r g) (s := s) (smrI · r g s) rfl
  have hx : (storeMmu s r).2.xlate = s.xlate := by cases r <;> rfl
  completesStore_of hs (wellFormed_one hi rfl) rfl (exec_of_enabled hu hm he) ⟨rfl, rfl, rfl, hx⟩

end

/-! ## RDVAL and WRVAL -/

/-- Where User mode's accesses are translated, Validate allows them (R459). -/
theorem validate_of_accessible {s : State} (hs : s.accessible) (k : Access) (va : Word) :
    s.validate k va = .allowed := by
  have ht := hs k true va
  unfold State.translate at ht
  unfold State.validate
  split
  · rfl
  · next r hr =>
    simp only [hr] at ht
    split at ht
    · next hv =>
      obtain ⟨hp, hv⟩ := hv
      simp [hp, hv]
    · exact absurd rfl ht

section
variable {i : Instr} {s : State} {k : Access} {g : Gen} (hu : s.flagU = false) (hm : s.cfgM = true)
  (he : exec i s = conclude s (validateI k i.length g s))
include hu hm he

/-- RDVAL and WRVAL put Validate's answer in F, or abort (R454, R455, R459). -/
theorem validate_outcomes {a : Word} (ha : genAddr s.sp s g = .ok a) :
    (s.validate k a = .allowed → exec i s = .next ((s.setF false).advance i.length)) ∧
    (s.validate k a = .denied → exec i s = .next ((s.setF true).advance i.length)) ∧
    (s.validate k a = .abort →
      exec i s = takeException { s with tear := a } 2 s.pc true (s.psr &&& 0xFBFF)) := by
  have hx := exec_of_enabled hu hm he
  simp only [ha, bind, Except.bind] at hx
  rw [hx]
  exact ⟨fun h => by rw [h]; rfl, fun h => by rw [h]; rfl, fun h => by rw [h]; exact conclude_abort s a⟩

theorem validate_completes {t : Attr} (ht : t.immSize = none) (hg : g.wellFormed t = true)
    (hs : s.accessible) : ∃ a, genAddr s.sp s g = .ok a ∧ s.validate k a = .allowed ∧
      exec i s = .next ((s.setF false).advance i.length) := by
  obtain ⟨a, ha⟩ := genAddr_ok hs s.sp ht hg
  have hv := validate_of_accessible hs k a
  obtain ⟨hallowed, -⟩ := validate_outcomes hu hm he ha
  exact ⟨a, ha, hv, hallowed hv⟩

end

/-! ## MOVSUi and MOVUSi -/

/-- A move between the spaces completes (R456, R457). -/
theorem moveSpace_completes {i : Instr} {s : State} {fromUser : Bool} {g h : Gen} (w : Nat)
    (hi : i.wellFormed = true) (hl : (layout i).operands = [(.addr, g), (.addr, h)])
    (hs : s.accessible) (hu : s.flagU = false)
    (he : exec i s = conclude s (moveSpace w i.length fromUser g h s)) :
    ∃ (p q : Word) (v : BitVec w) (t : State), genAddr s.sp s g = .ok p ∧ genAddr s.sp s h = .ok q ∧
      s.read w p .read fromUser = .ok v ∧ s.write q v .write (!fromUser) = .ok t ∧
      exec i s = .next (t.advance i.length) := by
  obtain ⟨hg, hh⟩ := wellFormed_two hi hl
  obtain ⟨p, hp⟩ := genAddr_ok hs s.sp rfl hg
  obtain ⟨q, hq⟩ := genAddr_ok hs s.sp rfl hh
  obtain ⟨v, hv⟩ := read_ok hs w p .read fromUser
  obtain ⟨t, ht⟩ := write_ok hs q v .write (!fromUser)
  refine ⟨p, q, v, t, hp, hq, hv, ht, exec_next (exec_of_supervisor hu he) ?_⟩
  simp only [hp, hq, hv, ht, bind, Except.bind]

end Sys2Proof.Machine

namespace Sys2Proof.Proofs

open Sys2Proof.Machine

/-- Settles O46: LMR and SMR are the shapes `source` and `store` behind their check. -/
theorem memoryManagementRegisters : Obligations.MemoryManagementRegisters := by
  unfold Obligations.MemoryManagementRegisters
  intro s g hs hu hm
  refine ⟨fun r hi => ?_, fun r hi => ?_⟩
  · have h := lmr_completes hs hu hm hi
    cases r <;> exact h
  · have h := smr_completes hs hu hm hi
    refine ⟨?_, ?_, ?_, ?_, ?_, ?_⟩
    case refine_6 => rintro (rfl | rfl) <;> exact h
    all_goals
      rintro rfl
      exact h

/-- Settles O47: Validate decides RDVAL and WRVAL, and the moves make one access in each space. -/
theorem validateAndMoveBetweenSpaces : Obligations.ValidateAndMoveBetweenSpaces := by
  unfold Obligations.ValidateAndMoveBetweenSpaces
  intro s g h hu
  have hrd := exec_length (i := .rdval g) (s := s) (rdvalI · g s) rfl
  have hwr := exec_length (i := .wrval g) (s := s) (wrvalI · g s) rfl
  exact ⟨fun hm _ ha => validate_outcomes hu hm hrd ha,
    fun hi hs hm => validate_completes hu hm hrd rfl (wellFormed_one hi rfl) hs,
    fun hm _ ha => validate_outcomes hu hm hwr ha,
    fun hi hs hm => validate_completes hu hm hwr rfl (wellFormed_one hi rfl) hs,
    fun hi hs => moveSpace_completes 8 hi rfl hs hu (exec_length (movsuI 8 · g h s) rfl),
    fun hi hs => moveSpace_completes 16 hi rfl hs hu (exec_length (movsuI 16 · g h s) rfl),
    fun hi hs => moveSpace_completes 32 hi rfl hs hu (exec_length (movsuI 32 · g h s) rfl),
    fun hi hs => moveSpace_completes 8 hi rfl hs hu (exec_length (movusI 8 · g h s) rfl),
    fun hi hs => moveSpace_completes 16 hi rfl hs hu (exec_length (movusI 16 · g h s) rfl),
    fun hi hs => moveSpace_completes 32 hi rfl hs hu (exec_length (movusI 32 · g h s) rfl)⟩

end Sys2Proof.Proofs
end

section
/-! Privilege and the enables of CFG are checked before anything else (O57). -/

namespace Sys2Proof.Machine

/-! ## An instruction behind a check -/

section
variable {i : Instr} {s : State} {check : Except Stop Unit} {rest : Unit → Except Stop State}

/-- Where the check that an instruction begins with fails, the instruction is the check's trap. -/
theorem exec_of_ill (hc : check = .error (.trap .ill)) (he : exec i s = conclude s (check >>= rest)) :
    exec i s = trapped s 4 := by
  rw [he, bind_error hc]
  exact conclude_trap s .ill

theorem exec_of_und (hc : check = .error (.trap .und)) (he : exec i s = conclude s (check >>= rest)) :
    exec i s = trapped s 10 := by
  rw [he, bind_error hc]
  exact conclude_trap s .und

end

theorem privileged_of_user {s : State} (hu : s.flagU = true) : privileged s = .error (.trap .ill) :=
  if_pos hu

theorem procCheck_of_user {s : State} {r : ProcReg} (hr : procPrivileged r = true) (hu : s.flagU = true) :
    procCheck r s = .error (.trap .ill) :=
  (if_pos hr).trans (privileged_of_user hu)

theorem needMmu_of_user {s : State} (hu : s.flagU = true) : needMmu s = .error (.trap .ill) := if_pos hu

theorem needMmu_of_disabled {s : State} (hu : s.flagU = false) (hm : s.cfgM = false) :
    needMmu s = .error (.trap .und) := by
  simp only [needMmu, hu, hm, Bool.false_eq_true, if_false]

theorem needFpu_of_disabled {s : State} (hf : s.cfgF = false) : needFpu s = .error (.trap .und) := by
  simp only [needFpu, hf, Bool.false_eq_true, if_false]

/-! ## Privileged instructions -/

theorem procPrivileged_iff (r : ProcReg) : procPrivileged r = true ↔ r = .intbase ∨ r = .psr ∨
    r = .usp ∨ r = .cfg ∨ r = .dcr ∨ r = .dsr ∨ r = .car ∨ r = .bpc := by
  cases r <;> decide

/-- Trap(ILL) (R503). -/
theorem exec_privileged_of_user {i : Instr} {s : State} (hi : isPrivileged i) (hu : s.flagU = true) :
    exec i s = trapped s 4 := by
  have ill := privileged_of_user hu
  cases i with
  | lprb r | lprw r | lprd r | sprb r | sprw r | sprd r =>
    exact exec_of_ill (procCheck_of_user ((procPrivileged_iff r).2 hi) hu) rfl
  | bicpsrw | bispsrw | setcfg | rett | cinv | movsub | movsuw | movsud | movusb | movusw | movusd
  | custom16 => exact exec_of_ill ill rfl
  | reti =>
    have he : exec .reti s = reti s := rfl
    rw [he, reti, ill]
    exact conclude_trap s .ill
  | lmr | smr | rdval | wrval => exact exec_of_ill (needMmu_of_user hu) rfl
  | _ => exact hi.elim

/-- Trap(UND) of an instruction of the memory-management unit (R451). -/
theorem exec_mmu_of_disabled {i : Instr} {s : State} (hi : needsMmu i) (hu : s.flagU = false)
    (hm : s.cfgM = false) : exec i s = trapped s 10 := by
  cases i with
  | lmr | smr | rdval | wrval => exact exec_of_und (needMmu_of_disabled hu hm) rfl
  | _ => exact hi.elim

/-! ## Floating-point instructions -/

/-! No layout puts a field into the six low bits of an instruction's number. -/

theorem layOne_word (w : Nat) (tail : List Tail) : (layOne w tail).word % 64 = w % 64 := rfl

theorem layQuick_word (w q : Nat) (t : Attr) (g : Gen) (tail : List Tail) :
    (layQuick w q t g tail).word % 64 = w % 64 := by
  simp only [layQuick]
  omega

theorem layGen_word (w : Nat) (t : Attr) (g : Gen) : (layGen w t g).word % 64 = w % 64 := by
  simp only [layGen]
  omega

theorem layTwo_word (w : Nat) (ta tb : Attr) (a b : Gen) :
    (layTwo w ta tb a b).word % 64 = w % 64 := by
  simp only [layTwo]
  omega

theorem layTwoLong_word (w : Nat) (ta tb : Attr) (a b : Gen) (tail : List Tail) :
    (layTwoLong w ta tb a b tail).word % 64 = w % 64 := by
  simp only [layTwoLong]
  omega

theorem layBare_word (w : Nat) : (layBare w).word % 64 = w % 64 := rfl

theorem layString_word (w : Nat) (u : Until) (bk : Bool) :
    (layBare (w + stringBits u bk)).word % 64 = w % 64 := by
  simp only [layBare, stringBits]
  omega

theorem layGenLong_word (w : Nat) (t : Attr) (g : Gen) : (layGenLong w t g).word % 64 = w % 64 := by
  simp only [layGenLong]
  omega

/-- The six low bits tell the floating-point instructions (R504). -/
theorem word_of_isFloat {i : Instr} (hi : isFloat i) : (layout i).word % 64 = 62 := by
  unfold isFloat firstByte at hi
  omega

/-- Trap(UND) of an instruction of the floating-point unit (R259, R504). -/
theorem exec_float_of_disabled {i : Instr} {s : State} (hi : isFloat i) (hf : s.cfgF = false) :
    exec i s = trapped s 10 := by
  have hw := word_of_isFloat hi
  have und := needFpu_of_disabled hf
  cases i with
  | movbf | movwf | movdf | movbl | movwl | movdl | lfsr | movlf | movfl | roundfb | roundfw | roundfd
  | roundlb | roundlw | roundld | truncfb | truncfw | truncfd | trunclb | trunclw | truncld | floorfb
  | floorfw | floorfd | floorlb | floorlw | floorld | sfsr | addf | addl | movf | movl | cmpf | cmpl
  | subf | subl | negf | negl | divf | divl | mulf | mull | absf | absl | polyf | polyl | dotf | dotl
  | scalbf | scalbl | logbf | logbl | illegalFp0011 | illegalFp1001 =>
    exact exec_of_und und rfl
  | beq | bne | bcs | bcc | bhi | bls | bgt | ble | bfs | bfc | blo | bhs | blt | bge | br | bsr |
  ret | cxp | rxp | rett | reti | save | restore | enter | exit | nop | wait | dia | flag | svc |
  bpt | custom16 | custom36 | customB6 =>
    exact absurd ((layOne_word ..).symm.trans hw) (by decide)
  | addqb | addqw | addqd | cmpqb | cmpqw | cmpqd | sprb | sprw | sprd | acbb | acbw | acbd | movqb
  | movqw | movqd | lprb | lprw | lprd =>
    exact absurd ((layQuick_word ..).symm.trans hw) (by decide)
  | seqb | sneb | scsb | sccb | shib | slsb | sgtb | sleb | sfsb | sfcb | slob | shsb | sltb | sgeb
  | seqw | snew | scsw | sccw | shiw | slsw | sgtw | slew | sfsw | sfcw | slow | shsw | sltw | sgew
  | seqd | sned | scsd | sccd | shid | slsd | sgtd | sled | sfsd | sfcd | slod | shsd | sltd | sged
  | cxpd | bicpsrb | bicpsrw | jump | bispsrb | bispsrw | adjspb | adjspw | adjspd | jsr | caseb |
  casew | cased =>
    exact absurd ((layGen_word ..).symm.trans hw) (by decide)
  | addb | addw | addd | cmpb | cmpw | cmpd | bicb | bicw | bicd | addcb | addcw | addcd | movb |
  movw | movd | orb | orw | ord | subb | subw | subd | addr | andb | andw | andd | subcb | subcw |
  subcd | tbitb | tbitw | tbitd | xorb | xorw | xord =>
    exact absurd ((layTwo_word ..).symm.trans hw) (by decide)
  | movsb | movsw | movsd | movst | cmpsb | cmpsw | cmpsd | cmpst | skpsb | skpsw | skpsd | skpst =>
    exact absurd ((layString_word ..).symm.trans hw) (by decide)
  | setcfg =>
    exact absurd ((layBare_word ..).symm.trans hw) (by omega)
  | rdval | wrval | lmr | smr | cinv =>
    exact absurd ((layGenLong_word ..).symm.trans hw) (by omega)
  | _ =>
    exact absurd ((layTwoLong_word ..).symm.trans hw) (by omega)

end Sys2Proof.Machine

namespace Sys2Proof.Proofs

open Sys2Proof.Machine

/-- Settles O57: the checks stand before everything else that an instruction does. -/
theorem privilegeAndEnables : Obligations.PrivilegeAndEnables := by
  unfold Obligations.PrivilegeAndEnables
  exact fun _ _ => ⟨exec_privileged_of_user, exec_float_of_disabled, exec_mmu_of_disabled⟩

end Sys2Proof.Proofs
end

section
/-! Exception entry and the returns from it (O40), and that one undoes the other (O55). -/

namespace Sys2Proof.Machine

/-! ## A value in memory -/

/-- The n bytes from an address on hold a number, the least significant first (R81). -/
def Holds (m : Memory) (va : Word) (n v : Nat) : Prop :=
  ∀ j, j < n → m.get (va + BitVec.ofNat 32 j).toNat = byteOf v j

/-- Outside n bytes two memories are the same. -/
def SameOutside (m m' : Memory) (va : Word) (n : Nat) : Prop :=
  ∀ pa, (∀ j, j < n → pa ≠ (va + BitVec.ofNat 32 j).toNat) → m'.get pa = m.get pa

/-- A value that is held is read, in either mode. -/
theorem read_of_holds {w : Nat} {s : State} {va : Word} {v : BitVec w} (hw : 8 * (w / 8) = w)
    (hx : s.xlate = []) (h : Holds s.mem va (w / 8) v.toNat) (k : Access) (u : Bool) :
    s.read w va k u = .ok v := by
  have hv : v.toNat < 256 ^ (w / 8) := by
    rw [show 256 = 2 ^ 8 from rfl, ← Nat.pow_mul, hw]
    exact v.isLt
  simp only [State.read, readBytes_of_get hx h, Nat.mod_eq_of_lt hv, BitVec.ofNat_toNat,
    BitVec.setWidth_eq]

/-- A write stores its value and nothing else. -/
theorem write_holds {w : Nat} {s : State} (hw : w / 8 < 2 ^ 32) (hx : s.xlate = [])
    (hm : s.mem.wf = true) (va : Word) (v : BitVec w) (u : Bool) :
    ∃ m, s.write va v .write u = .ok { s with mem := m } ∧ m.wf = true ∧
      Holds m va (w / 8) v.toNat ∧ SameOutside s.mem m va (w / 8) := by
  obtain ⟨t, ht⟩ := write_ok (accessible_of_xlate_nil s hx) va v .write u
  obtain ⟨⟨m, rfl⟩, -, hwf⟩ := write_spec ht
  exact ⟨m, ht, hwf hm, writeBytes_get hx hm hw ht, fun _ => writeBytes_frame hx ht⟩

/-- What is held elsewhere is held still. -/
theorem Holds.of_sameOutside {m m' : Memory} {va va' : Word} {n n' v : Nat} (h : Holds m va n v)
    (hs : SameOutside m m' va' n')
    (hd : ∀ i, i < n → ∀ j, j < n' → (va + BitVec.ofNat 32 i).toNat ≠ (va' + BitVec.ofNat 32 j).toNat) :
    Holds m' va n v :=
  fun i hi => (hs _ (hd i hi)).trans (h i hi)

/-! ## The frame -/

/-- Below `sp` a frame has been pushed (R510). -/
structure FramePushed (before after : Memory) (sp ret : Word) (mod image : BitVec 16) : Prop where
  ret : Holds after (sp - 8) 4 ret.toNat
  mod : Holds after (sp - 8 + 4) 2 mod.toNat
  image : Holds after (sp - 8 + 6) 2 image.toNat
  frame : SameOutside before after (sp - 8) 8

/-- The three writes of a frame lie side by side. -/
theorem framed_of_writes {m₀ m₁ m₂ m₃ : Memory} {sp ret : Word} {mod image : BitVec 16}
    (h₁ : Holds m₁ (sp - 2) 2 image.toNat) (h₂ : Holds m₂ (sp - 2 - 2) 2 mod.toNat)
    (h₃ : Holds m₃ (sp - 2 - 2 - 4) 4 ret.toNat) (s₁ : SameOutside m₀ m₁ (sp - 2) 2)
    (s₂ : SameOutside m₁ m₂ (sp - 2 - 2) 2) (s₃ : SameOutside m₂ m₃ (sp - 2 - 2 - 4) 4) :
    FramePushed m₀ m₃ sp ret mod image := by
  have hret : sp - 2 - 2 - 4 = sp - 8 := by bv_omega
  have hmod : sp - 2 - 2 = sp - 8 + 4 := by bv_omega
  have himage : sp - 2 = sp - 8 + 6 := by bv_omega
  rw [hret] at h₃ s₃
  rw [hmod] at h₂ s₂
  rw [himage] at h₁ s₁
  refine ⟨h₃, h₂.of_sameOutside s₃ ?_, (h₁.of_sameOutside s₂ ?_).of_sameOutside s₃ ?_,
    fun pa hpa => ?_⟩
  · intro i hi j hj; bv_omega
  · intro i hi j hj; bv_omega
  · intro i hi j hj; bv_omega
  · have part {va : Word} (k n : Nat) (hn : k + n ≤ 8) (hva : va = sp - 8 + BitVec.ofNat 32 k) (j : Nat)
        (hj : j < n) : pa ≠ (va + BitVec.ofNat 32 j).toNat := by
      rw [hva, BitVec.add_assoc, ← BitVec.ofNat_add]
      exact hpa (k + j) (by omega)
    calc m₃.get pa
        _ = m₂.get pa := s₃ pa (part 0 4 (by decide) (by bv_omega))
        _ = m₁.get pa := s₂ pa (part 4 2 (by decide) rfl)
        _ = m₀.get pa := s₁ pa (part 6 2 (by decide) rfl)

theorem bind_of_ok {α β : Type} {x : Except Stop α} {a : α} (h : x = .ok a)
    (f : α → Except Stop β) : x >>= f = f a := by rw [h]; rfl

theorem pushFrame_framed {s : State} (hx : s.xlate = []) (hm : s.mem.wf = true) (ret : Word)
    (image : BitVec 16) : ∃ m, pushFrame s ret image = .ok { s with sp0 := s.sp0 - 8, mem := m } ∧
      FramePushed s.mem m s.sp0 ret s.mod image := by
  obtain ⟨m₁, h₁, wf₁, v₁, f₁⟩ := write_holds (s := { s with sp0 := s.sp0 - 2 }) (by decide) hx hm
    (s.sp0 - 2) image false
  obtain ⟨m₂, h₂, wf₂, v₂, f₂⟩ := write_holds (s := { s with sp0 := s.sp0 - 2 - 2, mem := m₁ })
    (by decide) hx wf₁ (s.sp0 - 2 - 2) s.mod false
  obtain ⟨m₃, h₃, -, v₃, f₃⟩ := write_holds (s := { s with sp0 := s.sp0 - 2 - 2 - 4, mem := m₂ })
    (by decide) hx wf₂ (s.sp0 - 2 - 2 - 4) ret false
  refine ⟨m₃, ?_, framed_of_writes v₁ v₂ v₃ f₁ f₂ f₃⟩
  rw [show s.sp0 - 8 = s.sp0 - 2 - 2 - 4 by bv_omega]
  exact (bind_of_ok h₁ _).trans ((bind_of_ok h₂ _).trans h₃)

/-! ## Entry -/

/-- The state that an exception is entered in: PSR is cleared and the frame pushed, leaving memory `m`,
and PC, MOD and SB are loaded (R510, R512). -/
def State.entered (s : State) (clearI : Bool) (m : Memory) (pc : Word) (mod : BitVec 16) (sb : Word) :
    State :=
  { s with
    psr := enteredPsr s.psr clearI, waiting := false, boundary := .trapped, sp0 := s.sp0 - 8, mem := m
    mod := mod, sb := sb, pc := pc }

/-- Where the default `Translate` refuses no access of it, entry reads the dispatch entry `d` and its
module's descriptor, whose use Direct-Exception mode leaves out, and enters the service procedure. -/
theorem takeException_enters {s : State} (hx : s.xlate = []) (hm : s.mem.wf = true) (v : Nat)
    (ret : Word) (clearI : Bool) (image : BitVec 16) : ∃ d sb pb m,
      s.read 32 (s.intbase + BitVec.ofNat 32 (4 * v)) .read false = .ok d ∧
      s.read 32 ((d.setWidth 16).setWidth 32) .read false = .ok sb ∧
      s.read 32 ((d.setWidth 16).setWidth 32 + 8) .read false = .ok pb ∧
      FramePushed s.mem m s.sp0 ret s.mod image ∧
      takeException s v ret clearI image = .next (s.entered clearI m
        (if s.cfgDE then d else pb + d >>> 16) (if s.cfgDE then s.mod else d.setWidth 16)
        (if s.cfgDE then s.sb else sb)) := by
  have hs := accessible_of_xlate_nil s hx
  obtain ⟨d, hd⟩ := read_ok hs 32 (s.intbase + BitVec.ofNat 32 (4 * v)) .read false
  obtain ⟨sb, hsb⟩ := read_ok hs 32 ((d.setWidth 16).setWidth 32) .read false
  obtain ⟨pb, hpb⟩ := read_ok hs 32 ((d.setWidth 16).setWidth 32 + 8) .read false
  obtain ⟨m, hp, hf⟩ := pushFrame_framed
    (s := { s with psr := enteredPsr s.psr clearI, waiting := false, boundary := .trapped }) hx hm ret image
  refine ⟨d, sb, pb, m, hd, hsb, hpb, hf, ?_⟩
  have he : enterException s v ret clearI image = .ok (s.entered clearI m
      (if s.cfgDE then d else pb + d >>> 16) (if s.cfgDE then s.mod else d.setWidth 16)
      (if s.cfgDE then s.sb else sb)) := by
    refine (bind_of_ok hd _).trans ?_
    cases s.cfgDE with
    | true => exact bind_of_ok hp _
    | false =>
      refine (bind_of_ok (x := s.read 32 ((d.setWidth 16).setWidth 32) .read false) hsb _).trans
        ((bind_of_ok hpb _).trans ((bind_of_ok hp _).trans ?_))
      rw [extractHigh_setWidth]
      rfl
  simp only [takeException, he]

/-- The frame is read back where PC, MOD and the PSR image lie in it. -/
theorem frame_reads {t : State} {before : Memory} {sp ret : Word} {mod image : BitVec 16}
    (hf : FramePushed before t.mem sp ret mod image) (hx : t.xlate = []) (hsp : t.sp0 = sp - 8) :
    t.read 32 t.sp0 .read false = .ok ret ∧ t.read 16 (t.sp0 + 4) .read false = .ok mod ∧
      t.read 16 (t.sp0 + 6) .read false = .ok image := by
  rw [hsp]
  exact ⟨read_of_holds rfl hx hf.ret _ _, read_of_holds rfl hx hf.mod _ _,
    read_of_holds rfl hx hf.image _ _⟩

theorem enteredPsr_flagS (psr : BitVec 16) (clearI : Bool) : (enteredPsr psr clearI).getLsbD 9 = false := by
  cases clearI <;> simp [enteredPsr]

theorem enteredPsr_eq (psr : BitVec 16) (clearI : Bool) :
    enteredPsr psr clearI = psr &&& (if clearI then 0xF0FD else 0xF8FD) := by
  cases clearI <;> rfl

/-! ## Return -/

/-- What a return leaves (R398, R400): PC, PSR, MOD and SB are as the frame says; the stack pointer that
the old S selects rises by 8 and the one that the new S selects by `extra`; all else stays. -/
def Returned (s : State) (extra a : Word) (m p : BitVec 16) (sb : Word) (t : State) : Prop :=
  t.pc = a ∧ t.psr = p &&& 0x0FF7 ∧
    t.mod = (if s.cfgDE then s.mod else m) ∧ t.sb = (if s.cfgDE then s.sb else sb) ∧
    (if s.flagS then
      t.sp0 = s.sp0 + (if p.getLsbD 9 then 0 else extra) ∧
        t.sp1 = s.sp1 + 8 + (if p.getLsbD 9 then extra else 0)
    else t.sp0 = s.sp0 + 8 + (if p.getLsbD 9 then 0 else extra) ∧
        t.sp1 = s.sp1 + (if p.getLsbD 9 then extra else 0)) ∧
    t.eoiEvents = s.eoiEvents ∧ t.regs = s.regs ∧ t.fd = s.fd ∧ t.fp = s.fp ∧
    t.fsr = s.fsr ∧ t.intbase = s.intbase ∧ t.cfg = s.cfg ∧ t.waiting = s.waiting ∧ s.sameUnits t ∧
    t.mem = s.mem

/-- The frame from which a return restores the program. -/
def ReadsFrame (s : State) (a : Word) (m p : BitVec 16) (sb : Word) : Prop :=
  s.read 32 s.sp = .ok a ∧ s.read 16 (s.sp + 4) = .ok m ∧ s.read 16 (s.sp + 6) = .ok p ∧
    s.read 32 (m.setWidth 32) = .ok sb

theorem readsFrame_ok {s : State} (hs : s.accessible) : ∃ a m p sb, ReadsFrame s a m p sb := by
  obtain ⟨a, ha⟩ := read_ok hs 32 s.sp .read s.flagU
  obtain ⟨m, hm⟩ := read_ok hs 16 (s.sp + 4) .read s.flagU
  obtain ⟨p, hp⟩ := read_ok hs 16 (s.sp + 6) .read s.flagU
  obtain ⟨sb, hsb⟩ := read_ok hs 32 (m.setWidth 32) .read s.flagU
  exact ⟨a, m, p, sb, ha, hm, hp, hsb⟩

/-- The restored PSR selects the stack pointer that its S says: bit 9 is implemented. -/
theorem setPsr_flagS (s : State) (p : BitVec 16) : (s.setPsr p).flagS = p.getLsbD 9 := by
  simp [State.flagS, psrMask]

/-- The state in which a return has restored PSR and moved the stack pointers (R398, R400). -/
def State.restored (s : State) (p : BitVec 16) (extra : Word) : State :=
  ((s.setSp (s.sp + 8)).setPsr p).setSp (((s.setSp (s.sp + 8)).setPsr p).sp + extra)

theorem restored_stacks (s : State) (p : BitVec 16) (extra : Word) :
    if s.flagS then
      (s.restored p extra).sp0 = s.sp0 + (if p.getLsbD 9 then 0 else extra) ∧
        (s.restored p extra).sp1 = s.sp1 + 8 + (if p.getLsbD 9 then extra else 0)
    else (s.restored p extra).sp0 = s.sp0 + 8 + (if p.getLsbD 9 then 0 else extra) ∧
        (s.restored p extra).sp1 = s.sp1 + (if p.getLsbD 9 then extra else 0) := by
  simp only [State.restored, setSp_sp0, setSp_sp1, setPsr_flagS, setPsr_sp0, setPsr_sp1, State.sp]
  cases s.flagS <;> cases p.getLsbD 9 <;> simp

theorem restored_psr (s : State) (p : BitVec 16) (extra : Word) :
    (s.restored p extra).psr = p &&& 0x0FF7 := by
  simp [State.restored, psrMask]

theorem returnFromException_of_frame {s : State} {a sb : Word} {m p : BitVec 16} (hu : s.flagU = false)
    (h : ReadsFrame s a m p sb) (extra : Word) : returnFromException s extra = .ok (State.jump
      { s.restored p extra with
        mod := if s.cfgDE then s.mod else m, sb := if s.cfgDE then s.sb else sb } a) := by
  obtain ⟨ha, hm, hp, hsb⟩ := h
  rw [hu] at hsb
  refine (bind_of_ok ha _).trans ((bind_of_ok hm _).trans ((bind_of_ok hp _).trans ?_))
  cases s.cfgDE with
  | true => simp [State.restored, State.jump]
  | false => exact bind_of_ok hsb _

theorem returnFromException_returned {s : State} {a sb : Word} {m p : BitVec 16} (hu : s.flagU = false)
    (h : ReadsFrame s a m p sb) (extra : Word) :
    ∃ t, returnFromException s extra = .ok t ∧ Returned s extra a m p sb t := by
  refine ⟨_, returnFromException_of_frame hu h extra, rfl, restored_psr s p extra, rfl, rfl,
    restored_stacks s p extra, ?_⟩
  simp [State.sameUnits, State.restored]

theorem rett_returned {s : State} {a sb : Word} {m p : BitVec 16} (hu : s.flagU = false)
    (h : ReadsFrame s a m p sb) (d : Disp) :
    ∃ t, exec (.rett d) s = .next t ∧ Returned s (dispValue d) a m p sb t := by
  obtain ⟨t, ht, hret⟩ := returnFromException_returned hu h (dispValue d)
  exact ⟨t, exec_next (exec_of_supervisor hu rfl) ht, hret⟩

/-- RETT 0 in Direct-Exception mode, from a state in which an exception has been entered: the frame is
popped from SP0 (R398). -/
theorem rett_of_entered {s : State} {a : Word} {m p : BitVec 16} (hde : s.cfgDE = true)
    (hu : s.flagU = false) (hS : s.flagS = false) (hx : s.xlate = [])
    (hreads : s.read 32 s.sp0 .read false = .ok a ∧ s.read 16 (s.sp0 + 4) .read false = .ok m ∧
      s.read 16 (s.sp0 + 6) .read false = .ok p) :
    ∃ t, exec (.rett (.d7 0)) s = .next t ∧ t.pc = a ∧ t.psr = p &&& 0x0FF7 ∧ t.regs = s.regs ∧
      t.sp0 = s.sp0 + 8 ∧ t.sp1 = s.sp1 ∧ t.fp = s.fp ∧ t.sb = s.sb ∧ t.mod = s.mod ∧
      t.intbase = s.intbase ∧ t.cfg = s.cfg ∧ t.fd = s.fd ∧ t.fsr = s.fsr := by
  obtain ⟨sb, hsb⟩ := read_ok (accessible_of_xlate_nil s hx) 32 (m.setWidth 32) .read s.flagU
  have hsp : s.sp = s.sp0 := by simp [State.sp, hS]
  have hframe : ReadsFrame s a m p sb := by
    obtain ⟨ha, hm, hp⟩ := hreads
    refine ⟨?_, ?_, ?_, hsb⟩
    all_goals
      rw [hsp, hu]
      assumption
  obtain ⟨t, ht, hpc, hpsr, hmod, hsbt, hstacks, -, hregs, hfd, hfp, hfsr, hint, hcfg, -⟩ :=
    rett_returned hu hframe (.d7 0)
  rw [show dispValue (.d7 0) = 0 from rfl] at hstacks
  obtain ⟨hsp0, hsp1⟩ : t.sp0 = s.sp0 + 8 ∧ t.sp1 = s.sp1 := by simpa [hS] using hstacks
  exact ⟨t, ht, hpc, hpsr, hregs, hsp0, hsp1, hfp, hsbt.trans (if_pos hde), hmod.trans (if_pos hde), hint,
    hcfg, hfd, hfsr⟩

/-- RETI returns from the state in which its event has been emitted (R400, R401). -/
theorem reti_returned {s : State} {a sb : Word} {m p : BitVec 16} (hu : s.flagU = false)
    (h : ReadsFrame s a m p sb) : ∃ t, exec .reti s = .next t ∧
      Returned (endOfInterrupt s) 0 a m p sb t := by
  have hframe : ReadsFrame (endOfInterrupt s) a m p sb := by
    have hread (w : Nat) (va : Word) : (endOfInterrupt s).read w va = s.read w va :=
      read_congr (s := s) (t := endOfInterrupt s) rfl rfl rfl w va
    have hsp : (endOfInterrupt s).sp = s.sp := rfl
    simpa only [ReadsFrame, hread, hsp] using h
  obtain ⟨t, ht, hret⟩ := returnFromException_returned (s := endOfInterrupt s) hu hframe 0
  refine ⟨t, ?_, hret⟩
  have he : exec .reti s = reti s := rfl
  rw [he, reti, privileged_of_supervisor hu, ht]
  rfl

end Sys2Proof.Machine

namespace Sys2Proof.Proofs

open Sys2Proof.Machine

/-- Settles O40: entry by `takeException_enters`, the returns by `returnFromException_returned`. -/
theorem exceptionEntryAndReturns : Obligations.ExceptionEntryAndReturns := by
  unfold Obligations.ExceptionEntryAndReturns
  refine fun s d v ret clearI image => ⟨fun hx hm => ?_, fun hs hu => ?_⟩
  · obtain ⟨d, sb, pb, m, hd, hsb, hpb, hf, he⟩ := takeException_enters hx hm v ret clearI image
    obtain ⟨hret, hmod, himage⟩ := frame_reads (t := s.entered clearI m _ _ _) hf hx rfl
    exact ⟨_, d, sb, pb, he, hd, hsb, hpb, hret, hmod, himage, rfl, rfl, enteredPsr_eq _ _, rfl,
      fun h => by simp [State.entered, h], fun h => by simp [State.entered, h],
      rfl, rfl, rfl, rfl, rfl, rfl, rfl,
      ⟨rfl, rfl, rfl, rfl, rfl, rfl, rfl, rfl, rfl, rfl, rfl, rfl, rfl, rfl, rfl⟩, hf.frame⟩
  · obtain ⟨a, m, p, sb, h⟩ := readsFrame_ok hs
    have ⟨ha, hm, hp, hsb⟩ := h
    exact ⟨⟨a, m, p, sb, ha, hm, hp, hsb, rett_returned hu h d⟩,
      ⟨a, m, p, sb, ha, hm, hp, hsb, reti_returned hu h⟩⟩

/-- Settles O55: RETT 0 reads back the frame that entry has pushed (O40). -/
theorem exceptionAndReturnRestoreTheProgram : Obligations.ExceptionAndReturnRestoreTheProgram := by
  unfold Obligations.ExceptionAndReturnRestoreTheProgram
  intro s t v ret clearI image hx hm hde ht
  obtain ⟨d, sb, pb, m, -, -, -, hf, he⟩ := takeException_enters hx hm v ret clearI image
  simp only [hde, if_true] at he
  cases he.symm.trans ht
  obtain ⟨u, hex, hpc, hpsr, hregs, hsp0, hsp1, hrest⟩ := rett_of_entered
    (s := s.entered clearI m d s.mod s.sb) hde (enteredPsr_flagU s.psr clearI)
    (enteredPsr_flagS s.psr clearI) hx (frame_reads hf hx rfl)
  exact ⟨u, hex, hpc, hpsr, hregs, hsp0.trans (BitVec.sub_add_cancel _ _), hsp1, hrest⟩

end Sys2Proof.Proofs
end
